-- ==== Sys2Proof/Word.lean ====
section
/-! DEFINITION. The word types the spec sees as bits: characters of the two links, the two-byte and
four-byte fields of request bodies, the codes of the ADC and the wrapping 32-bit money counters. -/

namespace Sys2Proof

/-- A byte of the Host Link (R191) or the eight data bits of a Cash Bus character (R112). -/
abbrev Byte := BitVec 8

/-- A two-byte field of a request body (R195). -/
abbrev Half := BitVec 16

/-- A 32-bit count of money units that wraps modulo 2^32 (R25, R88). -/
abbrev Money := BitVec 32

/-- A code of the 12-bit converter, 0 to 4095 (R148). -/
abbrev AdcCode := BitVec 12

end Sys2Proof
end

