-- ==== Sys2Proof/Syntax.lean ====
section
/-! DEFINITION. The commands of the OLK-5240: one constructor of `Instr` for each row of
spec/opcode_table.json, in the table's order, with the operands the row's event carries.
A host request carries `len`, the length of its body as received (R193), and then its fields: a
number as the bytes of the body (`Byte`, `Half`), an enumerated field as an `Option`, `none` standing
for a byte that is none of the field's values (notes/assumptions/9.md). -/

namespace Sys2Proof

/-- The two price sets (R10). -/
inductive PriceSet
  | a
  | b
  deriving DecidableEq, Repr

/-- A selection's admin field (R2). -/
inductive Admin
  | enabled
  | suspended
  deriving DecidableEq, Repr

/-- How a vend position is chosen (R2, R6). -/
inductive Draw
  | first
  | rotate
  deriving DecidableEq, Repr

/-- A zone's mode (R161). -/
inductive ZoneMode
  | off
  | chilled
  deriving DecidableEq, Repr

/-- The two peripherals of the Cash Bus (R122): the coin validator at address 3, the bill validator
at address 5. -/
inductive Peripheral
  | coin
  | bill
  deriving DecidableEq, Repr

/-- The five loads, in load-number order (R132). -/
inductive Load
  | spiral
  | payout
  | compressor
  | defrost
  | damper
  deriving DecidableEq, Repr

/-- One position of a SEL.DEFINE body (R16, section 11.4): motor address, twin flag, capacity, stock
and turns per item. -/
structure PosReq where
  row : Byte
  col : Byte
  twin : Option Bool
  capacity : Byte
  stock : Byte
  turns : Byte
  deriving DecidableEq, Repr

/-- The body of SEL.DEFINE (R16, section 11.4). -/
structure DefineReq where
  code : Half
  admin : Option Admin
  zone : Byte
  priceA : Half
  priceB : Half
  draw : Option Draw
  count : Byte
  positions : List PosReq
  deriving DecidableEq, Repr

/-- The body of ZONE.SET (R162). -/
structure ZoneReq where
  zone : Byte
  mode : Option ZoneMode
  setpoint : Half
  differential : Half
  safetyLimit : Half
  holdThreshold : Half
  allowance : Half
  deriving DecidableEq, Repr

/-- The six codes of a slow pass converted before VREF, in the order of the scan list (R148). -/
structure SlowCodes where
  th1 : AdcCode
  th2 : AdcCode
  th3 : AdcCode
  thEvap : AdcCode
  thAmb : AdcCode
  vdrive : AdcCode
  deriving DecidableEq, Repr

/-- The seven codes of one slow pass: those converted before VREF, and VREF's (R148). -/
structure PassCodes extends SlowCodes where
  vref : AdcCode
  deriving DecidableEq, Repr

/-- The commands: the rows of spec/opcode_table.json. -/
inductive Instr
  /-- POWER_ON (R206), with the levels of the straps RATE1 RATE0. -/
  | powerOn (straps : BitVec 2)
  /-- RESET_PIN (R206), with the levels of the straps. -/
  | resetPin (straps : BitVec 2)
  /-- RESTORE_END (R206). -/
  | restoreEnd
  /-- PFW_ASSERTION (R203). -/
  | pfwAssertion
  /-- PFW_DEASSERTION (R135, R203). -/
  | pfwDeassertion
  /-- SAVE_END (R202). -/
  | saveEnd
  /-- DOOR_CHANGE (R200): a debounced reading of the door switch, open or closed. -/
  | doorChange (isOpen : Bool)
  /-- BAD_FRAME (R193). -/
  | badFrame
  /-- UNKNOWN_REQUEST (R193), with the CODE of the frame. -/
  | unknownRequest (code : Byte)
  /-- DISCARD_QUIET_TIME_EXPIRY (R192). -/
  | discardQuietTimeExpiry
  /-- FRAME_GAP_EXPIRY (R192). -/
  | frameGapExpiry
  /-- RESPONSE_END (R192, R205); the straps are read when the response is RESTART's. -/
  | responseEnd (straps : BitVec 2)
  /-- IDENT (R197). -/
  | ident (len : Nat)
  /-- NOTICES.READ (R199). -/
  | noticesRead (len : Nat)
  /-- SETTING.READ (R196). -/
  | settingRead (len : Nat) (num : Byte)
  /-- SETTING.WRITE (R196); the value is a signed 32-bit integer. -/
  | settingWrite (len : Nat) (num : Byte) (value : BitVec 32)
  /-- STORE.SAVE (R204). -/
  | storeSave (len : Nat)
  /-- RESTART (R205). -/
  | restart (len : Nat)
  /-- SEL.FIND (R14). -/
  | selFind (len : Nat) (code : Half)
  /-- SEL.NEXT (R15). -/
  | selNext (len : Nat) (after : Half)
  /-- SEL.DEFINE (R16). -/
  | selDefine (len : Nat) (d : DefineReq)
  /-- SEL.STOCK SET n (R19); `known` is false when the operation byte is no operation's
  (notes/assumptions/8.md). -/
  | selStockSet (len : Nat) (code : Half) (index : Byte) (known : Bool) (n : Half)
  /-- SEL.STOCK ADD n (R20), n signed. -/
  | selStockAdd (len : Nat) (code : Half) (index : Byte) (n : Half)
  /-- SEL.SUSPEND (R21). -/
  | selSuspend (len : Nat) (code : Half)
  /-- SEL.RESUME (R21). -/
  | selResume (len : Nat) (code : Half)
  /-- SEL.CLEAR_FAULT (R22). -/
  | selClearFault (len : Nat) (code : Half) (index : Byte)
  /-- SEL.RETIRE (R23). -/
  | selRetire (len : Nat) (code : Half)
  /-- PRICE.SET (R11). -/
  | priceSet (len : Nat) (code : Half) (set : Option PriceSet) (price : Half)
  /-- PRICE.SWAP (R12). -/
  | priceSwap (len : Nat)
  /-- VEND (R34). -/
  | vend (len : Nat) (code : Half)
  /-- CANCEL (R43). -/
  | cancel (len : Nat)
  /-- CASHLESS.OPEN (R44). -/
  | cashlessOpen (len : Nat) (amount : Half)
  /-- CASHLESS.CLOSE (R45). -/
  | cashlessClose (len : Nat)
  /-- SESSION.READ (R28). -/
  | sessionRead (len : Nat)
  /-- DRIVE.TEST (R52). -/
  | driveTest (len : Nat) (row : Byte) (col : Byte)
  /-- DRIVE.READ (R55). -/
  | driveRead (len : Nat)
  /-- TUBE.DEFINE (R74). -/
  | tubeDefine (len : Nat) (tube : Byte) (denom : Half) (capacity : Byte) (lowMark : Byte)
  /-- TUBE.SET_COUNT (R75). -/
  | tubeSetCount (len : Nat) (tube : Byte) (count : Half)
  /-- TUBE.ENABLE (R76). -/
  | tubeEnable (len : Nat) (tube : Byte)
  /-- TUBE.DISABLE (R76). -/
  | tubeDisable (len : Nat) (tube : Byte)
  /-- TUBE.READ (R78). -/
  | tubeRead (len : Nat)
  /-- CLASS.SET (R81); `tube` is none for "none". -/
  | classSet (len : Nat) (cls : Byte) (enabled : Bool) (tube : Option Byte)
  /-- BILL.SET (R82). -/
  | billSet (len : Nat) (cls : Byte) (enabled : Bool)
  /-- CLASS.READ (R83). -/
  | classRead (len : Nat)
  /-- TOTALS.READ (R89). -/
  | totalsRead (len : Nat)
  /-- TOTALS.CLEAR (R89). -/
  | totalsClear (len : Nat)
  /-- PAYOUT.TEST (R99). -/
  | payoutTest (len : Nat) (tube : Byte) (n : Byte)
  /-- PROBE.SET (R95). -/
  | probeSet (len : Nat) (p1 : Half) (p2 : Half) (p3 : Half) (p4 : Half)
  /-- PAYOUT.READ (R110). -/
  | payoutRead (len : Nat)
  /-- CASHBUS.RESET (R125), with the peripheral address. -/
  | cashbusReset (len : Nat) (address : Byte)
  /-- CASHBUS.READ (R130). -/
  | cashbusRead (len : Nat)
  /-- LOAD.READ (R146). -/
  | loadRead (len : Nat)
  /-- MEAS.READ (R159). -/
  | measRead (len : Nat)
  /-- ZONE.SET (R162). -/
  | zoneSet (len : Nat) (z : ZoneReq)
  /-- ZONE.READ (R173). -/
  | zoneRead (len : Nat)
  /-- ZONE.CLEAR_HOLD (R172). -/
  | zoneClearHold (len : Nat) (zone : Byte)
  /-- REFRIG.DEFROST (R187). -/
  | refrigDefrost (len : Nat)
  /-- REFRIG.READ (R188). -/
  | refrigRead (len : Nat)
  /-- INACTIVITY_EXPIRY (R47). -/
  | inactivityExpiry
  /-- SERVE_SLOT (R123). -/
  | serveSlot
  /-- MASTER_FRAME_SENT (R115). -/
  | masterFrameSent
  /-- REPLY_WINDOW_EXPIRY (R115). -/
  | replyWindowExpiry
  /-- REPLY_GAP_EXPIRY (R115). -/
  | replyGapExpiry
  /-- ACK (R117): the reply is one character 0x00 (R129). -/
  | ack
  /-- NAK (R124): the reply is 0xFF (R129). -/
  | nak
  /-- BAD_REPLY (R124): a reply bad by its characters (R112, R115). -/
  | badReply
  /-- SETUP_REPLY (R118), with the characters of the reply, the check last. -/
  | setupReply (chars : List Byte)
  /-- POLL_REPLY (R119), with the characters of the reply, the check last. -/
  | pollReply (chars : List Byte)
  /-- CONFIRMATION_SENT (R116). -/
  | confirmationSent
  /-- PROBE_TIME_EXPIRY (R126). -/
  | probeTimeExpiry (p : Peripheral)
  /-- STACK_WATCH_EXPIRY (R121). -/
  | stackWatchExpiry
  /-- FULL_SWITCH_CHANGE (R77): the full switch of a tube reads ACTIVE or CLEAR. -/
  | fullSwitchChange (tube : Fin 6) (active : Bool)
  /-- LOW_SWITCH_CHANGE (R77): the low switch of a tube reads LOW or NOT_LOW. -/
  | lowSwitchChange (tube : Fin 6) (low : Bool)
  /-- PAYOUT_GRANT (R100). -/
  | payoutGrant
  /-- PULSE_END (R101). -/
  | pulseEnd
  /-- EXIT_COUNT (R102, R106). -/
  | exitCount
  /-- EXIT_WINDOW_EXPIRY (R101). -/
  | exitWindowExpiry
  /-- SPIRAL_GRANT (R57), with the level of the watched home switch at that moment (R59). -/
  | spiralGrant (homeOpen : Bool)
  /-- POWER_TIMER_EXPIRY (R57). -/
  | powerTimerExpiry
  /-- HOME_SWITCH_OPENS (R59). -/
  | homeSwitchOpens
  /-- HOME_SWITCH_CLOSES (R60). -/
  | homeSwitchCloses
  /-- LEAVE_TIMER_EXPIRY (R59). -/
  | leaveTimerExpiry
  /-- TURN_TIMER_EXPIRY (R60). -/
  | turnTimerExpiry
  /-- CURRENT_SAMPLE (R62, R157), with the ISENSE code. -/
  | currentSample (code : AdcCode)
  /-- SETTLE_WINDOW_EXPIRY (R61). -/
  | settleWindowExpiry
  /-- CURTAIN_INTERRUPTION_BEGINS (R64). -/
  | curtainInterruptionBegins
  /-- CURTAIN_INTERRUPTION_ENDS (R64). -/
  | curtainInterruptionEnds
  /-- BLOCK_TIMER_EXPIRY (R64). -/
  | blockTimerExpiry
  /-- PASS_END (R148), with the codes of the pass. -/
  | passEnd (codes : PassCodes)
  /-- ZONE_TEMPERATURE (R164): zone `zone` takes the result handed to it. -/
  | zoneTemperature (zone : Fin 4)
  /-- VDRIVE_VALUE (R134). -/
  | vdriveValue
  /-- EVAPORATOR_VALUE (R189). -/
  | evaporatorValue
  /-- PROMOTION (R141). -/
  | promotion (load : Load)
  /-- DAMPER_GRANT (R167). -/
  | damperGrant
  /-- DAMPER_MOVE_END (R167). -/
  | damperMoveEnd
  /-- MINUTE_MARK (R169). -/
  | minuteMark
  /-- COMPRESSOR_GRANT (R180). -/
  | compressorGrant
  /-- DEFROST_GRANT (R185). -/
  | defrostGrant
  /-- LOCKOUT_EXPIRY (R179). -/
  | lockoutExpiry
  /-- START_WINDOW_END (R180). -/
  | startWindowEnd
  /-- MIN_RUN_EXPIRY (R181). -/
  | minRunExpiry
  /-- MAX_CONTINUOUS_RUN_EXPIRY (R183). -/
  | maxContinuousRunExpiry
  /-- DEFROST_INTERVAL_EXPIRY (R183). -/
  | defrostIntervalExpiry
  /-- HEATER_TIME_LIMIT_EXPIRY (R185). -/
  | heaterTimeLimitExpiry
  /-- DEFROST_WALL_TIME_EXPIRY (R185). -/
  | defrostWallTimeExpiry
  /-- DRIP_TIME_EXPIRY (R186). -/
  | dripTimeExpiry
  /-- RECOVERY_WINDOW_EXPIRY (R186). -/
  | recoveryWindowExpiry
  /-- POWER_LOSS (R202). -/
  | powerLoss
  /-- FRAME_START (R192). -/
  | frameStart
  /-- LEN_OUT_OF_RANGE (R192). -/
  | lenOutOfRange
  /-- CURTAIN_FIRST_READING (R72): the curtain reads interrupted or clear. -/
  | curtainFirstReading (interrupted : Bool)
  deriving DecidableEq, Repr

end Sys2Proof
end

