-- ==== Sys2Proof/Config.lean ====
section
/-! DEFINITION. What is fixed for the part: its identity and the sizes of its fixed collections. The
spec leaves no computed value open, so no free value stands here (notes/assumptions/26.md). -/

namespace Sys2Proof.Config

/-- The part code IDENT returns (R197). -/
def partCode : Nat := 0x5240

/-- The revision byte IDENT returns (R197). -/
def revision : Nat := 0x01

/-- The number of tubes (R73). -/
def tubeCount : Nat := 6

/-- The number of coin classes, and of bill classes (R79). -/
def classCount : Nat := 16

end Sys2Proof.Config
end

