-- ==== Sys2Proof/Machine/State.lean ====
section
/-! DEFINITION. The state of the OLK-5240 as plain data: the records of its twelve blocks, the
retained image, the queue of waiting commands, and the state right after reset. Times are in
milliseconds. -/

namespace Sys2Proof.Machine

/-- No fault: the spec gives the block no event that stops it. A failed motor, tube, sensor or
validator is recorded in `State` and reported in a notice (R8, R103, R154, R124). -/
inductive Fault : Type
  deriving DecidableEq, Repr

/-- Why a command has no meaning. -/
inductive Refusal
  /-- Raised by an arm of `exec` whose command has no meaning yet; safe. No arm raises it. -/
  | notModelled (mnemonic : String)
  deriving DecidableEq, Repr

/-! ### Selection Table -/

/-- The cause of a position's FAULT status (R3). -/
inductive FaultCause
  | jammed
  | noDrop
  | openMotor
  | interrupted
  deriving DecidableEq, Repr

/-- A drive unit: a motor address, or with `twin` the pair at columns `col` and `col + 1` (R4). -/
structure DriveUnit where
  row : Nat
  col : Nat
  twin : Bool
  deriving DecidableEq, Repr

/-- A position entry (R3); its status is FAULT exactly when `fault` is present. -/
structure Position where
  unit : DriveUnit
  capacity : Nat
  stock : Nat
  turns : Nat
  fault : Option FaultCause
  deriving DecidableEq, Repr

/-- A selection record (R2). -/
structure Selection where
  code : Nat
  admin : Admin
  zone : Nat
  priceA : Nat
  priceB : Nat
  draw : Draw
  cursor : Nat
  positions : List Position
  deriving DecidableEq, Repr

/-- SELT: the table and the active-set indicator (R1, R10). -/
structure Selt where
  table : List Selection
  active : PriceSet
  deriving DecidableEq, Repr

/-! ### Session Controller -/

/-- The six phases (R25). -/
inductive Phase
  | idle
  | cashCredit
  | cashlessReady
  | stacking
  | vending
  | paying
  deriving DecidableEq, Repr

/-- How a session was opened (R25). -/
inductive Kind
  | cash
  | cashless
  deriving DecidableEq, Repr

/-- A bill in escrow: its class and the value recorded when it was kept (R25, R80). -/
structure Escrow where
  cls : Nat
  value : Nat
  deriving DecidableEq, Repr

/-- The vend accepted and not yet ended (R25). -/
structure PendingVend where
  code : Nat
  index : Nat
  unit : DriveUnit
  turns : Nat
  price : Nat
  failoverUsed : Bool
  deriving DecidableEq, Repr

/-- SESC's session record (R25); `inactivity` is the time remaining while the timer runs. -/
structure Session where
  phase : Phase
  kind : Kind
  credit : Money
  escrow : Option Escrow
  authorized : Option Nat
  sessionSet : PriceSet
  pendingVend : Option PendingVend
  inactivity : Option Nat
  deriving DecidableEq, Repr

/-! ### Settings -/

/-- The priority of a load (R132). -/
inductive Priority
  | normal
  | high
  deriving DecidableEq, Repr

/-- Every setting of the settings table (R196), in the units of the table. -/
structure Settings where
  maxCredit : Nat
  inactivityTime : Nat
  multiVend : Bool
  failover : Bool
  billTest : Bool
  extraTurns : Nat
  settleWindow : Nat
  overcurrent : Nat
  openThreshold : Nat
  coinLimit : Nat
  budget : Nat
  promoteTime : Nat
  spiralWeight : Nat
  payoutWeight : Nat
  startWeight : Nat
  runWeight : Nat
  defrostWeight : Nat
  damperWeight : Nat
  spiralPriority : Priority
  payoutPriority : Priority
  compressorPriority : Priority
  defrostPriority : Priority
  damperPriority : Priority
  minOff : Nat
  minRun : Nat
  maxRun : Nat
  cutout : Int
  defrostInterval : Nat
  termination : Int
  heaterLimit : Nat
  dripTime : Nat
  deriving DecidableEq, Repr

/-! ### Spiral Drive Controller -/

/-- What an entry's outcome is reported against; it gives the entry's kind (R50). -/
inductive Origin
  | vend (code : Nat) (index : Nat)
  | test (row : Nat) (col : Nat)
  deriving DecidableEq, Repr

/-- An entry of the drive work list (R50). -/
structure DriveEntry where
  origin : Origin
  unit : DriveUnit
  turns : Nat
  allowance : Nat
  running : Bool
  delivered : Bool
  revolutions : Nat
  extra : Bool
  deriving DecidableEq, Repr

/-- The states of the sequencer (section 3.4). -/
inductive SeqState
  | idle
  | awaitPower
  | leavingHome
  | turning
  | settling
  deriving DecidableEq, Repr

/-- The outcomes of a drive entry, in the order of R70. -/
inductive DriveOutcome
  | delivered
  | jammed
  | openMotor
  | noDrop
  | noPower
  | interrupted
  deriving DecidableEq, Repr

/-- The drop-curtain state (R64). -/
inductive Curtain
  | clear
  | interrupted
  | blocked
  deriving DecidableEq, Repr

/-- SDC: the work list, the sequencer with its timers, current supervision and the curtain. -/
structure Sdc where
  list : List DriveEntry
  seq : SeqState
  /-- The unit whose row and column lines are driven (R58). -/
  energized : Option DriveUnit
  powerTimer : Option Nat
  leaveTimer : Option Nat
  turnTimer : Option Nat
  settleTimer : Option Nat
  /-- Samples taken in this energizing; the n-th is at 10 n ms (R62). -/
  sampleCount : Nat
  /-- Consecutive samples above the jam limit (R62). -/
  overCount : Nat
  /-- Every sample of the open-motor window so far was below the open limit (R63). -/
  windowBelow : Bool
  curtain : Curtain
  curtainRead : Bool
  blockTimer : Option Nat
  deriving DecidableEq, Repr

/-! ### Coin Handling Unit -/

/-- A tube's state (R73). -/
inductive TubeState
  | ok
  | jammed
  | disabled
  deriving DecidableEq, Repr

/-- The full switch field (R73). -/
inductive FullSwitch
  | active
  | clear
  | unknown
  deriving DecidableEq, Repr

/-- The low switch field (R73). -/
inductive LowSwitch
  | low
  | notLow
  | unknown
  deriving DecidableEq, Repr

/-- What an assigned tube holds (R73). -/
structure TubeAssign where
  denom : Nat
  capacity : Nat
  lowMark : Nat
  deriving DecidableEq, Repr

/-- A tube record (R73); unassigned when `assign` is none. -/
structure Tube where
  assign : Option TubeAssign
  count : Nat
  state : TubeState
  full : FullSwitch
  low : LowSwitch
  deriving DecidableEq, Repr

/-- A coin class (R79). -/
structure CoinClass where
  value : Nat
  enabled : Bool
  tube : Option Nat
  deriving DecidableEq, Repr

/-- A bill class (R79). -/
structure BillClass where
  value : Nat
  enabled : Bool
  deriving DecidableEq, Repr

/-- The seven cash totals (R88). -/
structure Totals where
  coinsIn : Money
  billsIn : Money
  cashSales : Money
  changePaid : Money
  cashlessSales : Money
  overpaid : Money
  servicePaid : Money
  deriving DecidableEq, Repr

/-- The four probe amounts (R95). -/
structure Probes where
  p1 : Nat
  p2 : Nat
  p3 : Nat
  p4 : Nat
  deriving DecidableEq, Repr

/-- The executor's state (R97). -/
inductive PayState
  | idle
  | awaitPower
  | ejecting
  deriving DecidableEq, Repr

/-- The kind of a payout (R97). -/
inductive PayKind
  | change
  | service
  deriving DecidableEq, Repr

/-- A plan entry (R97). -/
structure PlanEntry where
  tube : Nat
  denom : Nat
  remaining : Nat
  deriving DecidableEq, Repr

/-- An open exit window: its tube and the time left (R97). -/
structure ExitWindow where
  tube : Nat
  left : Nat
  deriving DecidableEq, Repr

/-- The payout executor (R97). -/
structure Payout where
  state : PayState
  kind : PayKind
  amount : Nat
  plan : List PlanEntry
  limit : Nat
  confirmed : Nat
  paid : Nat
  overpaid : Nat
  excluded : List Nat
  pulseNumber : Nat
  window : Option ExitWindow
  /-- A count was taken in the open window (R101). -/
  counted : Bool
  /-- The actuator is energized, with the time left of its pulse (R101). -/
  pulse : Option Nat
  lastPulsed : Option Nat
  /-- A SERVICE payout marked to end at its window for a change payout (R107). -/
  endMark : Bool
  /-- The amount of the change payout that waits for a marked SERVICE payout: the cash credit at the entry
  into PAYING (R32, R107; notes/assumptions/31.md). -/
  due : Nat
  deriving DecidableEq, Repr

/-- CHU. -/
structure Chu where
  tubes : List Tube
  coins : List CoinClass
  bills : List BillClass
  lastMap : Option (BitVec 16)
  lastCoinMask : Option (BitVec 16)
  lastBillMask : Option (BitVec 16)
  totals : Totals
  probes : Probes
  exactChange : Bool
  payout : Payout
  deriving DecidableEq, Repr

/-! ### Cash Bus Master -/

/-- The master messages with their data (R114). -/
inductive Message
  | reset
  | setup
  | poll
  | acceptMask (classes : BitVec 16)
  | routeMap (classes : BitVec 16)
  | escrowStack
  | escrowReturn
  deriving DecidableEq, Repr

/-- The link state of a peripheral (R122). -/
inductive LinkState
  | unknown
  | online
  | offline
  deriving DecidableEq, Repr

/-- What the ESCROW slot holds (R122). -/
inductive EscrowCommand
  | stack
  | giveBack
  deriving DecidableEq, Repr

/-- The pending set: one slot per command kind, in serving order (R122). -/
structure PendingSet where
  reset : Bool
  escrow : Option EscrowCommand
  setup : Bool
  routeMap : Option (BitVec 16)
  acceptMask : Option (BitVec 16)
  deriving DecidableEq, Repr

/-- A frame sent and not yet answered with success (R122). -/
structure Outstanding where
  message : Message
  attempt : Nat
  deriving DecidableEq, Repr

/-- A peripheral record (R122); a probe time of 0 is due. -/
structure PeriphRec where
  link : LinkState
  pending : PendingSet
  outstanding : Option Outstanding
  probeTime : Nat
  resetExpected : Bool
  stackWatch : Option Nat
  lastFault : Nat
  deriving DecidableEq, Repr

/-- The exchange on the bus (R113, R115, R116). -/
inductive Bus
  | idle
  /-- A master frame is being sent; `probe` for the RESET of R126. -/
  | sending (p : Peripheral) (m : Message) (probe : Bool)
  /-- A reply is awaited, with the time left of its window, which counts until the reply begins, and with the
  characters of the reply received so far: none for a framing error or a character out of place (R112,
  R115). -/
  | awaiting (p : Peripheral) (m : Message) (probe : Bool) (left : Nat) (got : List (Option Byte))
  /-- The confirmation character is to be sent. -/
  | confirming (p : Peripheral)
  deriving DecidableEq, Repr

/-- CBM. -/
structure Cbm where
  coin : PeriphRec
  bill : PeriphRec
  bus : Bus
  nextSlot : Peripheral
  slotLeft : Nat
  /-- Slots whose time came while an exchange was on the bus, oldest first (R123). -/
  late : List Peripheral
  deriving DecidableEq, Repr

/-! ### Load Budget Arbiter -/

/-- A load record (R133); `waited` is the time since the wait start. -/
inductive LoadRec
  | none
  | waiting (weight : Nat) (waited : Nat) (promoted : Bool)
  | granted (weight : Nat)
  deriving DecidableEq, Repr

/-- The five load records (R133). -/
structure Loads where
  spiral : LoadRec
  payout : LoadRec
  compressor : LoadRec
  defrost : LoadRec
  damper : LoadRec
  deriving DecidableEq, Repr

/-- The supply band (R134). -/
inductive Band
  | full
  | reduced
  | half
  | zero
  deriving DecidableEq, Repr

/-- LBA. -/
structure Lba where
  loads : Loads
  /-- The grants made and not yet taken by their requesters, pass by pass, those of a pass in the order in which
  it made them (R137, R142). -/
  untaken : List (List Load)
  band : Band
  vdrive : Option Nat
  /-- The power-fail warning is asserted (R135, R203). -/
  pfw : Bool
  deriving DecidableEq, Repr

/-! ### Measurement Scanner -/

/-- The kind of a sensor fault (R153). -/
inductive SensorFault
  | opened
  | short
  | reference
  deriving DecidableEq, Repr

/-- The state of a thermistor channel (R153). -/
inductive ChannelState
  | notMeasured
  | valid
  | sensorFault
  deriving DecidableEq, Repr

/-- The last four good samples, oldest first (R153). -/
structure Ring where
  r0 : Int
  r1 : Int
  r2 : Int
  r3 : Int
  deriving DecidableEq, Repr

/-- A thermistor channel's record (R153). -/
structure Channel where
  state : ChannelState
  ring : Option Ring
  value : Option Int
  fault : Option SensorFault
  goodCount : Nat
  lastCode : Option AdcCode
  deriving DecidableEq, Repr

/-- What a channel hands its owner (R155). -/
inductive Handed
  | value (t : Int)
  | fault
  deriving DecidableEq, Repr

/-- The five thermistor channels, or one value for each (R148). -/
structure Five (α : Type) where
  th1 : α
  th2 : α
  th3 : α
  thEvap : α
  thAmb : α
  deriving DecidableEq, Repr

/-- MSC. -/
structure Msc where
  channels : Five Channel
  /-- The pass buffer: the six codes of a pass converted before VREF; none when empty (R148). -/
  buffer : Option SlowCodes
  refFault : Bool
  failCount : Nat
  vrefCode : AdcCode
  vdrive : Option Nat
  /-- The last current sample of the present energizing, in mA (R159). -/
  lastSample : Option Nat
  /-- The time to the next current sample (R157). -/
  sampleLeft : Nat
  passLeft : Nat
  /-- Results handed and not yet taken by their owners (R148, R155, R158). -/
  handed : Five (Option Handed)
  handedVdrive : Option Nat
  deriving DecidableEq, Repr

/-! ### Zone Thermal Controller -/

/-- The chilled zones (R161). -/
inductive ZoneNo
  | z1
  | z2
  | z3
  deriving DecidableEq, Repr

/-- A zone's temperature (R161). -/
inductive ZoneTemp
  | value (t : Int)
  | notYet
  | sensorFault
  deriving DecidableEq, Repr

/-- The cause of a hold (R161). -/
inductive HoldCause
  | exposure
  | sensor
  | restore
  deriving DecidableEq, Repr

/-- A damper's position (R161). -/
inductive Damper
  | closed
  | opened
  | moving
  | unknown
  deriving DecidableEq, Repr

/-- A damper target (R161). -/
inductive Target
  | closed
  | opened
  deriving DecidableEq, Repr

/-- The settings of a chilled zone with its mode (R161). -/
structure ZoneSettings where
  mode : ZoneMode
  setpoint : Int
  differential : Int
  safetyLimit : Int
  holdThreshold : Nat
  allowance : Int
  deriving DecidableEq, Repr

/-- A chilled zone's record (R161). -/
structure Zone where
  cfg : ZoneSettings
  temp : ZoneTemp
  exposure : Nat
  hold : Option HoldCause
  damper : Damper
  target : Target
  restorePending : Bool
  deriving DecidableEq, Repr

/-- The running damper move (R166). -/
structure Move where
  zone : ZoneNo
  target : Target
  left : Nat
  deriving DecidableEq, Repr

/-- ZTC. -/
structure Ztc where
  ambient : ZoneTemp
  z1 : Zone
  z2 : Zone
  z3 : Zone
  queue : List (ZoneNo × Target)
  running : Option Move
  demand : Bool
  /-- The defrost allowance indication last handed by RFC (R175, R186). -/
  allowance : Bool
  minuteLeft : Nat
  deriving DecidableEq, Repr

/-! ### Refrigeration Controller -/

/-- The seven states (R176). -/
inductive RfcState
  | lockout
  | ready
  | waitPower
  | starting
  | running
  | defrost
  | drip
  deriving DecidableEq, Repr

/-- RFC (R176). -/
structure Rfc where
  state : RfcState
  demand : Bool
  evap : Option Int
  offTime : Nat
  runTime : Nat
  accumulator : Nat
  defrostPending : Bool
  wallTime : Nat
  heaterTime : Nat
  dripTime : Nat
  recovery : Option Nat
  startWindow : Option Nat
  heaterOn : Bool
  deriving DecidableEq, Repr

/-! ### Host Link Interface -/

/-- The outcomes a VEND_OUTCOME notice reports (R195). -/
inductive VendOutcome
  | drive (o : DriveOutcome)
  | escrowFault
  deriving DecidableEq, Repr

/-- The reasons of the BILL notice (R195). -/
inductive BillReason
  | classDisabled
  | notAccepting
  | escrowHeld
  | overMax
  | noProduct
  | noChange
  | validatorReturned
  | validatorLost
  | cancelled
  | timedOut
  | unexpectedStack
  deriving DecidableEq, Repr

/-- The reasons of the TUBE notice (R78). -/
inductive TubeReason
  | reconciled
  | jammed
  | mappingDropped
  deriving DecidableEq, Repr

/-- The STORE results (R198). -/
inductive StoreResult
  | restored
  | lost
  | saved
  deriving DecidableEq, Repr

/-- The conditions of the REFRIG notice (R149). -/
inductive RefrigCondition
  | measFault
  | measClear
  | evapFault
  | evapClear
  deriving DecidableEq, Repr

/-- A notice with its payload, in the order of R198. -/
inductive Notice
  | vendOutcome (code : Nat) (index : Nat) (o : VendOutcome) (charged : Nat)
  | session (phase : Phase) (credit : Money) (escrow : Nat)
  | payout (paid : Nat) (shortfall : Nat) (overpaid : Nat)
  | cashlessSettle (charged : Nat)
  | testOutcome (row : Nat) (col : Nat) (o : DriveOutcome)
  | zone (z : ZoneNo) (hold : Option HoldCause)
  | exactChange (flag : Bool)
  | tube (t : Nat) (state : TubeState) (count : Nat) (reason : TubeReason) (cls : Option Nat)
  | peripheral (p : Peripheral) (online : Bool) (code : Nat)
  | door (isOpen : Bool)
  | dropUnattributed
  | bill (reason : BillReason)
  | store (r : StoreResult)
  | supply (band : Band)
  | refrig (c : RefrigCondition) (kind : Option SensorFault)
  deriving DecidableEq, Repr

/-- The status values (R195). -/
inductive Status
  | ok
  | accepted
  | clamped
  | notFound
  | busy
  | range
  | conflict
  | tableFull
  | priceInUse
  | noSession
  | sessionOpen
  | creditLow
  | notAvailable
  | doorOpen
  | doorClosed
  | binBlocked
  | tooWarm
  | held
  | notEmpty
  | queueFull
  | badFrame
  | badLength
  | unknownRequest
  deriving DecidableEq, Repr

/-- A field of a response body with its width: one, two or four bytes (R195). -/
inductive Field
  | byte (n : Nat)
  | half (n : Int)
  | full (n : Int)
  deriving DecidableEq, Repr

/-- A response: its response code, status and body (R193, R195). -/
structure Response where
  code : Nat
  status : Status
  body : List Field
  deriving DecidableEq, Repr

/-- The receive slot (R192). `receiving` holds the bytes collected behind the first 0x5A, oldest first;
`discarding` is RECEIVING through the discard of a bad LEN; `answering` and `waitingSave` are ANSWERING,
the latter until a save ends (R204, R205). -/
inductive Slot
  | idle
  | receiving (got : List Byte)
  | discarding
  | answering (r : Response) (thenReset : Bool)
  | waitingSave (isRestart : Bool)
  deriving DecidableEq, Repr

/-- HLI. A notice stands with its repeated flag, in the order of R198. -/
structure Hli where
  slot : Slot
  notices : List (Notice × Bool)
  rate : BitVec 2
  doorOpen : Bool
  deriving DecidableEq, Repr

/-! ### Retained Store -/

/-- What the image keeps of a tube (R90). -/
structure SavedTube where
  assign : Option TubeAssign
  count : Nat
  state : TubeState
  deriving DecidableEq, Repr

/-- What the image keeps of a chilled zone (R175). -/
structure SavedZone where
  cfg : ZoneSettings
  exposure : Nat
  hold : Option HoldCause
  deriving DecidableEq, Repr

/-- The image (R201). -/
structure Image where
  table : List Selection
  active : PriceSet
  phase : Phase
  kind : Kind
  credit : Money
  sessionSet : PriceSet
  tubes : List SavedTube
  coins : List CoinClass
  bills : List BillClass
  totals : Totals
  probes : Probes
  z1 : SavedZone
  z2 : SavedZone
  z3 : SavedZone
  accumulator : Nat
  defrostPending : Bool
  settings : Settings
  deriving DecidableEq, Repr

/-- RST (R201, R202): `image` is none when the validity mark is INVALID or no image was ever written;
`saving` is the snapshot while WRITING; `restored` is the result of the last restore (R197). -/
structure Rst where
  image : Option Image
  saving : Option Image
  restored : Bool
  deriving DecidableEq, Repr

/-! ### The part -/

/-- The supply of the part: off, restoring after a power-on (R206), or running. -/
inductive Power
  | off
  | restoring
  | running
  deriving DecidableEq, Repr

/-- The whole state. `pending` is the model's own: the commands that wait, oldest first. -/
structure State where
  pending : List Instr
  power : Power
  settings : Settings
  selt : Selt
  sesc : Session
  sdc : Sdc
  chu : Chu
  cbm : Cbm
  lba : Lba
  msc : Msc
  ztc : Ztc
  rfc : Rfc
  hli : Hli
  rst : Rst
  deriving DecidableEq, Repr

/-! ### After reset -/

/-- The defaults of the settings table (R196). -/
def Settings.default : Settings where
  maxCredit := 5000
  inactivityTime := 60
  multiVend := false
  failover := true
  billTest := true
  extraTurns := 1
  settleWindow := 1500
  overcurrent := 1800
  openThreshold := 150
  coinLimit := 50
  budget := 60
  promoteTime := 20
  spiralWeight := 8
  payoutWeight := 5
  startWeight := 35
  runWeight := 12
  defrostWeight := 20
  damperWeight := 2
  spiralPriority := .high
  payoutPriority := .high
  compressorPriority := .normal
  defrostPriority := .normal
  damperPriority := .normal
  minOff := 180
  minRun := 60
  maxRun := 120
  cutout := -250
  defrostInterval := 6
  termination := 80
  heaterLimit := 30
  dripTime := 2

/-- An IDLE session (R25, R49). The kind and the session set have no meaning in IDLE: DESIGN CHOICE,
unsafe (notes/assumptions/7.md). -/
def Session.idle : Session where
  phase := .idle
  kind := .cash
  credit := 0
  escrow := none
  authorized := none
  sessionSet := .a
  pendingVend := none
  inactivity := none

/-- SDC after power-on (R72). The curtain before its first reading: DESIGN CHOICE, unsafe
(notes/assumptions/11.md). -/
def Sdc.initial : Sdc where
  list := []
  seq := .idle
  energized := none
  powerTimer := none
  leaveTimer := none
  turnTimer := none
  settleTimer := none
  sampleCount := 0
  overCount := 0
  windowBelow := true
  curtain := .clear
  curtainRead := false
  blockTimer := none

/-- An unassigned tube as after a lost image (R90). -/
def Tube.unassigned : Tube where
  assign := none
  count := 0
  state := .disabled
  full := .unknown
  low := .unknown

/-- An unused coin class (R90). -/
def CoinClass.unused : CoinClass := ⟨0, false, none⟩

/-- An unused bill class (R90). -/
def BillClass.unused : BillClass := ⟨0, false⟩

/-- All totals 0 (R90). -/
def Totals.zero : Totals := ⟨0, 0, 0, 0, 0, 0, 0⟩

/-- The idle executor (R111). -/
def Payout.initial : Payout where
  state := .idle
  kind := .change
  amount := 0
  plan := []
  limit := 1
  confirmed := 0
  paid := 0
  overpaid := 0
  excluded := []
  pulseNumber := 1
  window := none
  counted := false
  pulse := none
  lastPulsed := none
  endMark := false
  due := 0

/-- CHU after a lost image (R90, R111). -/
def Chu.initial : Chu where
  tubes := List.replicate 6 Tube.unassigned
  coins := List.replicate 16 CoinClass.unused
  bills := List.replicate 16 BillClass.unused
  lastMap := none
  lastCoinMask := none
  lastBillMask := none
  totals := Totals.zero
  probes := ⟨0, 0, 0, 0⟩
  exactChange := false
  payout := Payout.initial

/-- The empty pending set (R131). -/
def PendingSet.empty : PendingSet := ⟨false, none, false, none, none⟩

/-- A peripheral record after power-on (R131). -/
def PeriphRec.initial : PeriphRec where
  link := .unknown
  pending := PendingSet.empty
  outstanding := none
  probeTime := 0
  resetExpected := false
  stackWatch := none
  lastFault := 0

/-- CBM after power-on (R131). -/
def Cbm.initial : Cbm where
  coin := PeriphRec.initial
  bill := PeriphRec.initial
  bus := .idle
  nextSlot := .coin
  slotLeft := 50
  late := []

/-- LBA after power-on (R147), with the request ZTC makes for its queue, of weight `w` (R175). -/
def Lba.initial (w : Nat) : Lba where
  loads := ⟨.none, .none, .none, .none, .waiting w 0 false⟩
  untaken := []
  band := .zero
  vdrive := none
  pfw := false

/-- A channel after power-on (R160). -/
def Channel.initial : Channel := ⟨.notMeasured, none, none, none, 0, none⟩

/-- MSC after power-on (R160). The VREF code before the first pass: DESIGN CHOICE, unsafe
(notes/assumptions/12.md). -/
def Msc.initial : Msc where
  channels := ⟨Channel.initial, Channel.initial, Channel.initial, Channel.initial, Channel.initial⟩
  buffer := none
  refFault := false
  failCount := 0
  vrefCode := 0
  vdrive := none
  lastSample := none
  sampleLeft := 0
  passLeft := 500
  handed := ⟨none, none, none, none, none⟩
  handedVdrive := none

/-- The default settings of a chilled zone (R161). -/
def ZoneSettings.default : ZoneSettings := ⟨.off, 40, 20, 80, 600, 20⟩

/-- A chilled zone after power-on, from what the image kept (R175). -/
def SavedZone.start (z : SavedZone) : Zone where
  cfg := z.cfg
  temp := .notYet
  exposure := z.exposure
  hold := z.hold
  damper := .unknown
  target := .closed
  restorePending := z.cfg.mode == .chilled

/-- A zone as an invalid image leaves it (R175). -/
def SavedZone.initial : SavedZone := ⟨ZoneSettings.default, 0, none⟩

/-- ZTC after power-on (R175). -/
def Ztc.initial (z1 z2 z3 : SavedZone) : Ztc where
  ambient := .notYet
  z1 := z1.start
  z2 := z2.start
  z3 := z3.start
  queue := [(.z1, .closed), (.z2, .closed), (.z3, .closed)]
  running := none
  demand := false
  allowance := false
  minuteLeft := 60000

/-- RFC after power-on (R190). -/
def Rfc.initial (accumulator : Nat) (pending : Bool) : Rfc where
  state := .lockout
  demand := false
  evap := none
  offTime := 0
  runTime := 0
  accumulator := accumulator
  defrostPending := pending
  wallTime := 0
  heaterTime := 0
  dripTime := 0
  recovery := none
  startWindow := none
  heaterOn := false

/-- HLI after power-on: the STORE notice alone (R206). -/
def Hli.initial (r : StoreResult) (straps : BitVec 2) : Hli where
  slot := .idle
  notices := [(.store r, false)]
  rate := straps
  doorOpen := true

/-- The part right after reset: after a power-on that found no image and sampled straps 0, its restore
ended (R206 and the reset tables of the chapters). The absent image, the straps and the ended
restore: DESIGN CHOICE, unsafe (notes/assumptions/1.md). -/
def State.reset : State where
  pending := []
  power := .running
  settings := Settings.default
  selt := ⟨[], .a⟩
  sesc := Session.idle
  sdc := Sdc.initial
  chu := Chu.initial
  cbm := Cbm.initial
  lba := Lba.initial 2
  msc := Msc.initial
  ztc := Ztc.initial SavedZone.initial SavedZone.initial SavedZone.initial
  rfc := Rfc.initial 0 false
  hli := Hli.initial .lost 0
  rst := ⟨none, none, false⟩

end Sys2Proof.Machine
end

