-- ==== Sys2Proof/Machine/Operands.lean ====
section
/-! DEFINITION. Every operand form: clamps and ranges of request fields, motor addresses, the
conversions of ADC codes, the frames of the Cash Bus read and written, and the encoding of response
bodies and frames. -/

namespace Sys2Proof.Machine

/-! ### Ranges and clamps -/

/-- `lo ≤ v ≤ hi`: a range, both ends included (00, Numbers and arithmetic). -/
def inRange (lo hi v : Int) : Bool := decide (lo ≤ v) && decide (v ≤ hi)

/-- A value outside its range is clamped to the nearest end (00, Numbers and arithmetic). -/
def clampInt (lo hi v : Int) : Int := if v < lo then lo else if hi < v then hi else v

/-- The time in whole seconds, rounded up (R28, R188). -/
def secondsUp (ms : Nat) : Nat := (ms + 999) / 1000

/-- The time in whole seconds, rounded down (R146, R188). -/
def secondsDown (ms : Nat) : Nat := ms / 1000

/-! ### Motor addresses -/

/-- The addresses a drive unit claims (R4). -/
def DriveUnit.addrs (u : DriveUnit) : List (Nat × Nat) :=
  if u.twin then [(u.row, u.col), (u.row, u.col + 1)] else [(u.row, u.col)]

/-- Two drive units share a motor address (R13, R17). -/
def DriveUnit.meets (u v : DriveUnit) : Bool := u.addrs.any fun a => v.addrs.contains a

/-- A row A-H and a column 0-9 (00, Names and addresses; R52). -/
def motorAddrOk (row col : Nat) : Bool := decide (row ≤ 7) && decide (col ≤ 9)

/-! ### Measurement conversions -/

/-- A thermistor sample (R151). -/
inductive Sample
  | good (t : Int)
  | fault (k : SensorFault)
  deriving DecidableEq, Repr

/-- The breakpoints of the conversion table, codes descending (section 8.3). -/
def thermistorTable : List (Int × Int) :=
  [(3996, -400), (3900, -300), (3740, -200), (3629, -150), (3495, -100), (3337, -50), (3156, 0),
   (2955, 50), (2738, 100), (2510, 150), (2278, 200), (2048, 250), (1825, 300), (1614, 350),
   (1419, 400), (1081, 500), (816, 600)]

/-- Interpolation in the interval with `c_k > c ≥ c_(k+1)` (R152); the quotient is of positive
numbers, so it is the floor. -/
def interpolate : List (Int × Int) → Int → Int
  | (ck, tk) :: (cn, tn) :: rest, c =>
    if cn ≤ c then tk + ((ck - c) * (tn - tk)) / (ck - cn) else interpolate ((cn, tn) :: rest) c
  | [(_, tk)], _ => tk
  | [], _ => 0

/-- Sorting and converting a thermistor code (R151, R152). -/
def sampleOf (code : AdcCode) : Sample :=
  let c := code.toNat
  if 4056 ≤ c then .fault .opened
  else if 3996 ≤ c then .good (-400)
  else if 817 ≤ c then .good (interpolate thermistorTable c)
  else if 40 ≤ c then .good 600
  else .fault .short

/-- The motor current in mA (R157). -/
def currentOf (code : AdcCode) : Nat := code.toNat * 2500 / 4095

/-- The drive supply in mV (R158). -/
def vdriveOf (code : AdcCode) : Nat := code.toNat * 30000 / 4095

/-- The ring's average rounded up, toward warm (R153). -/
def Ring.average (r : Ring) : Int := -((-(r.r0 + r.r1 + r.r2 + r.r3)) / 4)

/-- A ring with all four places `t` (R153). -/
def Ring.fill (t : Int) : Ring := ⟨t, t, t, t⟩

/-- The oldest place dropped and `t` added as newest (R153). -/
def Ring.push (r : Ring) (t : Int) : Ring := ⟨r.r1, r.r2, r.r3, t⟩

/-! ### Class sets -/

/-- The set of the classes `k` below 16 with `f k`, class 0 in the least significant bit (R129). -/
def classSetOf (f : Nat → Bool) : BitVec 16 :=
  BitVec.ofNat 16 ((List.range 16).foldl (fun acc k => if f k then acc + 2 ^ k else acc) 0)

/-- The classes of a set, ascending. -/
def classesOf (s : BitVec 16) : List Nat := (List.range 16).filter fun k => s.getLsbD k

/-! ### Cash Bus frames -/

/-- The address of a peripheral (R122). -/
def addressOf : Peripheral → Nat
  | .coin => 3
  | .bill => 5

/-- The message codes (R114). -/
def Message.code : Message → Nat
  | .reset => 0
  | .setup => 1
  | .poll => 2
  | .acceptMask _ => 3
  | .routeMap _ => 4
  | .escrowStack => 5
  | .escrowReturn => 6

/-- The data characters of a message (R114, R129). -/
def Message.data : Message → List Byte
  | .acceptMask s => [s.setWidth 8, (s >>> 8).setWidth 8]
  | .routeMap s => [s.setWidth 8, (s >>> 8).setWidth 8]
  | _ => []

/-- The message expects ACK, and not a data reply (R114). -/
def Message.expectsAck : Message → Bool
  | .setup => false
  | .poll => false
  | _ => true

/-- The sum modulo 256 of the data bits of characters (R114, R115). -/
def charSum (cs : List Byte) : Byte := cs.foldl (· + ·) 0

/-- The characters of a master frame: address character, data, check (R114, R129). -/
def masterFrame (p : Peripheral) (m : Message) : List Byte :=
  let head := BitVec.ofNat 8 (addressOf p * 16 + m.code) :: m.data
  head ++ [charSum head]

/-- The characters of a master frame with their mode bits: 1 on the first alone (R112). -/
def masterFrameModes (p : Peripheral) (m : Message) : List (Byte × Bool) :=
  match masterFrame p m with
  | [] => []
  | a :: rest => (a, true) :: rest.map fun c => (c, false)

/-- The events of a POLL reply (R120, R129). -/
inductive BusEvent
  | coinAccepted (cls : Nat) (toTube : Bool)
  | coinRejected
  | billEscrowed (cls : Nat)
  | billStacked
  | billReturned
  | deviceFault (code : Nat)
  | justReset
  deriving DecidableEq, Repr

/-- One event from its code and argument; none when the code is unknown or a bit that R129 requires
to be 0 is not (R119). -/
def busEventOf (code arg : Byte) : Option BusEvent :=
  let a := arg.toNat
  match code.toNat with
  | 1 => if a < 32 then some (.coinAccepted (a % 16) (decide (16 ≤ a))) else none
  | 2 => if a = 0 then some .coinRejected else none
  | 3 => if a < 16 then some (.billEscrowed a) else none
  | 4 => if a = 0 then some .billStacked else none
  | 5 => if a = 0 then some .billReturned else none
  | 6 => some (.deviceFault a)
  | 7 => if a = 0 then some .justReset else none
  | _ => none

/-- The events of a list of characters taken two by two (R119). -/
def busEventsOf : List Byte → Option (List BusEvent)
  | [] => some []
  | [_] => none
  | c :: a :: rest =>
    match busEventOf c a, busEventsOf rest with
    | some e, some es => some (e :: es)
    | _, _ => none

/-- The last character is the check of those before it (R115). -/
def checkRight (cs : List Byte) : Bool := cs.getLast? == some (charSum cs.dropLast)

/-- A POLL reply taken as good, as its events: the count at most 8, the declared length, a right
check and valid content (R115, R119). -/
def pollEventsOf (cs : List Byte) : Option (List BusEvent) :=
  match cs with
  | [] => none
  | n :: rest =>
    if n.toNat ≤ 8 && rest.length == 2 * n.toNat + 1 && checkRight cs then busEventsOf rest.dropLast
    else none

/-- Two-character values, high character first (R118). -/
def classValuesOf : List Byte → List Nat
  | h :: l :: rest => (h.toNat * 256 + l.toNat) :: classValuesOf rest
  | _ => []

/-- A SETUP reply taken as good, as its sixteen values: 33 characters and a right check (R115,
R118). -/
def setupValuesOf (cs : List Byte) : Option (List Nat) :=
  if cs.length == 33 && checkRight cs then some (classValuesOf cs.dropLast) else none

/-! ### The judgment of a reply from its characters (R112, R115, R129) -/

/-- The character ACK (R129). -/
def ackCharacter : Byte := 0x00

/-- The character NAK (R129). -/
def nakCharacter : Byte := 0xFF

/-- The judgments of R115's table. -/
inductive Judgment
  | ack
  | nak
  | bad
  | good
  deriving DecidableEq, Repr

/-- A reply has reached its declared length, or is NAK at once (R115): one character for a message that
expects ACK, 33 for SETUP, and for POLL what its first character gives. A POLL reply whose first character is
damaged declares no length and ends at its gap (notes/assumptions/44.md). -/
def replyEnded (m : Message) (cs : List (Option Byte)) : Bool :=
  if m.expectsAck then decide (1 ≤ cs.length)
  else
    match m, cs with
    | .poll, some n :: _ => n == nakCharacter || decide (2 + 2 * n.toNat ≤ cs.length)
    | .poll, _ => false
    | _, _ => decide (33 ≤ cs.length)

/-- The content of a data reply is valid and its check right (R115, R118, R119). -/
def dataGood (m : Message) (bytes : List Byte) : Bool :=
  match m with
  | .setup => (setupValuesOf bytes).isSome
  | .poll => (pollEventsOf bytes).isSome
  | _ => false

/-- The judgment of an ended reply (R115); one that holds a framing error or a character out of place, `none`
among its characters, is bad (R112). -/
def judge (m : Message) (cs : List (Option Byte)) : Judgment :=
  if none ∈ cs then .bad
  else
    let bytes := cs.filterMap id
    if bytes = [nakCharacter] then .nak
    else if m.expectsAck then (if bytes = [ackCharacter] then .ack else .bad)
    else if dataGood m bytes then .good else .bad

/-! ### Response encoding (R195; notes/assumptions/10.md) -/

/-- The bytes of a field, high byte first, signed values in two's complement (R195). -/
def Field.bytes : Field → List Byte
  | .byte n => [BitVec.ofNat 8 n]
  | .half n =>
    let w := BitVec.ofInt 16 n
    [(w >>> 8).setWidth 8, w.setWidth 8]
  | .full n =>
    let w := BitVec.ofInt 32 n
    [(w >>> 24).setWidth 8, (w >>> 16).setWidth 8, (w >>> 8).setWidth 8, w.setWidth 8]

/-- The bytes of a body. -/
def bodyBytes : List Field → List Byte
  | [] => []
  | f :: fs => f.bytes ++ bodyBytes fs

/-- The status values (R195). -/
def Status.value : Status → Nat
  | .ok => 0x00
  | .accepted => 0x01
  | .clamped => 0x02
  | .notFound => 0x03
  | .busy => 0x04
  | .range => 0x05
  | .conflict => 0x06
  | .tableFull => 0x07
  | .priceInUse => 0x08
  | .noSession => 0x09
  | .sessionOpen => 0x0A
  | .creditLow => 0x0B
  | .notAvailable => 0x0C
  | .doorOpen => 0x0D
  | .doorClosed => 0x0E
  | .binBlocked => 0x0F
  | .tooWarm => 0x10
  | .held => 0x11
  | .notEmpty => 0x12
  | .queueFull => 0x13
  | .badFrame => 0x14
  | .badLength => 0x15
  | .unknownRequest => 0x16

/-- The bytes of a response frame: 0x5A, LEN, response code, STATUS, body, CHK, with the sum of LEN
through CHK 0 modulo 256 (R195). -/
def Response.frame (r : Response) : List Byte :=
  let body := bodyBytes r.body
  let summed := BitVec.ofNat 8 (body.length + 2) :: BitVec.ofNat 8 r.code ::
    BitVec.ofNat 8 r.status.value :: body
  0x5A#8 :: (summed ++ [0 - charSum summed])

/-- A flag: 0 clear, 1 set; also off and on (R195). -/
def Field.flag (b : Bool) : Field := .byte (if b then 1 else 0)

/-- An optional field: one byte, then the value when present (R195). -/
def optField (x : Option (List Field)) : List Field :=
  match x with
  | none => [.byte 0]
  | some fs => .byte 1 :: fs

/-- A field that its rule gives under a condition alone: an optional field, present where the condition holds
(R195). -/
def fieldWhen (present : Prop) [Decidable present] (fs : List Field) : List Field :=
  optField (if present then some fs else none)

/-- A list of varying length, preceded by its count (R195). -/
def listField (xs : List (List Field)) : List Field := .byte xs.length :: xs.flatten

/-- A money value (R195). -/
def Field.money (n : Nat) : Field := .full n

/-- A time (R195). -/
def Field.time (n : Nat) : Field := .full n

/-- A motor address (section 11.4). -/
def motorField (row col : Nat) : List Field := [.byte row, .byte col]

/-- A drive unit: left address and twin flag (R14). -/
def DriveUnit.fields (u : DriveUnit) : List Field := motorField u.row u.col ++ [.flag u.twin]

/-- A temperature that may be not-yet-measured or SENSOR_FAULT (R195). -/
def ZoneTemp.fields : ZoneTemp → List Field
  | .value t => [.byte 0, .half t]
  | .notYet => [.byte 1]
  | .sensorFault => [.byte 2]

/-- The two sets (R195). -/
def setField (p : PriceSet) : Field := .byte (match p with | .a => 0 | .b => 1)

/-- A hold: none or held, then its cause (R161, R195). -/
def holdFields (h : Option HoldCause) : List Field :=
  .flag h.isSome :: optField (h.map fun c => [.byte c.ctorIdx])

/-- The outcomes of R70, then ESCROW_FAULT (R195). -/
def VendOutcome.field : VendOutcome → Field
  | .drive o => .byte o.ctorIdx
  | .escrowFault => .byte 6

/-- The number of a chilled zone. -/
def ZoneNo.num : ZoneNo → Nat
  | .z1 => 1
  | .z2 => 2
  | .z3 => 3

/-- The place of a notice's kind in the table of R198, counting from 1. -/
def Notice.kindNo : Notice → Nat
  | .vendOutcome .. => 1
  | .session .. => 2
  | .payout .. => 3
  | .cashlessSettle .. => 4
  | .testOutcome .. => 5
  | .zone .. => 6
  | .exactChange .. => 7
  | .tube .. => 8
  | .peripheral .. => 9
  | .door .. => 10
  | .dropUnattributed => 11
  | .bill .. => 12
  | .store .. => 13
  | .supply .. => 14
  | .refrig .. => 15

/-- The payload of a notice (R198, R195). PERIPHERAL gives ONLINE and OFFLINE as 1 and 2, their places in
R122, not in R198's own list, the model's choice (notes/assumptions/10.md). -/
def Notice.payload : Notice → List Field
  | .vendOutcome c i o ch => [.half c, .byte i, o.field, .money ch]
  | .session p cr e => [.byte p.ctorIdx, .money cr.toNat, .money e]
  | .payout p sh ov => [.money p, .money sh, .money ov]
  | .cashlessSettle ch => [.money ch]
  | .testOutcome r c o => motorField r c ++ [.byte o.ctorIdx]
  | .zone z h => .byte z.num :: holdFields h
  | .exactChange f => [.flag f]
  | .tube t st n r cls =>
    [.byte t, .byte st.ctorIdx, .byte n, .byte r.ctorIdx] ++ optField (cls.map fun k => [.byte k])
  | .peripheral p on c => [.byte (addressOf p), .byte (if on then 1 else 2), .byte c]
  | .door o => [.byte (if o then 0 else 1)]
  | .dropUnattributed => []
  | .bill r => [.byte r.ctorIdx]
  | .store r => [.byte r.ctorIdx]
  | .supply b => [.byte b.ctorIdx]
  | .refrig c k => .byte c.ctorIdx :: optField (k.map fun f => [.byte f.ctorIdx])

end Sys2Proof.Machine
end

