-- ==== Sys2Proof/Machine/Settings.lean ====
section
/-! DEFINITION. The settings table of R196: the number of each setting, its range, its reading and
its writing. -/

namespace Sys2Proof.Machine

/-- A priority as its setting value: 0 NORMAL, 1 HIGH (R196). -/
def Priority.value : Priority → Int
  | .normal => 0
  | .high => 1

/-- The priority a setting value writes (R196). -/
def priorityOf (v : Int) : Priority := if v = 0 then .normal else .high

/-- The setting with a number, none for an unknown number (R196). -/
def Settings.read (c : Settings) (num : Nat) : Option Int :=
  match num with
  | 0x01 => some c.maxCredit
  | 0x02 => some c.inactivityTime
  | 0x03 => some (if c.multiVend then 1 else 0)
  | 0x04 => some (if c.failover then 1 else 0)
  | 0x05 => some (if c.billTest then 1 else 0)
  | 0x10 => some c.extraTurns
  | 0x11 => some c.settleWindow
  | 0x12 => some c.overcurrent
  | 0x13 => some c.openThreshold
  | 0x20 => some c.coinLimit
  | 0x30 => some c.budget
  | 0x31 => some c.promoteTime
  | 0x32 => some c.spiralWeight
  | 0x33 => some c.payoutWeight
  | 0x34 => some c.startWeight
  | 0x35 => some c.runWeight
  | 0x36 => some c.defrostWeight
  | 0x37 => some c.damperWeight
  | 0x38 => some c.spiralPriority.value
  | 0x39 => some c.payoutPriority.value
  | 0x3A => some c.compressorPriority.value
  | 0x3B => some c.defrostPriority.value
  | 0x3C => some c.damperPriority.value
  | 0x40 => some c.minOff
  | 0x41 => some c.minRun
  | 0x42 => some c.maxRun
  | 0x43 => some c.cutout
  | 0x44 => some c.defrostInterval
  | 0x45 => some c.termination
  | 0x46 => some c.heaterLimit
  | 0x47 => some c.dripTime
  | _ => none

/-- The range of the setting with a number (R196); that of the inactivity time has a gap, which
`settingClamp` fills. -/
def settingRange (num : Nat) : Int × Int :=
  match num with
  | 0x01 => (1, 60000)
  | 0x02 => (0, 600)
  | 0x10 => (0, 2)
  | 0x11 => (500, 3000)
  | 0x12 => (200, 2500)
  | 0x13 => (0, 500)
  | 0x20 => (1, 99)
  | 0x30 => (10, 120)
  | 0x31 => (2, 120)
  | 0x32 => (1, 120)
  | 0x33 => (1, 120)
  | 0x34 => (1, 120)
  | 0x35 => (1, 120)
  | 0x36 => (1, 120)
  | 0x37 => (1, 120)
  | 0x40 => (60, 600)
  | 0x41 => (30, 300)
  | 0x42 => (30, 240)
  | 0x43 => (-350, -100)
  | 0x44 => (2, 24)
  | 0x45 => (20, 200)
  | 0x46 => (5, 60)
  | 0x47 => (0, 10)
  | _ => (0, 1)

/-- A written value clamped to its setting's range; an inactivity time of 1 to 9 s becomes 10 s
(R27, R196). -/
def settingClamp (num : Nat) (v : Int) : Int :=
  if num = 0x02 && inRange 1 9 v then 10
  else clampInt (settingRange num).1 (settingRange num).2 v

/-- The settings with a value written to a number (R196). -/
def Settings.write (c : Settings) (num : Nat) (v : Int) : Settings :=
  match num with
  | 0x01 => { c with maxCredit := v.toNat }
  | 0x02 => { c with inactivityTime := v.toNat }
  | 0x03 => { c with multiVend := v != 0 }
  | 0x04 => { c with failover := v != 0 }
  | 0x05 => { c with billTest := v != 0 }
  | 0x10 => { c with extraTurns := v.toNat }
  | 0x11 => { c with settleWindow := v.toNat }
  | 0x12 => { c with overcurrent := v.toNat }
  | 0x13 => { c with openThreshold := v.toNat }
  | 0x20 => { c with coinLimit := v.toNat }
  | 0x30 => { c with budget := v.toNat }
  | 0x31 => { c with promoteTime := v.toNat }
  | 0x32 => { c with spiralWeight := v.toNat }
  | 0x33 => { c with payoutWeight := v.toNat }
  | 0x34 => { c with startWeight := v.toNat }
  | 0x35 => { c with runWeight := v.toNat }
  | 0x36 => { c with defrostWeight := v.toNat }
  | 0x37 => { c with damperWeight := v.toNat }
  | 0x38 => { c with spiralPriority := priorityOf v }
  | 0x39 => { c with payoutPriority := priorityOf v }
  | 0x3A => { c with compressorPriority := priorityOf v }
  | 0x3B => { c with defrostPriority := priorityOf v }
  | 0x3C => { c with damperPriority := priorityOf v }
  | 0x40 => { c with minOff := v.toNat }
  | 0x41 => { c with minRun := v.toNat }
  | 0x42 => { c with maxRun := v.toNat }
  | 0x43 => { c with cutout := v }
  | 0x44 => { c with defrostInterval := v.toNat }
  | 0x45 => { c with termination := v }
  | 0x46 => { c with heaterLimit := v.toNat }
  | 0x47 => { c with dripTime := v.toNat }
  | _ => c

/-- The priority setting of a load (R132). -/
def Settings.priority (c : Settings) : Load → Priority
  | .spiral => c.spiralPriority
  | .payout => c.payoutPriority
  | .compressor => c.compressorPriority
  | .defrost => c.defrostPriority
  | .damper => c.damperPriority

/-- The load whose priority a setting number writes (R196). -/
def priorityLoadOf (num : Nat) : Option Load :=
  match num with
  | 0x38 => some .spiral
  | 0x39 => some .payout
  | 0x3A => some .compressor
  | 0x3B => some .defrost
  | 0x3C => some .damper
  | _ => none

/-! ### The lengths of settings and of the fixed intervals, in milliseconds -/

def Settings.inactivityMs (c : Settings) : Nat := c.inactivityTime * 1000
def Settings.promoteMs (c : Settings) : Nat := c.promoteTime * 1000
def Settings.minOffMs (c : Settings) : Nat := c.minOff * 1000
def Settings.minRunMs (c : Settings) : Nat := c.minRun * 1000
def Settings.maxRunMs (c : Settings) : Nat := c.maxRun * 60000
def Settings.intervalMs (c : Settings) : Nat := c.defrostInterval * 3600000
def Settings.heaterLimitMs (c : Settings) : Nat := c.heaterLimit * 60000
def Settings.dripMs (c : Settings) : Nat := c.dripTime * 60000

/-- The power timer, 5 s (R56). -/
def powerTimerMs : Nat := 5000
/-- The leave timer, 1.0 s (R59). -/
def leaveTimerMs : Nat := 1000
/-- The turn timer, 6.0 s (R60). -/
def turnTimerMs : Nat := 6000
/-- The time between current samples, 10 ms (R62). -/
def sampleMs : Nat := 10
/-- The block timer, 500 ms (R64). -/
def blockTimerMs : Nat := 500
/-- The pulse of a payout actuator, 40 ms (R101). -/
def pulseMs : Nat := 40
/-- The exit window, 400 ms (R101). -/
def exitWindowMs : Nat := 400
/-- The spacing of Cash Bus slots, 50 ms (R123). -/
def slotMs : Nat := 50
/-- The reply window, 10 ms (R115). -/
def replyWindowMs : Nat := 10
/-- The probe time, 2 s (R126). -/
def probeMs : Nat := 2000
/-- The stack watch, 10 s (R121). -/
def stackWatchMs : Nat := 10000
/-- A slow pass, 500 ms (R148). -/
def passMs : Nat := 500
/-- A damper move, 4 s (R167). -/
def damperMoveMs : Nat := 4000
/-- The time between minute marks, 60 s (R169). -/
def minuteMs : Nat := 60000
/-- The start window, 3 s (R178). -/
def startWindowMs : Nat := 3000
/-- The defrost wall-time cap, 45 min (R178). -/
def wallCapMs : Nat := 2700000
/-- The recovery window, 10 min (R178). -/
def recoveryMs : Nat := 600000
/-- The bound of the run-time accumulator, 86400 s (R176). -/
def accumulatorMaxMs : Nat := 86400000

end Sys2Proof.Machine
end

