-- ==== Sys2Proof/Machine/Ops.lean ====
section
/-! DEFINITION. The named operations over the records of `State` that every block uses: the records
reached by name, the notice set, the passing of time and the host's responses. -/

namespace Sys2Proof.Machine

/-! ### Records by name -/

def Loads.get (ls : Loads) : Load → LoadRec
  | .spiral => ls.spiral
  | .payout => ls.payout
  | .compressor => ls.compressor
  | .defrost => ls.defrost
  | .damper => ls.damper

def Loads.set (ls : Loads) (l : Load) (r : LoadRec) : Loads :=
  match l with
  | .spiral => { ls with spiral := r }
  | .payout => { ls with payout := r }
  | .compressor => { ls with compressor := r }
  | .defrost => { ls with defrost := r }
  | .damper => { ls with damper := r }

def Cbm.get (c : Cbm) : Peripheral → PeriphRec
  | .coin => c.coin
  | .bill => c.bill

def Cbm.set (c : Cbm) (p : Peripheral) (r : PeriphRec) : Cbm :=
  match p with
  | .coin => { c with coin := r }
  | .bill => { c with bill := r }

def Ztc.get (z : Ztc) : ZoneNo → Zone
  | .z1 => z.z1
  | .z2 => z.z2
  | .z3 => z.z3

def Ztc.set (z : Ztc) (n : ZoneNo) (r : Zone) : Ztc :=
  match n with
  | .z1 => { z with z1 := r }
  | .z2 => { z with z2 := r }
  | .z3 => { z with z3 := r }

/-- The chilled zone with a number. -/
def zoneNoOf (n : Nat) : Option ZoneNo :=
  match n with
  | 1 => some .z1
  | 2 => some .z2
  | 3 => some .z3
  | _ => none

/-- The record of load `l`. -/
def State.load (s : State) (l : Load) : LoadRec := s.lba.loads.get l

def State.setLoad (s : State) (l : Load) (r : LoadRec) : State :=
  { s with lba := { s.lba with loads := s.lba.loads.set l r } }

/-- The record of peripheral `p`. -/
def State.periph (s : State) (p : Peripheral) : PeriphRec := s.cbm.get p

def State.setPeriph (s : State) (p : Peripheral) (r : PeriphRec) : State :=
  { s with cbm := s.cbm.set p r }

/-- The record of chilled zone `z`. -/
def State.zone (s : State) (z : ZoneNo) : Zone := s.ztc.get z

def State.setZone (s : State) (z : ZoneNo) (r : Zone) : State := { s with ztc := s.ztc.set z r }

/-! ### The notice set -/

/-- A raise (R198): a new kind enters at its place with the repeated flag clear; a kind present has its
payload replaced and its repeated flag set. -/
def insertNotice (n : Notice) : List (Notice × Bool) → List (Notice × Bool)
  | [] => [(n, false)]
  | (m, r) :: rest =>
    if n.kindNo = m.kindNo then (n, true) :: rest
    else if n.kindNo < m.kindNo then (n, false) :: (m, r) :: rest
    else (m, r) :: insertNotice n rest

/-- A block raises a notice (R198). -/
def State.raise (s : State) (n : Notice) : State :=
  { s with hli := { s.hli with notices := insertNotice n s.hli.notices } }

/-! ### Time -/

/-- A running time left after `d` ms. -/
def runDown (t : Option Nat) (d : Nat) : Option Nat := t.map fun left => left - d

/-- The time a waiting load has waited after `d` more ms (R141). -/
def LoadRec.elapse (r : LoadRec) (d : Nat) : LoadRec :=
  match r with
  | .waiting w t p => .waiting w (t + d) p
  | other => other

def Sdc.elapse (x : Sdc) (d : Nat) : Sdc :=
  { x with
    powerTimer := runDown x.powerTimer d
    leaveTimer := runDown x.leaveTimer d
    turnTimer := runDown x.turnTimer d
    settleTimer := runDown x.settleTimer d
    blockTimer := runDown x.blockTimer d }

def Payout.elapse (x : Payout) (d : Nat) : Payout :=
  { x with
    window := x.window.map fun w => { w with left := w.left - d }
    pulse := runDown x.pulse d }

def PeriphRec.elapse (x : PeriphRec) (d : Nat) : PeriphRec :=
  { x with
    probeTime := x.probeTime - d
    stackWatch := runDown x.stackWatch d }

def Bus.elapse (b : Bus) (d : Nat) : Bus :=
  match b with
  | .awaiting p m probe left got => .awaiting p m probe (left - d) got
  | other => other

def Cbm.elapse (x : Cbm) (d : Nat) : Cbm :=
  { x with
    coin := x.coin.elapse d
    bill := x.bill.elapse d
    bus := x.bus.elapse d
    slotLeft := x.slotLeft - d }

def Lba.elapse (x : Lba) (d : Nat) : Lba :=
  { x with
    loads :=
      ⟨x.loads.spiral.elapse d, x.loads.payout.elapse d, x.loads.compressor.elapse d,
        x.loads.defrost.elapse d, x.loads.damper.elapse d⟩ }

def Msc.elapse (x : Msc) (d : Nat) : Msc :=
  { x with
    sampleLeft := x.sampleLeft - d
    passLeft := x.passLeft - d }

def Ztc.elapse (x : Ztc) (d : Nat) : Ztc :=
  { x with
    running := x.running.map fun m => { m with left := m.left - d }
    minuteLeft := x.minuteLeft - d }

/-- The compressor is on in STARTING and RUNNING (R176). -/
def RfcState.compressorOn (x : RfcState) : Bool := x == .starting || x == .running

/-- The off time counts while the compressor is off and stands while it is on, a DESIGN CHOICE, unsafe
(notes/assumptions/34.md); the run time and the saturating accumulator while
it is on; the wall time in DEFROST; the heater time with the heater on; the drip time in DRIP (R176,
R183, R185). -/
def Rfc.elapse (x : Rfc) (d : Nat) : Rfc :=
  { x with
    offTime := if x.state.compressorOn then x.offTime else x.offTime + d
    runTime := if x.state.compressorOn then x.runTime + d else x.runTime
    accumulator :=
      if x.state.compressorOn then min accumulatorMaxMs (x.accumulator + d) else x.accumulator
    wallTime := if x.state = .defrost then x.wallTime + d else x.wallTime
    heaterTime := if x.heaterOn then x.heaterTime + d else x.heaterTime
    dripTime := if x.state = .drip then x.dripTime + d else x.dripTime
    recovery := runDown x.recovery d
    startWindow := runDown x.startWindow d }

/-- `d` ms pass: every time of the part runs on by `d`, a time left stopping at 0, where its expiry is
due (notes/assumptions/3.md). -/
def State.elapse (s : State) (d : Nat) : State :=
  { s with
    sesc := { s.sesc with inactivity := runDown s.sesc.inactivity d }
    sdc := s.sdc.elapse d
    chu := { s.chu with payout := s.chu.payout.elapse d }
    cbm := s.cbm.elapse d
    lba := s.lba.elapse d
    msc := s.msc.elapse d
    ztc := s.ztc.elapse d
    rfc := s.rfc.elapse d }

/-! ### Responses -/

/-- A frame is under reception, and its bytes are not discarded (R192). -/
def Slot.collects : Slot → Bool
  | .receiving _ => true
  | _ => false

/-- The slot takes host frames: the restore has ended, and no response is under way and no discard
(R192, R206). A frame that comes complete to an IDLE slot brings its own first byte
(notes/assumptions/5.md). -/
def State.linkReady (s : State) : Bool :=
  s.power == .running && (s.hli.slot == .idle || s.hli.slot.collects)

def State.setSlot (s : State) (x : Slot) : State := { s with hli := { s.hli with slot := x } }

/-- The response to a request of code `code` is sent: the slot is ANSWERING (R192, R193). -/
def State.answer (s : State) (code : Nat) (st : Status) (body : List Field) : State :=
  s.setSlot (.answering ⟨code + 0x80, st, body⟩ false)

end Sys2Proof.Machine
end

