-- ==== Sys2Proof/Machine/BusQueue.lean ====
section
/-! DEFINITION. The commands that the other blocks hand to CBM for a peripheral (R122). -/

namespace Sys2Proof.Machine

/-- A peripheral's pending set changed. -/
def State.editPending (s : State) (p : Peripheral) (f : PendingSet → PendingSet) : State :=
  s.setPeriph p { s.periph p with pending := f (s.periph p).pending }

/-- A command handed for a peripheral: into its slot while ONLINE, discarded otherwise (R122). -/
def State.hand (s : State) (p : Peripheral) (f : PendingSet → PendingSet) : State :=
  if (s.periph p).link = .online then s.editPending p f else s

/-- An ESCROW_STACK handed: it replaces a pending ESCROW_RETURN (R122). -/
def State.handEscrowStack (s : State) : State :=
  s.hand .bill fun q => { q with escrow := some .stack }

/-- An ESCROW_RETURN handed: discarded while an ESCROW_STACK is pending (R122). -/
def State.handEscrowReturn (s : State) : State :=
  s.hand .bill fun q => if q.escrow = some .stack then q else { q with escrow := some .giveBack }

/-- A ROUTE_MAP handed for the coin validator (R84). -/
def State.handRouteMap (s : State) (m : BitVec 16) : State :=
  s.hand .coin fun q => { q with routeMap := some m }

/-- An ACCEPT_MASK handed for a validator (R85). -/
def State.handAcceptMask (s : State) (p : Peripheral) (m : BitVec 16) : State :=
  s.hand p fun q => { q with acceptMask := some m }

end Sys2Proof.Machine
end

