-- ==== Sys2Proof/Machine/Selection.lean ====
section
/-! DEFINITION. SELT: lookups in the selection table, the derived sale state, the draw rule, the use of
a price entry, engagement, and the updates that the outcomes of drive work make. -/

namespace Sys2Proof.Machine

/-- `xs` with `f` applied at place `i`. -/
def modifyAt {α : Type} (f : α → α) : Nat → List α → List α
  | _, [] => []
  | 0, x :: xs => f x :: xs
  | i + 1, x :: xs => x :: modifyAt f i xs

/-! ### The table (R1) -/

/-- The record of a code. -/
def findSel (table : List Selection) (code : Nat) : Option Selection :=
  table.find? fun r => r.code == code

/-- A record written at the place its code takes: inserted, or in the place of the record it replaces
(R1, R18). -/
def putSel (r : Selection) : List Selection → List Selection
  | [] => [r]
  | q :: rest =>
    if r.code = q.code then r :: rest
    else if r.code < q.code then r :: q :: rest
    else q :: putSel r rest

/-- The table with the record of a code changed. -/
def updateSel (f : Selection → Selection) (code : Nat) (table : List Selection) : List Selection :=
  table.map fun r => if r.code = code then f r else r

/-- The table without the record of a code (R23). -/
def removeSel (code : Nat) (table : List Selection) : List Selection :=
  table.filter fun r => r.code != code

def State.setTable (s : State) (t : List Selection) : State :=
  { s with selt := { s.selt with table := t } }

/-- A record's position at an index changed. -/
def Selection.setPosition (f : Position → Position) (i : Nat) (r : Selection) : Selection :=
  { r with positions := modifyAt f i r.positions }

/-! ### Sale state, draw rule and prices -/

/-- A position is usable: status OK and stock above 0 (R5). -/
def Position.usable (p : Position) : Bool := p.fault.isNone && decide (0 < p.stock)

/-- The zone a selection names is in hold; zone 0 never is (R5, R161). -/
def State.zoneHeld (s : State) (zone : Nat) : Bool :=
  match zoneNoOf zone with
  | some z => (s.zone z).hold.isSome
  | none => false

/-- The derived sale states, in the order of R5. -/
inductive SaleState
  | suspended
  | held
  | active
  | faulted
  | soldOut
  deriving DecidableEq, Repr

/-- The derived sale state: the first that applies (R5). -/
def State.saleState (s : State) (r : Selection) : SaleState :=
  if r.admin = .suspended then .suspended
  else if s.zoneHeld r.zone then .held
  else if r.positions.any Position.usable then .active
  else if r.positions.any fun p => p.fault.isSome && decide (0 < p.stock) then .faulted
  else .soldOut

/-- The order in which the draw rule visits the indices (R6). -/
def Selection.drawOrder (r : Selection) : List Nat :=
  let all := List.range r.positions.length
  match r.draw with
  | .first => all
  | .rotate => all.drop r.cursor ++ all.take r.cursor

/-- The vend position by the draw rule (R6), with its index. -/
def Selection.choose (r : Selection) : Option (Nat × Position) :=
  r.drawOrder.findSome? fun i =>
    match r.positions[i]? with
    | some p => if p.usable then some (i, p) else none
    | none => none

/-- The price of a selection in a set. -/
def Selection.price (r : Selection) : PriceSet → Nat
  | .a => r.priceA
  | .b => r.priceB

/-- A set's price entries are in use (R10). -/
def State.inUse (s : State) (p : PriceSet) : Bool :=
  s.selt.active == p || (s.sesc.phase != .idle && s.sesc.sessionSet == p)

/-- The set that is not `p` (R12). -/
def otherSet : PriceSet → PriceSet
  | .a => .b
  | .b => .a

/-! ### Ownership and engagement -/

/-- The index of the position whose drive unit claims an address. -/
def Selection.owns (r : Selection) (row col : Nat) : Option Nat :=
  r.positions.findIdx? fun p => p.unit.addrs.contains (row, col)

/-- The code and index of the position that owns a motor address, if any (R4). -/
def ownerOf (table : List Selection) (row col : Nat) : Option (Nat × Nat) :=
  table.findSome? fun r => (r.owns row col).map fun i => (r.code, i)

/-- The RUNNING entry of the drive work list, its head (R50). -/
def State.runningEntry (s : State) : Option DriveEntry :=
  match s.sdc.list with
  | e :: _ => if e.running then some e else none
  | [] => none

/-- The drive unit of the RUNNING entry when that is a TEST entry (R13). -/
def State.testUnit (s : State) : Option DriveUnit :=
  match s.runningEntry with
  | some e =>
    match e.origin with
    | .test _ _ => some e.unit
    | .vend _ _ => none
  | none => none

/-- A code is referenced (R13). -/
def State.referenced (s : State) (code : Nat) : Bool :=
  s.sdc.list.any (fun e =>
    match e.origin with
    | .vend c _ => c == code
    | .test _ _ => false) ||
  (match s.sesc.pendingVend with
    | some v => v.code == code
    | none => false)

/-- A position is engaged (R13). -/
def State.engaged (s : State) (code index : Nat) (p : Position) : Bool :=
  (match s.sesc.pendingVend with
    | some v => v.code == code && v.index == index
    | none => false) ||
  (match s.runningEntry with
    | some e =>
      match e.origin with
      | .vend c i => c == code && i == index
      | .test _ _ => e.unit.meets p.unit
    | none => false)

/-- Some position of a record is engaged (R13). -/
def State.anyEngaged (s : State) (r : Selection) : Bool :=
  (List.range r.positions.length).any fun i =>
    match r.positions[i]? with
    | some p => s.engaged r.code i p
    | none => false

/-! ### Outcomes of drive work -/

/-- The update of a pending vend's position by an outcome (R8). -/
def vendPosition (o : DriveOutcome) (p : Position) : Position :=
  match o with
  | .delivered => { p with stock := p.stock - 1 }
  | .jammed => { p with fault := some .jammed }
  | .openMotor => { p with fault := some .openMotor }
  | .noDrop => { p with fault := some .noDrop }
  | .interrupted => { p with fault := some .interrupted }
  | .noPower => p

/-- The cursor after an outcome at index `i`: it moves on DELIVERED under ROTATE (R7). -/
def Selection.cursorAfter (r : Selection) (o : DriveOutcome) (i : Nat) : Nat :=
  if o = .delivered ∧ r.draw = .rotate then (i + 1) % r.positions.length else r.cursor

/-- SELT takes the outcome of a VEND entry (R7, R8). -/
def State.seltVend (s : State) (code index : Nat) (o : DriveOutcome) : State :=
  s.setTable (updateSel (fun r =>
    { (r.setPosition (vendPosition o) index) with cursor := r.cursorAfter o index }) code
    s.selt.table)

/-- The update of the position that owns a tested address (R9). -/
def testPosition (o : DriveOutcome) (p : Position) : Position :=
  match o with
  | .delivered => { p with stock := p.stock - 1, fault := none }
  | .noDrop => { p with fault := none }
  | _ => p

/-- SELT takes the outcome of a TEST entry (R9). -/
def State.seltTest (s : State) (row col : Nat) (o : DriveOutcome) : State :=
  match ownerOf s.selt.table row col with
  | some (code, i) =>
    s.setTable (updateSel (fun r => r.setPosition (testPosition o) i) code s.selt.table)
  | none => s

/-! ### SEL.DEFINE -/

/-- The drive unit a position of the request names. -/
def posUnit (p : PosReq) : DriveUnit :=
  ⟨p.row.toNat, p.col.toNat, p.twin == some true⟩

/-- A position of the request passes the RANGE check (R16). -/
def posInRange (p : PosReq) : Bool :=
  p.twin.isSome && motorAddrOk p.row.toNat p.col.toNat &&
  !(p.twin == some true && p.col.toNat == 9) &&
  inRange 1 40 p.capacity.toNat && decide (p.stock.toNat ≤ p.capacity.toNat) &&
  inRange 1 2 p.turns.toNat

/-- The request passes the RANGE check (R16). -/
def defineInRange (d : DefineReq) : Bool :=
  inRange 1 999 d.code.toNat && d.admin.isSome && d.draw.isSome && inRange 0 3 d.zone.toNat &&
  inRange 1 60000 d.priceA.toNat && inRange 1 60000 d.priceB.toNat &&
  inRange 1 4 d.count.toNat && d.positions.length == d.count.toNat && d.positions.all posInRange

/-- The addresses the request claims (R17). -/
def defineClaims (d : DefineReq) : List (Nat × Nat) := d.positions.flatMap fun p => (posUnit p).addrs

/-- An element stands twice in a list. -/
def hasRepeat : List (Nat × Nat) → Bool
  | [] => false
  | a :: rest => rest.contains a || hasRepeat rest

/-- The CONFLICT check (R17). -/
def defineConflict (table : List Selection) (d : DefineReq) : Bool :=
  hasRepeat (defineClaims d) ||
  table.any fun r => r.code != d.code.toNat &&
    r.positions.any fun p => p.unit.addrs.any fun a => (defineClaims d).contains a

/-- The BUSY check of SEL.DEFINE (R13). -/
def State.defineBusy (s : State) (d : DefineReq) : Bool :=
  s.referenced d.code.toNat ||
  (match findSel s.selt.table d.code.toNat with
    | some r => s.anyEngaged r
    | none => false) ||
  (match s.testUnit with
    | some u => u.addrs.any fun a => (defineClaims d).contains a
    | none => false)

/-- The PRICE_IN_USE check of SEL.DEFINE (R16). -/
def State.definePriceInUse (s : State) (d : DefineReq) : Bool :=
  match findSel s.selt.table d.code.toNat with
  | some r =>
    (r.priceA != d.priceA.toNat && s.inUse .a) || (r.priceB != d.priceB.toNat && s.inUse .b)
  | none => false

/-- The position a request's position writes: OK, with no cause (R18). -/
def posRecord (p : PosReq) : Position :=
  ⟨posUnit p, p.capacity.toNat, p.stock.toNat, p.turns.toNat, none⟩

/-- The record the request writes (R18); an absent admin or draw does not pass the RANGE check. -/
def defineRecord (d : DefineReq) : Selection where
  code := d.code.toNat
  admin := d.admin.getD .enabled
  zone := d.zone.toNat
  priceA := d.priceA.toNat
  priceB := d.priceB.toNat
  draw := d.draw.getD .first
  cursor := 0
  positions := d.positions.map posRecord

end Sys2Proof.Machine
end

