-- ==== Sys2Proof/Machine/Planner.lean ====
section
/-! DEFINITION. CPL: the greedy pass, the single back-off, exactness, and the tests that ask the
planner (R91 to R96). -/

namespace Sys2Proof.Machine

/-- A tube as the planner sees it: number, denomination, count. -/
structure Source where
  tube : Nat
  denom : Nat
  count : Nat
  deriving DecidableEq, Repr

/-- The planner order: denomination highest first, then tube number lowest first (R91). -/
def Source.before (x y : Source) : Bool :=
  decide (y.denom < x.denom) || (x.denom == y.denom && decide (x.tube ≤ y.tube))

/-- A source inserted in planner order. -/
def insertSource (x : Source) : List Source → List Source
  | [] => [x]
  | y :: rest => if x.before y then x :: y :: rest else y :: insertSource x rest

/-- The usable tubes of the list from number `i` on, in planner order: state OK, count above 0, not
excluded (R91). -/
def sourcesFrom (excluded : List Nat) : Nat → List Tube → List Source
  | _, [] => []
  | i, t :: rest =>
    match t.assign with
    | some a =>
      if t.state = .ok ∧ 0 < t.count ∧ ¬ excluded.contains i then
        insertSource ⟨i, a.denom, t.count⟩ (sourcesFrom excluded (i + 1) rest)
      else sourcesFrom excluded (i + 1) rest
    | none => sourcesFrom excluded (i + 1) rest

/-- The usable tubes in planner order (R91). -/
def sourcesOf (tubes : List Tube) (excluded : List Nat) : List Source := sourcesFrom excluded 0 tubes

/-- The coins a tube gives in the greedy pass (R92). -/
def takeFrom (x : Source) (r c : Nat) : Nat := min (min (r / x.denom) x.count) c

/-- The greedy pass from a remainder and a coin allowance (R92): the coins of each tube, and the
remainder left. -/
def greedy : List Source → Nat → Nat → List Nat × Nat
  | [], r, _ => ([], r)
  | x :: rest, r, c =>
    let k := takeFrom x r c
    let tail := greedy rest (r - k * x.denom) (c - k)
    (k :: tail.1, tail.2)

/-- The second pass (R93): the first tube that gave a coin and whose candidate with one coin less leaves
nothing; the coins of each tube in that candidate. -/
def backOff : List Source → Nat → Nat → Option (List Nat)
  | [], _, _ => none
  | x :: rest, r, c =>
    let k := takeFrom x r c
    let further := (backOff rest (r - k * x.denom) (c - k)).map fun ks => k :: ks
    if k = 0 then further
    else
      let candidate := greedy rest (r - (k - 1) * x.denom) (c - (k - 1))
      if candidate.2 = 0 then some ((k - 1) :: candidate.1) else further

/-- The coins of each usable tube in the plan, and the shortfall (R92, R93). -/
def planCounts (xs : List Source) (d m : Nat) : List Nat × Nat :=
  let first := greedy xs d m
  if first.2 = 0 then first
  else
    match backOff xs d m with
    | some ks => (ks, 0)
    | none => first

/-- The plan entries: a tube that gives no coin is not listed (R91). -/
def planEntries : List Source → List Nat → List PlanEntry
  | x :: xs, k :: ks =>
    if k = 0 then planEntries xs ks else ⟨x.tube, x.denom, k⟩ :: planEntries xs ks
  | _, _ => []

/-- A plan with its shortfall (R91). -/
def planFor (tubes : List Tube) (excluded : List Nat) (d m : Nat) : List PlanEntry × Nat :=
  let xs := sourcesOf tubes excluded
  let r := planCounts xs d m
  (planEntries xs r.1, r.2)

/-- The amount has an exact plan with no tube excluded (R91, R96). -/
def hasExactPlan (tubes : List Tube) (d m : Nat) : Bool := (planFor tubes [] d m).2 == 0

/-- The exact-change flag (R96): some nonzero probe has no exact plan. -/
def exactFlag (tubes : List Tube) (p : Probes) (m : Nat) : Bool :=
  [p.p1, p.p2, p.p3, p.p4].any fun d => d != 0 && !hasExactPlan tubes d m

/-- The value of plan entries (R104). -/
def planValue : List PlanEntry → Nat
  | [] => 0
  | e :: rest => e.remaining * e.denom + planValue rest

/-- The smallest of the prices of the ACTIVE selections in a set, none when none is ACTIVE (R94). -/
def State.cheapest (s : State) (p : PriceSet) : Option Nat :=
  s.selt.table.foldl (fun acc r =>
    if s.saleState r = .active then
      match acc with
      | none => some (r.price p)
      | some x => some (min x (r.price p))
    else acc) none

/-- The bill change test (R94): none when it passes, otherwise the reason. -/
def State.billTest (s : State) (value : Nat) : Option BillReason :=
  let p := if s.sesc.phase = .idle then s.selt.active else s.sesc.sessionSet
  match s.cheapest p with
  | none => some .noProduct
  | some price =>
    let total := s.sesc.credit.toNat + value
    if total ≤ price then none
    else if hasExactPlan s.chu.tubes (total - price) s.settings.coinLimit then none
    else some .noChange

end Sys2Proof.Machine
end

