-- ==== Sys2Proof/Machine/Coins.lean ====
section
/-! DEFINITION. CHU: the route map and the accept masks, tube and class records, the cash totals and the
exact-change flag, as operations on the state. -/

namespace Sys2Proof.Machine

/-- The tube with a number. -/
def State.tube (s : State) (i : Nat) : Option Tube := s.chu.tubes[i]?

def State.setTubes (s : State) (ts : List Tube) : State := { s with chu := { s.chu with tubes := ts } }

/-- The tube with a number changed. -/
def State.editTube (s : State) (i : Nat) (f : Tube → Tube) : State :=
  s.setTubes (modifyAt f i s.chu.tubes)

/-- A tube's capacity, 0 for an unassigned tube (R73). -/
def Tube.cap (t : Tube) : Nat :=
  match t.assign with
  | some a => a.capacity
  | none => 0

/-- A tube's denomination, 0 for an unassigned tube. -/
def Tube.den (t : Tube) : Nat :=
  match t.assign with
  | some a => a.denom
  | none => 0

/-! ### Route map (R84) -/

/-- A tube is open to routing (R84). -/
def Tube.routable (t : Tube) : Bool :=
  t.assign.isSome && t.state == .ok && decide (t.count < t.cap) && t.full != .active

/-- A class is routed TUBE (R84). -/
def classToTube (tubes : List Tube) (c : CoinClass) : Bool :=
  match c.tube with
  | some i =>
    match tubes[i]? with
    | some t => c.value != 0 && t.routable
    | none => false
  | none => false

/-- The route map: the set of the classes routed TUBE (R84). -/
def State.routeMap (s : State) : BitVec 16 :=
  classSetOf fun k =>
    match s.chu.coins[k]? with
    | some c => classToTube s.chu.tubes c
    | none => false

/-- The route map becomes the last one handed. -/
def State.noteMap (s : State) (m : BitVec 16) : State :=
  { s with chu := { s.chu with lastMap := some m } }

/-- The route map recomputed, and handed when it differs from the last one handed (R84). With none handed
since power-on it counts as differing. DESIGN CHOICE, unsafe (notes/assumptions/27.md). -/
def State.updateRoute (s : State) : State :=
  let m := s.routeMap
  if s.chu.lastMap = some m then s else (s.noteMap m).handRouteMap m

/-! ### Accept masks (R85) -/

/-- The value of an escrowed bill, 0 with none. -/
def Session.escrowValue (x : Session) : Nat :=
  match x.escrow with
  | some e => e.value
  | none => 0

/-- The coin accept mask is empty (R85). -/
def State.coinsInhibited (s : State) : Bool :=
  s.hli.doorOpen ||
  (match s.sesc.phase with
    | .paying => true
    | .stacking => true
    | .cashlessReady => true
    | .vending => s.sesc.kind == .cashless
    | _ => false) ||
  decide (s.settings.maxCredit ≤ s.sesc.credit.toNat + s.sesc.escrowValue)

/-- The coin accept mask (R85). -/
def State.coinMask (s : State) : BitVec 16 :=
  classSetOf fun k =>
    !s.coinsInhibited &&
    match s.chu.coins[k]? with
    | some c => c.enabled && c.value != 0
    | none => false

/-- The bill accept mask is empty (R85). -/
def State.billsInhibited (s : State) : Bool :=
  s.hli.doorOpen || (s.sesc.phase != .idle && s.sesc.phase != .cashCredit) ||
  s.sesc.escrow.isSome || decide (s.settings.maxCredit ≤ s.sesc.credit.toNat)

/-- The bill accept mask (R85). -/
def State.billMask (s : State) : BitVec 16 :=
  classSetOf fun k =>
    !s.billsInhibited &&
    match s.chu.bills[k]? with
    | some b =>
      b.enabled && b.value != 0 && decide (s.sesc.credit.toNat + b.value ≤ s.settings.maxCredit)
    | none => false

/-- The accept mask of a validator as it stands (R85). -/
def State.maskOf (s : State) : Peripheral → BitVec 16
  | .coin => s.coinMask
  | .bill => s.billMask

/-- The accept mask last handed to a validator. -/
def State.lastMask (s : State) : Peripheral → Option (BitVec 16)
  | .coin => s.chu.lastCoinMask
  | .bill => s.chu.lastBillMask

/-- A mask becomes the last one handed. -/
def State.noteMask (s : State) (p : Peripheral) (m : BitVec 16) : State :=
  match p with
  | .coin => { s with chu := { s.chu with lastCoinMask := some m } }
  | .bill => { s with chu := { s.chu with lastBillMask := some m } }

/-- A validator's mask recomputed, and handed when it differs from the last one handed (R85). With none
handed since power-on it counts as differing. DESIGN CHOICE, unsafe (notes/assumptions/27.md). -/
def State.updateMask (s : State) (p : Peripheral) : State :=
  let m := s.maskOf p
  if s.lastMask p = some m then s else (s.noteMask p m).handAcceptMask p m

/-- Both masks recomputed (R85). -/
def State.updateMasks (s : State) : State := (s.updateMask .coin).updateMask .bill

/-! ### Exact-change flag (R96) -/

/-- The exact-change flag evaluated, unless a payout is running; a change raises EXACT_CHANGE (R96). -/
def State.evalExact (s : State) : State :=
  if s.chu.payout.state = .idle then
    let f := exactFlag s.chu.tubes s.chu.probes s.settings.coinLimit
    if f = s.chu.exactChange then s
    else ({ s with chu := { s.chu with exactChange := f } }).raise (.exactChange f)
  else s

/-- What follows a change of a tube's count or state (R73). -/
def State.tubesChanged (s : State) : State := s.updateRoute.evalExact

/-! ### Totals and credit -/

def State.setTotals (s : State) (t : Totals) : State := { s with chu := { s.chu with totals := t } }

/-- A money amount as a wrapping count. -/
def money (n : Nat) : Money := BitVec.ofNat 32 n

/-- A coin of value `v` is credited: coins_in and the credit rise together (R25, R29, R86). -/
def State.creditCoin (s : State) (v : Nat) : State :=
  { (s.setTotals { s.chu.totals with coinsIn := s.chu.totals.coinsIn + money v }) with
    sesc := { s.sesc with credit := s.sesc.credit + money v } }

/-- An escrowed bill of value `v` is stacked: bills_in and the credit rise together (R25, R36). -/
def State.creditBill (s : State) (v : Nat) : State :=
  { (s.setTotals { s.chu.totals with billsIn := s.chu.totals.billsIn + money v }) with
    sesc := { s.sesc with credit := s.sesc.credit + money v } }

/-- A vend of a CASH session is charged: the credit falls and cash_sales rises (R25, R39). -/
def State.chargeCash (s : State) (price : Nat) : State :=
  { (s.setTotals { s.chu.totals with cashSales := s.chu.totals.cashSales + money price }) with
    sesc := { s.sesc with credit := s.sesc.credit - money price } }

/-- A vend of a CASHLESS session raises cashless_sales (R39). -/
def State.chargeCashless (s : State) (price : Nat) : State :=
  s.setTotals { s.chu.totals with cashlessSales := s.chu.totals.cashlessSales + money price }

/-- A change coin is confirmed: the credit falls and change_paid rises (R25, R102). -/
def State.payChange (s : State) (d : Nat) : State :=
  { (s.setTotals { s.chu.totals with changePaid := s.chu.totals.changePaid + money d }) with
    sesc := { s.sesc with credit := s.sesc.credit - money d } }

/-- A coin of a PAYOUT.TEST is confirmed (R102). -/
def State.payService (s : State) (d : Nat) : State :=
  s.setTotals { s.chu.totals with servicePaid := s.chu.totals.servicePaid + money d }

/-- A coin left the machine beyond its plan (R102, R106). -/
def State.payOver (s : State) (d : Nat) : State :=
  s.setTotals { s.chu.totals with overpaid := s.chu.totals.overpaid + money d }

/-! ### Tubes and classes -/

/-- The TUBE notice of a tube (R78). -/
def State.raiseTube (s : State) (i : Nat) (r : TubeReason) (cls : Option Nat) : State :=
  match s.tube i with
  | some t => s.raise (.tube i t.state t.count r cls)
  | none => s

/-- Each class of the list, from number `k` on, whose tube's denomination its value does not equal loses
its mapping, with a TUBE notice; `only` restricts it to the classes of one tube (R74, R80). -/
def dropMappings (only : Option Nat) : Nat → List CoinClass → State → State
  | _, [], s => s
  | k, c :: rest, s =>
    match c.tube with
    | none => dropMappings only (k + 1) rest s
    | some i =>
      let den := match s.tube i with
        | some t => t.den
        | none => 0
      if (only = none ∨ only = some i) ∧ (c.value ≠ den ∨ den = 0) then
        let s := { s with chu := { s.chu with
          coins := modifyAt (fun x => { x with tube := none }) k s.chu.coins } }
        dropMappings only (k + 1) rest (s.raiseTube i .mappingDropped (some k))
      else dropMappings only (k + 1) rest s

/-- The mappings that no longer match are dropped in class order (R74, R80). -/
def State.dropMapped (s : State) (only : Option Nat) : State := dropMappings only 0 s.chu.coins s

/-- A coin class value as written: above 5000 it is unused (R80). -/
def coinValueOf (v : Nat) : Nat := if 5000 < v then 0 else v

/-- A bill class value as written: above 60000 it is unused (R80). -/
def billValueOf (v : Nat) : Nat := if 60000 < v then 0 else v

/-- The classes with new values, in class order. -/
def writeCoinValues : List CoinClass → List Nat → List CoinClass
  | c :: cs, v :: vs => { c with value := coinValueOf v } :: writeCoinValues cs vs
  | cs, _ => cs

def writeBillValues : List BillClass → List Nat → List BillClass
  | c :: cs, v :: vs => { c with value := billValueOf v } :: writeBillValues cs vs
  | cs, _ => cs

/-- CHU takes the sixteen class values of a SETUP reply (R80). -/
def State.takeSetup (s : State) (p : Peripheral) (vs : List Nat) : State :=
  let s :=
    match p with
    | .coin =>
      ({ s with chu := { s.chu with coins := writeCoinValues s.chu.coins vs } }).dropMapped none
    | .bill => { s with chu := { s.chu with bills := writeBillValues s.chu.bills vs } }
  s.updateRoute.updateMasks

/-- The count of a coin by the reported route (R86, step 1): one more below the capacity, otherwise the
coin counts for the cashbox. -/
def State.countCoin (s : State) (c : CoinClass) (toTube : Bool) : State :=
  match toTube, c.tube with
  | true, some i =>
    match s.tube i with
    | some t =>
      if t.count < t.cap then (s.editTube i fun t => { t with count := t.count + 1 }).tubesChanged
      else s
    | none => s
  | _, _ => s

/-- An exit count lowers a tube's count by one, or leaves it 0 (R102, R106). -/
def State.lowerCount (s : State) (i : Nat) : State :=
  s.editTube i fun t => { t with count := t.count - 1 }

/-! ### Level switches (R77) -/

/-- The count a full switch that becomes ACTIVE gives an assigned tube, if it corrects it (R77). -/
def fullCorrection (t : Tube) (active : Bool) : Option Nat :=
  match t.assign with
  | some a => if active && decide (t.count < a.capacity) then some a.capacity else none
  | none => none

/-- The count a low switch that becomes LOW gives an assigned tube, if it corrects it (R77). -/
def lowCorrection (t : Tube) (low : Bool) : Option Nat :=
  match t.assign with
  | some a => if low && decide (a.lowMark < t.count) then some a.lowMark else none
  | none => none

/-- A switch's correction of a tube's count: the new count and the TUBE notice (R77, R78). -/
def State.correctCount (s : State) (i : Nat) (n : Option Nat) : State :=
  match n with
  | some n => (s.editTube i fun t => { t with count := n }).raiseTube i .reconciled none
  | none => s

end Sys2Proof.Machine
end

