-- ==== Sys2Proof/Machine/Arbiter.lean ====
section
/-! DEFINITION. LBA: the supply band and the effective budget, the wait order, the grant pass with its
revocations, and requests, releases, weight reductions and promotions. -/

namespace Sys2Proof.Machine

/-! ### Band and budget (R134) -/

/-- The place of a band, ZERO lowest. -/
def Band.rank : Band → Nat
  | .full => 3
  | .reduced => 2
  | .half => 1
  | .zero => 0

/-- The band in which a VDRIVE value lies (R134). -/
def bandOf (mv : Nat) : Band :=
  if 21600 ≤ mv then .full else if 20400 ≤ mv then .reduced else if 18000 ≤ mv then .half else .zero

/-- The value reaches the rise threshold of a band (R134). -/
def reaches (mv : Nat) : Band → Bool
  | .full => decide (21900 ≤ mv)
  | .reduced => decide (20700 ≤ mv)
  | .half => decide (18300 ≤ mv)
  | .zero => true

/-- The band a VDRIVE value sets from the present band `c` (R134): a fall at once; a rise to the
highest band above `c`, no higher than that of the value, whose rise threshold the value reaches. -/
def bandAfter (c : Band) (mv : Nat) : Band :=
  let l := bandOf mv
  if l.rank ≤ c.rank then l
  else
    match [Band.full, .reduced, .half].find? fun b =>
      decide (c.rank < b.rank) && decide (b.rank ≤ l.rank) && reaches mv b with
    | some b => b
    | none => c

/-- The effective budget of a band (R134). -/
def effectiveBudget (budget : Nat) : Band → Nat
  | .full => budget
  | .reduced => budget * 3 / 4
  | .half => budget / 2
  | .zero => 0

def State.budget (s : State) : Nat := effectiveBudget s.settings.budget s.lba.band

/-- The weight a load holds (R133). -/
def LoadRec.held : LoadRec → Nat
  | .granted w => w
  | _ => 0

/-- The sum held (R133). -/
def Loads.sumHeld (ls : Loads) : Nat :=
  ls.spiral.held + ls.payout.held + ls.compressor.held + ls.defrost.held + ls.damper.held

def State.sumHeld (s : State) : Nat := s.lba.loads.sumHeld

/-- The load is GRANTED. -/
def LoadRec.isGranted : LoadRec → Bool
  | .granted _ => true
  | _ => false

/-- The load is WAITING. -/
def LoadRec.isWaiting : LoadRec → Bool
  | .waiting _ _ _ => true
  | _ => false

/-! ### Wait order and grant pass -/

/-- The five loads in load-number order (R132). -/
def allLoads : List Load := [.spiral, .payout, .compressor, .defrost, .damper]

/-- A waiting load is of the first level (R140). -/
def firstLevel (c : Settings) (ls : Loads) (l : Load) : Bool :=
  c.priority l == .high ||
  match ls.get l with
  | .waiting _ _ promoted => promoted
  | _ => false

/-- The wait order (R140). -/
def waitOrder (c : Settings) (ls : Loads) : List Load :=
  let waiting := allLoads.filter fun l => (ls.get l).isWaiting
  waiting.filter (fun l => firstLevel c ls l) ++ waiting.filter fun l => !firstLevel c ls l

/-- The walk of a grant pass with a remaining budget (R142, step 3). -/
def grantWalk : List Load → Nat → Loads → Loads
  | [], _, ls => ls
  | l :: rest, remaining, ls =>
    match ls.get l with
    | .waiting w _ promoted =>
      if w ≤ remaining then grantWalk rest (remaining - w) (ls.set l (.granted w))
      else if promoted then ls
      else grantWalk rest remaining ls
    | _ => grantWalk rest remaining ls

/-- The loads are over the effective budget (R142). -/
def State.overBudget (s : State) : Bool := decide (s.budget < s.sumHeld)

/-- The Refrigeration Controller takes a revocation of DEFROST: the heater goes off, and the load stands
WAITING in the arbiter (R143, R185). -/
def State.revokeDefrost (s : State) : State :=
  match s.load .defrost with
  | .granted w =>
    if s.overBudget then
      let s := s.setLoad .defrost (.waiting w 0 false)
      { s with rfc := { s.rfc with heaterOn := false } }
    else s
  | _ => s

/-- The Refrigeration Controller takes a revocation of COMPRESSOR: from STARTING or RUNNING the
compressor stops into LOCKOUT (R143, R182). A grant revoked before RFC has taken it in WAIT_POWER is
asked for again in the event, in time for the walk of the pass that revoked it. DESIGN CHOICE, unsafe
(notes/assumptions/15.md). -/
def State.revokeCompressor (s : State) : State :=
  match s.load .compressor with
  | .granted _ =>
    if s.overBudget then
      if s.rfc.state.compressorOn then
        let s := s.setLoad .compressor .none
        { s with rfc := { s.rfc with state := .lockout, offTime := 0, startWindow := none } }
      else if s.rfc.state = .waitPower then
        s.setLoad .compressor (.waiting s.settings.startWeight 0 false)
      else s.setLoad .compressor .none
    else s
  | _ => s

/-- The untaken grants without those whose load does not satisfy `keep`; a pass without any left out. -/
def keepUntaken (keep : Load → Bool) (u : List (List Load)) : List (List Load) :=
  (u.map fun pass => pass.filter keep).filter fun pass => !pass.isEmpty

/-- The untaken grants of loads that are GRANTED: a grant given back or revoked leaves (R137, R143). -/
def State.stillUntaken (s : State) : List (List Load) :=
  keepUntaken (fun l => (s.load l).isGranted) s.lba.untaken

/-- The walk of a grant pass, its grants standing behind the untaken ones of earlier passes, in the order made
(R142, step 3). -/
def State.walk (s : State) : State :=
  let order := waitOrder s.settings s.lba.loads
  let ls := grantWalk order (s.budget - s.sumHeld) s.lba.loads
  let made := order.filter fun l => (ls.get l).isGranted
  { s with lba := { s.lba with
    loads := ls, untaken := s.lba.untaken ++ (if made = [] then [] else [made]) } }

/-- The grant pass (R142): revocation, the stop while over, the walk. -/
def State.grantPass (s : State) : State :=
  let s := s.revokeDefrost.revokeCompressor
  let s := { s with lba := { s.lba with untaken := s.stillUntaken } }
  if s.overBudget then s else s.walk

/-- No grant that the same pass made before that of `l` is still untaken (R142). -/
def State.inTurn (s : State) (l : Load) : Bool :=
  s.lba.untaken.all fun pass => !pass.contains l || pass.head? == some l

/-- The grant of `l` is taken. -/
def State.tookGrant (s : State) (l : Load) : State :=
  { s with lba := { s.lba with untaken := keepUntaken (fun k => k != l) s.lba.untaken } }

/-- The requester of `l` takes its grant as an event of its own, `f` (R137), the grants of one pass in the
order made (R142). A load not granted, or one whose turn has not come, has no grant to take
(notes/assumptions/14.md). -/
def State.takeGrant (s : State) (l : Load) (f : State → State) : State :=
  if (s.load l).isGranted && s.inTurn l then f (s.tookGrant l) else s

/-- A request (R136). -/
def State.request (s : State) (l : Load) (w : Nat) : State :=
  match s.load l with
  | .none => (s.setLoad l (.waiting w 0 false)).grantPass
  | .waiting _ t p => (s.setLoad l (.waiting w t p)).grantPass
  | .granted _ => s

/-- A release or withdrawal (R138). -/
def State.release (s : State) (l : Load) : State :=
  match s.load l with
  | .none => s
  | _ => (s.setLoad l .none).grantPass

/-- A weight reduction (R139). -/
def State.reduceWeight (s : State) (l : Load) (w : Nat) : State :=
  match s.load l with
  | .granted h => if w < h then (s.setLoad l (.granted w)).grantPass else s
  | _ => s

/-- The band set, with the SUPPLY notice on a change (R134, R135). -/
def State.setBand (s : State) (b : Band) : State :=
  if b = s.lba.band then s
  else ({ s with lba := { s.lba with band := b } }).raise (.supply b)

/-- A waiting NORMAL load that has waited the promote time is promoted (R141). -/
def promoteDue (c : Settings) (l : Load) (r : LoadRec) : LoadRec :=
  match r with
  | .waiting w t false =>
    if c.priority l = .normal ∧ c.promoteMs ≤ t then .waiting w t true else .waiting w t false
  | other => other

/-- Every load that a write of the promote time or of a priority leaves due is promoted (R141). -/
def State.promoteAllDue (s : State) : State :=
  let ls := s.lba.loads
  let c := s.settings
  { s with lba := { s.lba with loads :=
    ⟨promoteDue c .spiral ls.spiral, promoteDue c .payout ls.payout,
      promoteDue c .compressor ls.compressor, promoteDue c .defrost ls.defrost,
      promoteDue c .damper ls.damper⟩ } }

end Sys2Proof.Machine
end

