-- ==== Sys2Proof/Machine/Drive.lean ====
section
/-! DEFINITION. SDC without its outcomes: the drive work list, the sequencer's entries into its states,
energizing, and the current limits. -/

namespace Sys2Proof.Machine

/-- An entry is a VEND entry (R50). -/
def DriveEntry.isVend (e : DriveEntry) : Bool :=
  match e.origin with
  | .vend _ _ => true
  | .test _ _ => false

def State.setSdc (s : State) (x : Sdc) : State := { s with sdc := x }

def State.setList (s : State) (l : List DriveEntry) : State := s.setSdc { s.sdc with list := l }

/-- The VEND entry of a pending vend (R38). -/
def State.vendEntry (s : State) (v : PendingVend) : DriveEntry where
  origin := .vend v.code v.index
  unit := v.unit
  turns := v.turns
  allowance := s.settings.extraTurns
  running := false
  delivered := false
  revolutions := 0
  extra := false

/-- A VEND entry goes behind the RUNNING entry, ahead of every TEST entry, or becomes the head (R51). -/
def enqueueVend (e : DriveEntry) (l : List DriveEntry) : List DriveEntry :=
  match l with
  | h :: rest => if h.running then h :: e :: rest else e :: h :: rest
  | [] => [e]

/-- SESC enqueues the VEND entry of a pending vend (R38, R51). -/
def State.enqueue (s : State) (v : PendingVend) : State :=
  s.setList (enqueueVend (s.vendEntry v) s.sdc.list)

/-- The weight requested for a unit (R132). -/
def State.spiralWeightOf (s : State) (u : DriveUnit) : Nat :=
  if u.twin then 2 * s.settings.spiralWeight else s.settings.spiralWeight

/-- The RUNNING entry changed. -/
def State.editHead (s : State) (f : DriveEntry → DriveEntry) : State :=
  s.setList (modifyAt f 0 s.sdc.list)

/-- Entry into AWAIT_POWER for a unit: the SPIRAL request and the power timer (R56). -/
def State.enterAwaitPower (s : State) (u : DriveUnit) : State :=
  (s.setSdc { s.sdc with seq := .awaitPower, powerTimer := some powerTimerMs }).request .spiral
    (s.spiralWeightOf u)

/-- An IDLE sequencer takes the head of the list (R56). -/
def State.takeHead (s : State) : State :=
  if s.sdc.seq = .idle then
    match s.sdc.list with
    | e :: _ =>
      (s.editHead fun e =>
        { e with running := true, delivered := false, revolutions := 0, extra := false }).enterAwaitPower
        e.unit
    | [] => s
  else s

/-- The unit of the RUNNING entry is energized, current sampling and the open-motor window start, and
LEAVING_HOME is entered, or TURNING when the home switch is already open (R57, R58, R59, R62, R157). -/
def State.energize (s : State) (u : DriveUnit) (homeOpen : Bool) : State :=
  let s := s.editHead fun e => { e with revolutions := 0 }
  let s := { s with msc := { s.msc with lastSample := none, sampleLeft := sampleMs } }
  s.setSdc { s.sdc with
    energized := some u
    powerTimer := none
    sampleCount := 0
    overCount := 0
    windowBelow := true
    seq := if homeOpen then .turning else .leavingHome
    leaveTimer := if homeOpen then none else some leaveTimerMs
    turnTimer := if homeOpen then some turnTimerMs else none }

/-- The unit is de-energized, sampling ends, and the SPIRAL grant or request is given back (R58, R70). -/
def State.deenergize (s : State) : State :=
  let s := { s with msc := { s.msc with lastSample := none, sampleLeft := 0 } }
  let s := s.setSdc { s.sdc with
    energized := none
    powerTimer := none
    leaveTimer := none
    turnTimer := none
    settleTimer := none }
  s.release .spiral

/-- The unit is de-energized and SETTLING entered with its window (R60, R61). -/
def State.enterSettling (s : State) : State :=
  let s := s.deenergize
  s.setSdc { s.sdc with seq := .settling, settleTimer := some s.settings.settleWindow }

/-- The jam limit of a unit (R62). -/
def State.jamLimit (s : State) (u : DriveUnit) : Nat :=
  if u.twin then 2 * s.settings.overcurrent else s.settings.overcurrent

/-- The open limit of a unit (R63). -/
def State.openLimit (s : State) (u : DriveUnit) : Nat :=
  if u.twin then 2 * s.settings.openThreshold else s.settings.openThreshold

end Sys2Proof.Machine
end

