-- ==== Sys2Proof/Machine/Cash.lean ====
section
/-! DEFINITION. SESC and the payout executor: the inactivity timer, the start and the end of payouts,
PAYING, settling, the outcome of a vend, escrow, and money arriving. -/

namespace Sys2Proof.Machine

def State.setSesc (s : State) (x : Session) : State := { s with sesc := x }

/-! ### The inactivity timer (R46) -/

/-- The timer as a start leaves it: the full time, or stopped with inactivity time 0. -/
def State.fullInactivity (s : State) : Option Nat :=
  if s.settings.inactivityTime = 0 then none else some s.settings.inactivityMs

/-- The timer starts. -/
def State.startInactivity (s : State) : State :=
  s.setSesc { s.sesc with inactivity := s.fullInactivity }

/-- The timer restarts if it runs. -/
def State.restartInactivity (s : State) : State :=
  if s.sesc.inactivity.isSome then s.startInactivity else s

/-- The session closes to IDLE: no escrow, no authorized amount, no pending vend (R25). -/
def State.closeSession (s : State) : State :=
  s.setSesc { s.sesc with
    phase := .idle, escrow := none, authorized := none, pendingVend := none, inactivity := none }

/-- The session stands in CASH_CREDIT with its timer started (R32, R39, R41). -/
def State.backToCredit (s : State) : State :=
  (s.setSesc { s.sesc with phase := .cashCredit }).startInactivity

/-- CASH_CREDIT if cash credit is above 0, and IDLE otherwise (R32, R37, R105). -/
def State.creditOrIdle (s : State) : State :=
  if s.sesc.credit = 0 then s.closeSession else s.backToCredit

/-- A CASH session opens (R29, R30): the session set is the active set. -/
def State.openCash (s : State) : State :=
  (s.setSesc { s.sesc with
    phase := .cashCredit, kind := .cash, sessionSet := s.selt.active }).startInactivity

/-! ### The payout executor (R97 to R108) -/

def State.setPayout (s : State) (x : Payout) : State := { s with chu := { s.chu with payout := x } }

/-- A payout is running (R97). -/
def State.payoutRunning (s : State) : Bool := s.chu.payout.state != .idle

/-- A pulse of the head entry's tube: the actuator on, the exit window open, the tube the last pulsed
(R101). -/
def State.pulse (s : State) : State :=
  match s.chu.payout.plan with
  | e :: _ =>
    s.setPayout { s.chu.payout with
      window := some ⟨e.tube, exitWindowMs⟩
      counted := false
      pulse := some pulseMs
      lastPulsed := some e.tube }
  | [] => s

/-- EJECTING is entered with the first pulse of the head entry (R100). -/
def State.startEjecting (s : State) : State :=
  (s.setPayout { s.chu.payout with state := .ejecting, pulseNumber := 1 }).pulse

/-- The end of a payout but for the session: actuator off, window closed, the grant released or the
request withdrawn (unless it is kept for a change payout), IDLE, the PAYOUT notice, the exact-change
flag (R105, R107). -/
def State.endPayout (s : State) (keepGrant : Bool) : State :=
  let p := s.chu.payout
  let s := s.setPayout { p with
    state := .idle, plan := [], excluded := [], window := none, counted := false, pulse := none,
    pulseNumber := 1, endMark := false, due := 0 }
  let s := if keepGrant then s else s.release .payout
  (s.raise (.payout p.paid (p.amount - p.paid) p.overpaid)).evalExact

/-- The end of a payout for which the session stands in PAYING (R105, R32). -/
def State.endChange (s : State) : State := (s.endPayout false).creditOrIdle

/-- A CHANGE payout of an amount starts; `granted` when it takes over a SERVICE payout's grant (R98,
R107). -/
def State.startChange (s : State) (amount : Nat) (granted : Bool) : State :=
  let limit := s.settings.coinLimit
  let plan := (planFor s.chu.tubes [] amount limit).1
  let s := s.setPayout { s.chu.payout with
    state := .awaitPower, kind := .change, amount := amount, plan := plan, limit := limit,
    confirmed := 0, paid := 0, overpaid := 0, excluded := [], pulseNumber := 1, window := none,
    counted := false, pulse := none, endMark := false, due := 0 }
  if plan = [] then s.endChange
  else if granted then s.startEjecting
  else s.request .payout s.settings.payoutWeight

/-- A CASH session has entered PAYING: the change payout of the cash credit at this moment starts, or
follows the SERVICE payout that runs (R32, R98, R107; notes/assumptions/31.md). -/
def State.payCredit (s : State) : State :=
  let amount := s.sesc.credit.toNat
  match s.chu.payout.state with
  | .idle => s.startChange amount false
  | .awaitPower => (s.endPayout false).startChange amount false
  | .ejecting => s.setPayout { s.chu.payout with endMark := true, due := amount }

/-- A session enters PAYING (R32). -/
def State.enterPaying (s : State) : State :=
  (s.setSesc { s.sesc with
    phase := .paying, kind := .cash, escrow := none, authorized := none, pendingVend := none,
    inactivity := none }).payCredit

/-- PAYING with credit above 0, IDLE otherwise (R33, R39, R43, R45). -/
def State.payOrIdle (s : State) : State :=
  if s.sesc.credit = 0 then s.closeSession else s.enterPaying

/-- A CASHLESS session settles (R33). -/
def State.settle (s : State) (charged : Nat) : State :=
  let s := s.raise (.cashlessSettle charged)
  (s.setSesc { s.sesc with authorized := none }).payOrIdle

/-- A SERVICE payout starts on one tube (R99). -/
def State.startService (s : State) (i : Nat) (d n count : Nat) : State :=
  let limit := s.settings.coinLimit
  let k := min (min n count) limit
  let s := s.setPayout { s.chu.payout with
    state := .awaitPower, kind := .service, amount := n * d,
    plan := if k = 0 then [] else [⟨i, d, k⟩],
    limit := limit, confirmed := 0, paid := 0, overpaid := 0, excluded := [], pulseNumber := 1,
    window := none, counted := false, pulse := none, endMark := false }
  if k = 0 then s.endPayout false else s.request .payout s.settings.payoutWeight

/-- The end of a payout by its kind; a marked SERVICE payout hands its grant to the change payout that
starts in the event (R105, R107). -/
def State.finishPayout (s : State) : State :=
  match s.chu.payout.kind with
  | .change => s.endChange
  | .service =>
    if s.chu.payout.endMark then (s.endPayout true).startChange s.chu.payout.due true
    else s.endPayout false

/-- A coin of the head entry, of denomination `d`, is confirmed against the plan (R102). -/
def State.confirmCoin (s : State) (d : Nat) : State :=
  let p := s.chu.payout
  let s := s.setPayout { p with
    plan := modifyAt (fun e => { e with remaining := e.remaining - 1 }) 0 p.plan
    confirmed := p.confirmed + 1
    paid := p.paid + d
    counted := true }
  match p.kind with
  | .change => s.payChange d
  | .service => s.payService d

/-- A coin beyond the plan, of denomination `d` (R102). -/
def State.overpayCoin (s : State) (d : Nat) : State :=
  let p := s.chu.payout
  (s.setPayout { p with overpaid := p.overpaid + d, counted := true }).payOver d

/-- An exit count in the open window of tube `i` (R102). -/
def State.countInWindow (s : State) (i : Nat) : State :=
  let s := s.lowerCount i
  let s :=
    match s.chu.payout.plan with
    | e :: _ => if 0 < e.remaining then s.confirmCoin e.denom else s.overpayCoin e.denom
    | [] => s
  s.updateRoute

/-- A late count (R106). -/
def State.lateCount (s : State) : State :=
  match s.chu.payout.lastPulsed with
  | some i =>
    match s.tube i with
    | some t =>
      match t.assign with
      | some a => ((s.lowerCount i).payOver a.denom).tubesChanged
      | none => s
    | none => s
  | none => s

/-- A plan without its head entry when all of that entry's coins are paid (R101, R102). -/
def dropPaid : List PlanEntry → List PlanEntry
  | e :: rest => if e.remaining = 0 then rest else e :: rest
  | [] => []

/-- The replan of a CHANGE payout after a jam (R104). -/
def State.replan (s : State) : State :=
  let p := s.chu.payout
  let plan := (planFor s.chu.tubes p.excluded (planValue p.plan) (p.limit - p.confirmed)).1
  let s := s.setPayout { p with plan := plan, pulseNumber := 1 }
  if plan = [] then s.endChange else s.pulse

/-- Tube `i` is marked JAMMED, excluded and reported (R103). The excluded tubes stand in the order of their
jams, the model's choice (notes/assumptions/10.md). -/
def State.markJammed (s : State) (i : Nat) : State :=
  let s := s.editTube i fun t => { t with state := .jammed }
  let s := s.setPayout { s.chu.payout with
    excluded := if s.chu.payout.excluded.contains i then s.chu.payout.excluded
      else s.chu.payout.excluded ++ [i] }
  (s.raiseTube i .jammed none).updateRoute

/-- The third window of a coin has expired without a count (R103, R104, R107). -/
def State.jamTube (s : State) (i : Nat) : State :=
  let s := s.markJammed i
  match s.chu.payout.kind with
  | .change => s.replan
  | .service => s.finishPayout

/-- The exit window of tube `i` has run out in EJECTING (R101, R107). -/
def State.windowEnds (s : State) (i : Nat) : State :=
  let p := s.chu.payout
  if p.counted then
    let s := s.setPayout { p with plan := dropPaid p.plan, pulseNumber := 1 }
    if s.chu.payout.endMark ∨ s.chu.payout.plan = [] then s.finishPayout else s.pulse
  else if p.pulseNumber < 3 then
    if p.endMark then s.finishPayout
    else (s.setPayout { p with pulseNumber := p.pulseNumber + 1 }).pulse
  else s.jamTube i

/-- The executor at an assertion of the power-fail warning (R107, R108). -/
def State.stopPayout (s : State) : State :=
  match s.chu.payout.state with
  | .idle => s
  | _ =>
    match s.chu.payout.kind with
    | .change => s.endChange
    | .service =>
      if s.chu.payout.endMark then s.endChange else s.endPayout false

/-! ### The outcome of a vend (R39 to R42) -/

/-- The pending vend is removed and its result reported (R39, R41). -/
def State.reportVend (s : State) (v : PendingVend) (o : VendOutcome) (charged : Nat) : State :=
  (s.setSesc { s.sesc with pendingVend := none }).raise (.vendOutcome v.code v.index o charged)

/-- A DELIVERED vend is charged and the session moves on (R39). -/
def State.vendDelivered (s : State) (v : PendingVend) : State :=
  match s.sesc.kind with
  | .cash =>
    let s := (s.chargeCash v.price).reportVend v (.drive .delivered) v.price
    if s.settings.multiVend then s.creditOrIdle else s.payOrIdle
  | .cashless =>
    ((s.chargeCashless v.price).reportVend v (.drive .delivered) v.price).settle v.price

/-- A vend ends without delivery (R41). -/
def State.vendFailed (s : State) (v : PendingVend) (o : DriveOutcome) : State :=
  let s := s.reportVend v (.drive o) 0
  match s.sesc.kind with
  | .cash => s.backToCredit
  | .cashless => s.settle 0

/-- The failover position of a pending vend, when a failover is made (R40). -/
def State.failoverFor (s : State) (v : PendingVend) : Option (Nat × Position) :=
  if s.settings.failover && !v.failoverUsed then
    match findSel s.selt.table v.code with
    | some r => r.choose
    | none => none
  else none

/-- A failed vend goes on to a failover position, or ends (R40, R41). -/
def State.vendJammed (s : State) (v : PendingVend) (o : DriveOutcome) : State :=
  match s.failoverFor v with
  | some (i, p) =>
    let v := { v with index := i, unit := p.unit, turns := p.turns, failoverUsed := true }
    (s.setSesc { s.sesc with pendingVend := some v }).enqueue v
  | none => s.vendFailed v o

/-- SESC takes the outcome of the VEND entry; SELT has the position's part first (R8, R39 to R42). -/
def State.takeVendOutcome (s : State) (o : DriveOutcome) : State :=
  match s.sesc.pendingVend with
  | none => s
  | some v =>
    let s := s.seltVend v.code v.index o
    match o with
    | .delivered => s.vendDelivered v
    | .jammed => s.vendJammed v o
    | .openMotor => s.vendJammed v o
    | .noDrop => s.vendJammed v o
    | .noPower => s.vendFailed v o
    | .interrupted => s.vendFailed v o

/-! ### Escrow (R30, R31, R36, R37) -/

/-- An escrow held in CASH_CREDIT is lost (R31). -/
def State.loseEscrow (s : State) (r : BillReason) : State :=
  let s := (s.setSesc { s.sesc with escrow := none }).raise (.bill r)
  if s.sesc.credit = 0 then s.closeSession else s

/-- A stack fails (R37). -/
def State.stackFails (s : State) (r : BillReason) : State :=
  let s := (s.setSesc { s.sesc with escrow := none }).raise (.bill r)
  let s :=
    match s.sesc.pendingVend with
    | some v => s.reportVend v .escrowFault 0
    | none => s
  s.creditOrIdle

/-- The bill validator went OFFLINE or restarted (R31, R37). -/
def State.billLost (s : State) : State :=
  if s.sesc.phase = .stacking then s.stackFails .validatorLost
  else if s.sesc.phase = .cashCredit ∧ s.sesc.escrow.isSome then s.loseEscrow .validatorLost
  else s

/-- The reason that sends a bill back, if any: the first that applies (R30). -/
def State.billRefusal (s : State) (b : BillClass) : Option BillReason :=
  if b.enabled = false ∨ b.value = 0 then some .classDisabled
  else if s.sesc.phase ≠ .idle ∧ s.sesc.phase ≠ .cashCredit then some .notAccepting
  else if s.sesc.escrow.isSome then some .escrowHeld
  else if s.settings.maxCredit < s.sesc.credit.toNat + b.value then some .overMax
  else if s.settings.billTest then s.billTest b.value
  else none

/-- A bill is sent back (R30). -/
def State.sendBack (s : State) (r : BillReason) : State :=
  let s := s.handEscrowReturn.raise (.bill r)
  if s.sesc.phase = .cashCredit ∨ s.sesc.phase = .cashlessReady then s.restartInactivity else s

/-- A bill is kept in escrow (R30). -/
def State.keepBill (s : State) (cls value : Nat) : State :=
  let s := s.setSesc { s.sesc with escrow := some ⟨cls, value⟩ }
  if s.sesc.phase = .idle then s.openCash else s.restartInactivity

/-- BILL_ESCROWED of a class (R30, R87). -/
def State.billEscrowed (s : State) (cls : Nat) : State :=
  match s.chu.bills[cls]? with
  | none => s
  | some b =>
    match s.billRefusal b with
    | some r => s.sendBack r
    | none => s.keepBill cls b.value

/-- BILL_STACKED (R31, R36, R87). -/
def State.billStacked (s : State) : State :=
  if s.sesc.phase = .stacking then
    let s := s.creditBill s.sesc.escrowValue
    let s := s.setSesc { s.sesc with escrow := none, phase := .vending }
    match s.sesc.pendingVend with
    | some v => (s.enqueue v).takeHead
    | none => s
  else s.raise (.bill .unexpectedStack)

/-- BILL_RETURNED (R31, R37). -/
def State.billReturned (s : State) : State :=
  if s.sesc.phase = .stacking then s.stackFails .validatorReturned
  else if s.sesc.phase = .cashCredit ∧ s.sesc.escrow.isSome then s.loseEscrow .validatorReturned
  else s

/-! ### Coins (R29, R86) -/

/-- What a credited coin does to the session by its phase (R29). -/
def State.coinPhase (s : State) : State :=
  match s.sesc.phase with
  | .idle => s.openCash
  | .cashCredit => s.restartInactivity
  | .cashlessReady => s.restartInactivity
  | _ => s

/-- COIN_ACCEPTED of a class with its reported route (R86, R29). -/
def State.coinAccepted (s : State) (cls : Nat) (toTube : Bool) : State :=
  match s.chu.coins[cls]? with
  | none => s
  | some c =>
    if c.value = 0 then s else ((s.countCoin c toTube).creditCoin c.value).coinPhase

/-! ### Cancelling (R43, R47) -/

/-- What the SESSION notice and CHU see of a session (R28). -/
def Session.view (x : Session) : Phase × Kind × Money × Option Escrow :=
  (x.phase, x.kind, x.credit, x.escrow)

/-- The SESSION notice is updated, and CHU recomputes both masks (R28, R85). -/
def State.noteSession (s : State) : State :=
  (s.raise (.session s.sesc.phase s.sesc.credit s.sesc.escrowValue)).updateMasks

/-- At the end of an event, a session that it changed is noted, once, as it then stands (R28;
notes/assumptions/6.md). -/
def State.closeEvent (before : Session) (s : State) : State :=
  if s.sesc.view = before.view then s else s.noteSession

/-- The cancel of a session in CASH_CREDIT (R43, R47). The session leaves CASH_CREDIT, so SESSION is
updated also where a payout that can pay nothing ends in the same event (R28, R98). -/
def State.cancelSession (s : State) (r : BillReason) : State :=
  let before := s.sesc
  let s :=
    if s.sesc.escrow.isSome then
      (s.handEscrowReturn.setSesc { s.sesc with escrow := none }).raise (.bill r)
    else s
  let s := s.payOrIdle
  if s.sesc.view = before.view then s.noteSession else s

/-- A write of the inactivity time (R46). -/
def State.inactivityWritten (s : State) : State :=
  if s.sesc.phase = .cashCredit ∨ s.sesc.phase = .cashlessReady then s.startInactivity else s

end Sys2Proof.Machine
end

