-- ==== Sys2Proof/Machine/Sequencer.lean ====
section
/-! DEFINITION. The sequencer's events: drops, the ends of entries, the timers, current samples, and the
power-fail warning at the work list (R57 to R71). -/

namespace Sys2Proof.Machine

/-- The outcome of an entry is handed on (R70, step 3). -/
def State.handOutcome (s : State) (e : DriveEntry) (o : DriveOutcome) : State :=
  match e.origin with
  | .vend _ _ => s.takeVendOutcome o
  | .test row col => (s.seltTest row col o).raise (.testOutcome row col o)

/-- The RUNNING entry ends (R70): the unit is de-energized and the load given back, the entry leaves the
list, the outcome is handed on, the sequencer becomes IDLE and takes the next head. -/
def State.endEntry (s : State) (o : DriveOutcome) : State :=
  match s.sdc.list with
  | [] => s
  | e :: rest =>
    let s := (s.deenergize.setList rest).handOutcome e o
    (s.setSdc { s.sdc with seq := .idle }).takeHead

/-- The RUNNING entry's delivered mark is set. -/
def State.headDelivered (s : State) : Bool :=
  match s.sdc.list with
  | e :: _ => e.delivered
  | [] => false

/-- A failure of the turn: with the mark set the entry ends DELIVERED (R67). -/
def State.endFailed (s : State) (o : DriveOutcome) : State :=
  s.endEntry (if s.headDelivered then .delivered else o)

/-- A drop event (R65). -/
def State.dropEvent (s : State) : State :=
  match s.sdc.seq with
  | .leavingHome => s.editHead fun e => { e with delivered := true }
  | .turning => s.editHead fun e => { e with delivered := true }
  | .settling => s.endEntry .delivered
  | .idle => s.raise .dropUnattributed
  | .awaitPower => s.raise .dropUnattributed

/-- The home switch closes in TURNING: a revolution is complete (R60, R66). -/
def State.revolution (s : State) : State :=
  match s.sdc.list with
  | [] => s
  | e :: _ =>
    let s := s.setSdc { s.sdc with turnTimer := none }
    if e.delivered then s.endEntry .delivered
    else
      let n := e.revolutions + 1
      let s := s.editHead fun e => { e with revolutions := n }
      if e.extra = false ∧ n < e.turns then
        s.setSdc { s.sdc with seq := .leavingHome, leaveTimer := some leaveTimerMs }
      else s.enterSettling

/-- The settle window runs out (R61). -/
def State.settleEnds (s : State) : State :=
  match s.sdc.list with
  | [] => s
  | e :: _ =>
    if 0 < e.allowance then
      let s := s.setSdc { s.sdc with settleTimer := none }
      (s.editHead fun e =>
        { e with allowance := e.allowance - 1, extra := true, delivered := false }).enterAwaitPower e.unit
    else s.endEntry .noDrop

/-- A current sample of `i` mA of the energized unit `u`: the jam test, then the open-motor window
(R62, R63; notes/assumptions/17.md). -/
def State.takeSample (s : State) (u : DriveUnit) (i : Nat) : State :=
  let n := s.sdc.sampleCount + 1
  let overs := if s.jamLimit u < i then s.sdc.overCount + 1 else 0
  let inWindow := decide (10 ≤ n) && decide (n ≤ 30)
  let below := s.sdc.windowBelow && (!inWindow || decide (i < s.openLimit u))
  let s := { s with
    msc := { s.msc with lastSample := some i, sampleLeft := sampleMs }
    sdc := { s.sdc with sampleCount := n, overCount := overs, windowBelow := below } }
  if 3 ≤ overs then s.endFailed .jammed
  else if n = 30 ∧ below then s.endFailed .openMotor
  else s

/-- The outcome the power-fail warning gives the RUNNING entry (R71). -/
def State.warningOutcome (s : State) (e : DriveEntry) : DriveOutcome :=
  if s.sdc.seq = .awaitPower ∧ e.extra = false then .noPower else .interrupted

/-- Entries PENDING at the warning are handed on as NO_POWER, in list order (R71). -/
def dropPendingEntries : List DriveEntry → State → State
  | [], s => s
  | e :: rest, s => dropPendingEntries rest (s.handOutcome e .noPower)

/-- The work list at an assertion of the power-fail warning (R71). -/
def State.stopDrive (s : State) : State :=
  match s.sdc.list with
  | [] => s
  | e :: rest =>
    let s' := s.deenergize.setList []
    let s' :=
      if e.running then dropPendingEntries rest (s'.handOutcome e (s.warningOutcome e))
      else dropPendingEntries (e :: rest) s'
    s'.setSdc { s'.sdc with seq := .idle }

/-- The PENDING TEST entries leave the list at a door closing (R53). -/
def State.dropPendingTests (s : State) : State :=
  s.setList (s.sdc.list.filter fun e => e.running || e.isVend)

/-- A TEST entry (R52): the drive unit of the position that owns the address when that is a twin pair,
else the motor at the address. -/
def State.testEntry (s : State) (row col : Nat) : DriveEntry where
  origin := .test row col
  unit :=
    match s.selt.table.findSome? fun r =>
        r.positions.find? fun p => p.unit.addrs.contains (row, col) with
    | some p => if p.unit.twin then p.unit else ⟨row, col, false⟩
    | none => ⟨row, col, false⟩
  turns := 1
  allowance := 0
  running := false
  delivered := false
  revolutions := 0
  extra := false

/-- The number of TEST entries on the list (R52). -/
def State.testCount (s : State) : Nat := (s.sdc.list.filter fun e => !e.isVend).length

end Sys2Proof.Machine
end

