-- ==== Sys2Proof/Machine/CashBus.lean ====
section
/-! DEFINITION. CBM: serving the slots, the judgment of replies, failed attempts, going OFFLINE, coming
ONLINE, restarts, and the events of a POLL reply (R113 to R128). -/

namespace Sys2Proof.Machine

def State.setBus (s : State) (b : Bus) : State := { s with cbm := { s.cbm with bus := b } }

/-- A peripheral record changed. -/
def State.editPeriph (s : State) (p : Peripheral) (f : PeriphRec → PeriphRec) : State :=
  s.setPeriph p (f (s.periph p))

/-- Some slot of a pending set holds a command (R122). -/
def PendingSet.any (q : PendingSet) : Bool :=
  q.reset || q.escrow.isSome || q.setup || q.routeMap.isSome || q.acceptMask.isSome

/-- SETUP, ROUTE_MAP for the coin validator and ACCEPT_MASK are queued, each in its slot, CHU supplying
the map and the mask as they stand, which become the last ones handed (R84, R85, R125, R126, R127;
notes/assumptions/27.md). -/
def State.queueSetup (s : State) (p : Peripheral) : State :=
  let k := s.maskOf p
  match p with
  | .coin =>
    let m := s.routeMap
    ((s.noteMap m).noteMask .coin k).editPending .coin fun q =>
      { q with setup := true, routeMap := some m, acceptMask := some k }
  | .bill =>
    (s.noteMask .bill k).editPending .bill fun q => { q with setup := true, acceptMask := some k }

/-- The stack watch stops, and the loss is handed to SESC; for the bill validator alone (R124, R125,
R127). -/
def State.validatorGone (s : State) (p : Peripheral) : State :=
  match p with
  | .coin => s
  | .bill => s.billLost

/-- An ONLINE peripheral goes OFFLINE (R124). -/
def State.goOffline (s : State) (p : Peripheral) : State :=
  let s := s.editPeriph p fun r =>
    { r with
      link := .offline, outstanding := none, pending := PendingSet.empty, stackWatch := none,
      resetExpected := false, probeTime := probeMs }
  (s.raise (.peripheral p false 0)).validatorGone p

/-- A failed attempt of the outstanding frame (R124). A frame that going OFFLINE has cleared has no
attempt left to fail (notes/assumptions/18.md). -/
def State.attemptFails (s : State) (p : Peripheral) : State :=
  match (s.periph p).outstanding with
  | none => s
  | some o =>
    if o.attempt < 3 then
      s.editPeriph p fun r => { r with outstanding := some { o with attempt := o.attempt + 1 } }
    else s.goOffline p

/-- A failed probe (R126). It sets 2 s also where a CASHBUS.RESET has made the next probe due while this one
was on the bus. DESIGN CHOICE, unsafe (notes/assumptions/42.md). -/
def State.probeFails (s : State) (p : Peripheral) : State :=
  let s' := s.editPeriph p fun r => { r with probeTime := probeMs }
  if (s.periph p).link = .unknown then
    (s'.editPeriph p fun r => { r with link := .offline }).raise (.peripheral p false 0)
  else s'

/-- An exchange that ended in failure (R124, R126). -/
def State.exchangeFails (s : State) (p : Peripheral) (probe : Bool) : State :=
  if probe then s.probeFails p else s.attemptFails p

/-- The ACK of a probe (R126). -/
def State.comeOnline (s : State) (p : Peripheral) : State :=
  let s := (s.editPeriph p fun r => { r with link := .online }).queueSetup p
  (s.editPeriph p fun r => { r with resetExpected := true }).raise (.peripheral p true 0)

/-- The ACK of a RESET sent to an ONLINE peripheral (R125). -/
def State.resetAcked (s : State) (p : Peripheral) : State :=
  let s := (s.editPeriph p fun r => { r with pending := PendingSet.empty }).queueSetup p
  (s.editPeriph p fun r => { r with resetExpected := true, stackWatch := none }).validatorGone p

/-- The ACK of a command that expects it: the outstanding frame ends and its effects follow (R117,
R121, R124, R125). -/
def State.commandAcked (s : State) (p : Peripheral) (m : Message) : State :=
  let s := s.editPeriph p fun r => { r with outstanding := none }
  match m with
  | .reset => s.resetAcked p
  | .escrowStack => s.editPeriph p fun r => { r with stackWatch := some stackWatchMs }
  | _ => s

/-! ### Slots (R123) -/

/-- A command's frame is first sent: it leaves its slot and becomes the outstanding frame. -/
def State.sendNew (s : State) (p : Peripheral) (m : Message) (f : PendingSet → PendingSet) : State :=
  (s.editPeriph p fun r =>
    { r with pending := f r.pending, outstanding := some ⟨m, 1⟩ }).setBus (.sending p m false)

/-- The serve of an ONLINE peripheral with no outstanding frame: the first non-empty slot in the order
of R122, or POLL. -/
def State.serveNew (s : State) (p : Peripheral) : State :=
  let q := (s.periph p).pending
  if q.reset then s.sendNew p .reset fun q => { q with reset := false }
  else
    match q.escrow with
    | some .stack => s.sendNew p .escrowStack fun q => { q with escrow := none }
    | some .giveBack => s.sendNew p .escrowReturn fun q => { q with escrow := none }
    | none =>
      if q.setup then s.sendNew p .setup fun q => { q with setup := false }
      else
        match q.routeMap, q.acceptMask with
        | some m, _ => s.sendNew p (.routeMap m) fun q => { q with routeMap := none }
        | none, some m => s.sendNew p (.acceptMask m) fun q => { q with acceptMask := none }
        | none, none => s.sendNew p .poll fun q => q

/-- A peripheral is served in its slot (R123). -/
def State.serve (s : State) (p : Peripheral) : State :=
  match (s.periph p).link with
  | .online =>
    match (s.periph p).outstanding with
    | some o => s.setBus (.sending p o.message false)
    | none => s.serveNew p
  | _ => if (s.periph p).probeTime = 0 then s.setBus (.sending p .reset true) else s

/-- The peripheral whose slot comes after `p`'s (R123). -/
def otherPeriph : Peripheral → Peripheral
  | .coin => .bill
  | .bill => .coin

/-- Slots whose time came during an exchange are served in order until one starts an exchange
(R123; notes/assumptions/19.md). -/
def serveLate : List Peripheral → State → State
  | [], s => { s with cbm := { s.cbm with late := [] } }
  | p :: rest, s =>
    let s := s.serve p
    if s.cbm.bus = .idle then serveLate rest s else { s with cbm := { s.cbm with late := rest } }

/-- The exchange on the bus ends, and late slots are served (R113, R123). -/
def State.endExchange (s : State) : State :=
  let s := s.setBus .idle
  serveLate s.cbm.late s

/-- A slot opens (R123). -/
def State.openSlot (s : State) : State :=
  let p := s.cbm.nextSlot
  let s := { s with cbm := { s.cbm with slotLeft := slotMs, nextSlot := otherPeriph p } }
  if s.cbm.bus = .idle then s.serve p
  else { s with cbm := { s.cbm with late := s.cbm.late ++ [p] } }

/-! ### The events of a POLL reply (R120) -/

/-- DEVICE_FAULT (R128). -/
def State.deviceFault (s : State) (p : Peripheral) (code : Nat) : State :=
  let s := (s.editPeriph p fun r => { r with lastFault := code, stackWatch := none }).raise
    (.peripheral p true code)
  match p with
  | .coin => s
  | .bill => if s.sesc.phase = .stacking then s.stackFails .validatorLost else s

/-- JUST_RESET (R127). -/
def State.justReset (s : State) (p : Peripheral) : State :=
  if (s.periph p).resetExpected then s
  else
    let s := (s.editPending p fun q => { q with escrow := none }).queueSetup p
    let s := (s.editPeriph p fun r => { r with stackWatch := none }).raise (.peripheral p true 0)
    s.validatorGone p

/-- The stack watch stops (R121). -/
def State.stopWatch (s : State) : State :=
  s.editPeriph .bill fun r => { r with stackWatch := none }

/-- One event of a POLL reply, by the peripheral that reports it (R120). -/
def State.busEvent (s : State) (p : Peripheral) (e : BusEvent) : State :=
  match e, p with
  | .coinAccepted cls toTube, .coin => s.coinAccepted cls toTube
  | .coinAccepted _ _, .bill => s
  | .coinRejected, _ => s
  | .billEscrowed _, .coin => s
  | .billEscrowed cls, .bill => s.billEscrowed cls
  | .billStacked, .coin => s
  | .billStacked, .bill => s.stopWatch.billStacked
  | .billReturned, .coin => s
  | .billReturned, .bill => s.stopWatch.billReturned
  | .deviceFault code, p => s.deviceFault p code
  | .justReset, p => s.justReset p

/-- The events of a POLL reply, one after another, each whole before the next (R119;
notes/assumptions/6.md). -/
def busEvents (p : Peripheral) : List BusEvent → State → State
  | [], s => s
  | e :: rest, s => busEvents p rest ((s.busEvent p e).closeEvent s.sesc)

/-- A POLL reply taken as good (R116, R119, R127; notes/assumptions/20.md). -/
def State.pollTaken (s : State) (p : Peripheral) (es : List BusEvent) : State :=
  let s := (s.editPeriph p fun r => { r with outstanding := none }).setBus (.confirming p)
  (busEvents p es s).editPeriph p fun r => { r with resetExpected := false }

/-- A SETUP reply taken as good (R116, R118). -/
def State.setupTaken (s : State) (p : Peripheral) (vs : List Nat) : State :=
  ((s.editPeriph p fun r => { r with outstanding := none }).setBus (.confirming p)).takeSetup p vs

/-! ### The events of an exchange -/

/-- An exchange awaiting its reply ends in the event, with an effect of its own; late slots follow once
the session's part of the event is done. -/
def State.closeExchange (s : State) (f : State → State) : State :=
  ((f s).closeEvent s.sesc).endExchange

/-- The reply fails: NAK, a bad reply or no reply (R115, R124). -/
def State.replyFails (s : State) : State :=
  match s.cbm.bus with
  | .awaiting p _ probe _ _ => s.closeExchange fun s => s.exchangeFails p probe
  | _ => s

/-- The reply is ACK (R115, R117): to a message that expects data it is bad. -/
def State.replyAck (s : State) : State :=
  match s.cbm.bus with
  | .awaiting p m probe _ _ =>
    s.closeExchange fun s =>
      if probe then s.comeOnline p
      else if (s.periph p).outstanding = none then s
      else if m.expectsAck then s.commandAcked p m
      else s.attemptFails p
  | _ => s

/-- The reply to SETUP (R115, R118). -/
def State.replySetup (s : State) (chars : List Byte) : State :=
  match s.cbm.bus with
  | .awaiting p m probe _ _ =>
    if m = .setup ∧ probe = false ∧ (s.periph p).outstanding.isSome then
      match setupValuesOf chars with
      | some vs => s.setupTaken p vs
      | none => s.replyFails
    else s.replyFails
  | _ => s

/-- The reply to POLL (R115, R119). -/
def State.replyPoll (s : State) (chars : List Byte) : State :=
  match s.cbm.bus with
  | .awaiting p m probe _ _ =>
    if m = .poll ∧ probe = false ∧ (s.periph p).outstanding.isSome then
      match pollEventsOf chars with
      | some es => s.pollTaken p es
      | none => s.replyFails
    else s.replyFails
  | _ => s

end Sys2Proof.Machine
end

