-- ==== Sys2Proof/Machine/Flags.lean ====
section
/-! DEFINITION. The output lines and the derived flags of the part, each a function of the state, and the
characters on its two serial lines, bit by bit. -/

namespace Sys2Proof.Machine

/-- The part drives its outputs: it has its supply. Each line follows its record from the power-on, the
restore included, which may still run; RFC's first state is taken in that event (R177, R190;
notes/assumptions/35.md). -/
def State.drives (s : State) : Bool := s.power != .off

/-- ATTN: asserted from the end of the restore while the notice set is not empty (R198, R206). -/
def State.attn (s : State) : Bool := s.power == .running && !s.hli.notices.isEmpty

/-- CBTXE: asserted while the part sends on the Cash Bus (R113). Before a confirmation the spec gives it no
lead; the model asserts it from the reply's event on, through the 1 to 5 ms of R116. DESIGN CHOICE, unsafe
(notes/assumptions/36.md). -/
def State.cbtxe (s : State) : Bool :=
  s.drives &&
  match s.cbm.bus with
  | .sending _ _ _ => true
  | .confirming _ => true
  | _ => false

/-- The row line driven, 0 for A to 7 for H, if any (R58). -/
def State.rowLine (s : State) : Option Nat :=
  if s.drives then s.sdc.energized.map DriveUnit.row else none

/-- The column lines driven (R58). -/
def State.columnLines (s : State) : List Nat :=
  if s.drives then
    match s.sdc.energized with
    | some u => if u.twin then [u.col, u.col + 1] else [u.col]
    | none => []
  else []

/-- The column whose home switch the sequencer watches, with its row: the left address of a twin pair
(R58, R59). -/
def State.watchedHome (s : State) : Option (Nat × Nat) :=
  s.sdc.energized.map fun u => (u.row, u.col)

/-- PAY0 to PAY5: the tube whose actuator is energized, if any (R101). -/
def State.payLine (s : State) : Option Nat :=
  if s.drives && s.chu.payout.pulse.isSome then s.chu.payout.window.map ExitWindow.tube else none

/-- DMP1 to DMP3: the zone whose damper motor is driven, if any (R167). -/
def State.damperLine (s : State) : Option ZoneNo :=
  if s.drives then s.ztc.running.map Move.zone else none

/-- DDIR: the target the direction line is set for, while a move runs (R167). -/
def State.damperDirection (s : State) : Option Target := s.ztc.running.map Move.target

/-- COMP, the compressor relay (R177). -/
def State.comp (s : State) : Bool := s.drives && s.rfc.state.compressorOn

/-- CFAN, the condenser fan (R177). -/
def State.cfan (s : State) : Bool := s.drives && s.rfc.state.compressorOn

/-- HEAT, the defrost heater (R177, R185). -/
def State.heat (s : State) : Bool := s.drives && s.rfc.heaterOn

/-- EFAN, the evaporator fan (R177). -/
def State.efan (s : State) : Bool := s.drives && !s.rfc.heaterOn

/-- The receive slot's state as R192 names it, in its order: IDLE, RECEIVING, ANSWERING. -/
def Slot.stage : Slot → Nat
  | .idle => 0
  | .receiving _ => 1
  | .discarding => 1
  | .answering _ _ => 2
  | .waitingSave _ => 2

/-- The response frame being sent, if any (R195). -/
def State.responseFrame (s : State) : Option (List Byte) :=
  match s.hli.slot with
  | .answering r _ => some r.frame
  | _ => none

/-- The characters being sent on the Cash Bus with their mode bits: a master frame, or the confirmation
0x00 (R112, R114, R116). -/
def State.busFrame (s : State) : List (Byte × Bool) :=
  match s.cbm.bus with
  | .sending p m _ => masterFrameModes p m
  | .confirming _ => [(0, false)]
  | _ => []

/-! ### Characters (R112, R191) -/

/-- The eight data bits of a byte, least significant first (R112, R191). -/
def dataBits (b : Byte) : List Bool := (List.range 8).map fun k => b.getLsbD k

/-- A character of the Cash Bus as its eleven bits: start, data, mode, stop (R112). -/
def busCharacter (c : Byte × Bool) : List Bool := false :: (dataBits c.1 ++ [c.2, true])

/-- A character of the Host Link as its ten bits: start, data, stop, with no parity (R191). -/
def linkCharacter (b : Byte) : List Bool := false :: (dataBits b ++ [true])

/-- The bits the part sends on the Cash Bus, its characters back to back (R112, R113). -/
def State.busBits (s : State) : List Bool := (s.busFrame.map busCharacter).flatten

/-- The bits of the response on the Host Link (R191, R195). -/
def State.linkBits (s : State) : List Bool := ((s.responseFrame.getD []).map linkCharacter).flatten

/-- The byte of eight data bits, least significant first. -/
def byteOfBits (bits : List Bool) : Byte :=
  BitVec.ofNat 8 (bits.foldr (fun b n => 2 * n + b.toNat) 0)

/-- The byte of a Cash Bus character received while a reply is awaited; none for a framing error, whose
stop bit reads 0, and for a character out of place, whose mode bit is 1: either makes the reply bad
(R112). -/
def busCharacterByte (bits : List Bool) : Option Byte :=
  match bits with
  | false :: rest => if rest.drop 8 = [false, true] then some (byteOfBits (rest.take 8)) else none
  | _ => none

/-- The defrost allowance applies: in DEFROST, in DRIP and in the recovery window (R186). -/
def Rfc.allowance (x : Rfc) : Bool :=
  x.state == .defrost || x.state == .drip || x.recovery.isSome

/-- The link rate in use, in baud (R191). -/
def State.baud (s : State) : Nat :=
  match s.hli.rate.toNat with
  | 0 => 9600
  | 1 => 19200
  | 2 => 57600
  | _ => 115200

end Sys2Proof.Machine
end

