-- ==== Sys2Proof/Machine/Refrigeration.lean ====
section
/-! DEFINITION. RFC: the compressor's starts and stops, defrosts, drip and recovery, as operations on
the state. -/

namespace Sys2Proof.Machine

/-- The evaporator is below the cutout; a temperature of none is not (R179). -/
def State.belowCutout (s : State) : Bool :=
  match s.rfc.evap with
  | some t => decide (t < s.settings.cutout)
  | none => false

/-- The conditions under which the compressor is asked for (R179). -/
def State.startWanted (s : State) : Bool := s.rfc.demand && !s.belowCutout

def State.setRfc (s : State) (x : RfcState) : State := { s with rfc := { s.rfc with state := x } }

/-- Entry into WAIT_POWER with its request (R180). -/
def State.enterWaitPower (s : State) : State :=
  (s.setRfc .waitPower).request .compressor s.settings.startWeight

/-- In READY, WAIT_POWER is entered when its conditions hold (R179). -/
def State.readyCheck (s : State) : State :=
  if s.rfc.state = .ready ∧ s.startWanted then s.enterWaitPower else s

/-- Entry into READY (R179, R186). -/
def State.enterReady (s : State) : State := (s.setRfc .ready).readyCheck

/-- WAIT_POWER's request withdrawn, and a state entered (R180). -/
def State.leaveWaitPower (s : State) (x : RfcState) : State := (s.setRfc x).release .compressor

/-- The compressor stops: relay and condenser fan off, COMPRESSOR released, off time from 0, LOCKOUT
(R181). -/
def State.stopCompressor (s : State) : State :=
  ({ s with rfc := { s.rfc with state := .lockout, offTime := 0, startWindow := none } }).release
    .compressor

/-- Entry into DEFROST (R184). -/
def State.enterDefrost (s : State) : State :=
  let s := { s with
    rfc := { s.rfc with
      state := .defrost
      accumulator := 0
      defrostPending := false
      wallTime := 0
      heaterTime := 0
      recovery := none
      heaterOn := false }
    ztc := { s.ztc with allowance := true } }
  s.request .defrost s.settings.defrostWeight

/-- A defrost becomes due (R183). -/
def State.defrostDue (s : State) : State :=
  match s.rfc.state with
  | .starting => s.stopCompressor.enterDefrost
  | .running => s.stopCompressor.enterDefrost
  | .ready => s.enterDefrost
  | .waitPower => (s.leaveWaitPower .lockout).enterDefrost
  | .lockout => { s with rfc := { s.rfc with defrostPending := true } }
  | .defrost => s
  | .drip => s

/-- The off time has reached the min-off time in LOCKOUT (R179). -/
def State.lockoutEnds (s : State) : State :=
  if s.rfc.defrostPending then s.enterDefrost
  else if s.startWanted then s.enterWaitPower
  else s.setRfc .ready

/-- The drip time has run out: the recovery window starts, and LOCKOUT or READY is entered (R186). -/
def State.dripEnds (s : State) : State :=
  let s := { s with rfc := { s.rfc with recovery := some recoveryMs } }
  if s.rfc.offTime < s.settings.minOffMs then s.setRfc .lockout else s.enterReady

/-- The defrost ends into DRIP (R185, R186). -/
def State.endDefrost (s : State) : State :=
  let s := { s with rfc := { s.rfc with state := .drip, heaterOn := false, dripTime := 0 } }
  let s := s.release .defrost
  if s.settings.dripTime = 0 then s.dripEnds else s

/-- The run time has reached the min run time and the demand is not raised (R181). -/
def State.minRunStops (s : State) : Bool :=
  s.rfc.state == .running && !s.rfc.demand && decide (s.settings.minRunMs ≤ s.rfc.runTime)

/-- ZTC hands a changed cooling demand (R168, R179, R180, R181, R185). -/
def State.takeDemand (s : State) (raised : Bool) : State :=
  let s := { s with rfc := { s.rfc with demand := raised } }
  match s.rfc.state with
  | .ready => s.readyCheck
  | .waitPower => if raised then s else s.leaveWaitPower .ready
  | .running => if s.minRunStops then s.stopCompressor else s
  | _ => s

/-- RFC takes the evaporator channel's result (R189): a value, or none for SENSOR_FAULT. A value at or above
the termination temperature ends a defrost whose DEFROST load has not been granted yet too, a DESIGN CHOICE,
unsafe (R185; notes/assumptions/39.md). -/
def State.takeEvap (s : State) (v : Option Int) : State :=
  let s := { s with rfc := { s.rfc with evap := v } }
  match s.rfc.state with
  | .ready => s.readyCheck
  | .waitPower => if s.belowCutout then s.leaveWaitPower .ready else s
  | .starting => if s.belowCutout then s.stopCompressor else s
  | .running => if s.belowCutout then s.stopCompressor else s
  | .defrost =>
    match v with
    | some t => if s.settings.termination ≤ t then s.endDefrost else s
    | none => s
  | _ => s

/-- What a write of a setting of RFC does in its event (R178, R179, R183). The cutout and the
termination temperature are compared with the next value (notes/assumptions/22.md). -/
def State.rfcSettingWritten (s : State) (num : Nat) : State :=
  match num with
  | 0x40 =>
    match s.rfc.state with
    | .lockout => if s.settings.minOffMs ≤ s.rfc.offTime then s.lockoutEnds else s
    | .ready => if s.rfc.offTime < s.settings.minOffMs then s.setRfc .lockout else s
    | .waitPower =>
      if s.rfc.offTime < s.settings.minOffMs then s.leaveWaitPower .lockout else s
    | _ => s
  | 0x41 => if s.minRunStops then s.stopCompressor else s
  | 0x42 =>
    if s.rfc.state = .running ∧ s.settings.maxRunMs ≤ s.rfc.runTime then s.defrostDue else s
  | 0x44 => if s.settings.intervalMs ≤ s.rfc.accumulator then s.defrostDue else s
  | 0x46 =>
    if s.rfc.state = .defrost ∧ s.settings.heaterLimitMs ≤ s.rfc.heaterTime then s.endDefrost
    else s
  | 0x47 =>
    if s.rfc.state = .drip ∧ s.settings.dripMs ≤ s.rfc.dripTime then s.dripEnds else s
  | _ => s

end Sys2Proof.Machine
end

