-- ==== Sys2Proof/Machine/Zones.lean ====
section
/-! DEFINITION. ZTC: damper targets, the move queue and its DAMPER request, the cooling demand, exposure
and holds, as operations on the state. -/

namespace Sys2Proof.Machine

/-- The chilled zones in order. -/
def allZones : List ZoneNo := [.z1, .z2, .z3]

def State.setQueue (s : State) (q : List (ZoneNo × Target)) : State :=
  { s with ztc := { s.ztc with queue := q } }

/-! ### Cooling demand (R168) -/

/-- A zone wants cold: CHILLED, with its target or its damper OPEN (R168). One whose damper is MOVING to CLOSED
does not, so its demand drops as that move starts. DESIGN CHOICE, unsafe (notes/assumptions/43.md). -/
def Zone.wantsCold (z : Zone) : Bool :=
  z.cfg.mode == .chilled && (z.target == .opened || z.damper == .opened)

/-- The cooling demand as it stands. -/
def Ztc.wanted (z : Ztc) : Bool := z.z1.wantsCold || z.z2.wantsCold || z.z3.wantsCold

/-- The demand computed, and handed to RFC when it differs from the one last handed (R168). -/
def State.updateDemand (s : State) : State :=
  let d := s.ztc.wanted
  if d = s.ztc.demand then s
  else ({ s with ztc := { s.ztc with demand := d } }).takeDemand d

/-! ### The move queue (R166, R167) -/

/-- A damper position is the target. -/
def Target.isAt (t : Target) : Damper → Bool
  | .closed => t == .closed
  | .opened => t == .opened
  | _ => false

/-- The target equals the position the zone's damper will hold without a queued entry (R166). -/
def State.targetReached (s : State) (z : ZoneNo) (t : Target) : Bool :=
  match s.ztc.running with
  | some m => if m.zone = z then m.target == t else t.isAt (s.zone z).damper
  | none => t.isAt (s.zone z).damper

/-- The queue after a target of a zone is computed or set (R166). -/
def queueAfter (z : ZoneNo) (t : Target) (reached : Bool) (q : List (ZoneNo × Target)) :
    List (ZoneNo × Target) :=
  if q.any fun e => e.1 == z then
    if reached then q.filter fun e => e.1 != z
    else q.map fun e => if e.1 = z then (z, t) else e
  else if reached then q
  else q ++ [(z, t)]

/-- ZTC asks for DAMPER when the queue is not empty, no move runs and no request or grant is held
(R167). -/
def State.askDamper (s : State) : State :=
  if s.ztc.queue ≠ [] ∧ s.ztc.running = none ∧ s.load .damper = .none then
    s.request .damper s.settings.damperWeight
  else s

/-- The request is withdrawn when the queue is empty while no move runs (R166). -/
def State.withdrawDamper (s : State) : State :=
  if s.ztc.queue = [] ∧ s.ztc.running = none then s.release .damper else s

/-- The queueing check of a zone's target, the DAMPER request and the demand (R166, R167, R168). -/
def State.queueCheck (s : State) (z : ZoneNo) : State :=
  let t := (s.zone z).target
  let s := s.setQueue (queueAfter z t (s.targetReached z t) s.ztc.queue)
  s.withdrawDamper.askDamper.updateDemand

/-- A zone's damper target set, with what follows in the event (R166). -/
def State.setTarget (s : State) (z : ZoneNo) (t : Target) : State :=
  (s.setZone z { s.zone z with target := t }).queueCheck z

/-- The damper target of a CHILLED zone with a valid temperature (R165). -/
def targetFor (c : ZoneSettings) (t : Int) (present : Target) : Target :=
  if c.setpoint + c.differential ≤ t then .opened
  else if t ≤ c.setpoint then .closed
  else present

/-- The damper target computed from a temperature (R165). -/
def State.controlZone (s : State) (z : ZoneNo) (t : Int) : State :=
  s.setTarget z (targetFor (s.zone z).cfg t (s.zone z).target)

/-! ### Holds (R170) -/

/-- A zone is put in hold with a cause; a zone already held stays so (R170). -/
def State.holdZone (s : State) (z : ZoneNo) (c : HoldCause) : State :=
  match (s.zone z).hold with
  | some _ => s
  | none => (s.setZone z { s.zone z with hold := some c }).raise (.zone z (some c))

/-- A pending restore check taken at a temperature value (R171). -/
def State.restoreCheck (s : State) (z : ZoneNo) (t : Int) : State :=
  if (s.zone z).restorePending then
    let s := s.setZone z { s.zone z with restorePending := false }
    if (s.zone z).cfg.safetyLimit < t then s.holdZone z .restore else s
  else s

/-- A chilled zone's channel hands its result (R164). -/
def State.takeTemperature (s : State) (z : ZoneNo) (h : Handed) : State :=
  match h with
  | .value t =>
    let s := s.setZone z { s.zone z with temp := .value t }
    if (s.zone z).cfg.mode = .chilled then (s.restoreCheck z t).controlZone z t else s
  | .fault =>
    let s := s.setZone z { s.zone z with temp := .sensorFault }
    if (s.zone z).cfg.mode = .chilled then (s.holdZone z .sensor).setTarget z .opened else s

/-- The effective limit at a minute mark (R169). -/
def effectiveLimit (c : ZoneSettings) (allowance : Bool) : Int :=
  if allowance then c.safetyLimit + c.allowance else c.safetyLimit

/-- The exposure after a minute mark at temperature `t` (R169). -/
def exposureAfter (exposure : Nat) (t limit : Int) : Nat :=
  if limit < t then min 65535 (exposure + (t - limit).toNat) else exposure

/-- A chilled zone's minute mark (R169). -/
def State.markZone (s : State) (z : ZoneNo) : State :=
  let r := s.zone z
  match r.cfg.mode, r.temp with
  | .chilled, .value t =>
    let e := exposureAfter r.exposure t (effectiveLimit r.cfg s.ztc.allowance)
    let s := s.setZone z { r with exposure := e }
    if r.cfg.holdThreshold ≤ e then s.holdZone z .exposure else s
  | _, _ => s

/-! ### ZONE.SET (R162, R163) -/

/-- The settings a request writes, each clamped to its range (R161, R162). -/
def zoneSettingsOf (m : ZoneMode) (q : ZoneReq) : ZoneSettings where
  mode := m
  setpoint := clampInt (-20) 120 q.setpoint.toInt
  differential := clampInt 5 50 q.differential.toInt
  safetyLimit := clampInt 30 150 q.safetyLimit.toInt
  holdThreshold := (clampInt 1 65535 q.holdThreshold.toNat).toNat
  allowance := clampInt 0 50 q.allowance.toInt

/-- Some value of the request lies outside its range (R162). -/
def zoneClamped (q : ZoneReq) : Bool :=
  !(inRange (-20) 120 q.setpoint.toInt && inRange 5 50 q.differential.toInt &&
    inRange 30 150 q.safetyLimit.toInt && inRange 1 65535 q.holdThreshold.toNat &&
    inRange 0 50 q.allowance.toInt)

/-- A zone turned from OFF to CHILLED (R163). -/
def State.zoneToChilled (s : State) (z : ZoneNo) : State :=
  let s := s.setZone z { s.zone z with restorePending := false }
  match (s.zone z).temp with
  | .sensorFault => (s.holdZone z .sensor).setTarget z .opened
  | .value t => s.controlZone z t
  | .notYet => s.queueCheck z

/-- A zone turned from CHILLED to OFF (R163, R171). -/
def State.zoneToOff (s : State) (z : ZoneNo) : State :=
  (s.setZone z { s.zone z with exposure := 0, restorePending := false }).setTarget z .closed

/-- A zone that stays CHILLED acts on a written setpoint or differential (R162, R165). -/
def State.zoneRetarget (s : State) (z : ZoneNo) (before : ZoneSettings) : State :=
  match (s.zone z).temp with
  | .value t =>
    if before.setpoint = (s.zone z).cfg.setpoint ∧ before.differential = (s.zone z).cfg.differential
    then s
    else s.controlZone z t
  | _ => s

/-- A threshold at or below the exposure holds a CHILLED zone (R162, R170). -/
def State.thresholdCheck (s : State) (z : ZoneNo) : State :=
  if (s.zone z).cfg.mode = .chilled ∧ (s.zone z).cfg.holdThreshold ≤ (s.zone z).exposure then
    s.holdZone z .exposure
  else s

/-- The six fields are written and the zone acts on them (R162). -/
def State.writeZone (s : State) (z : ZoneNo) (c : ZoneSettings) : State :=
  let before := (s.zone z).cfg
  let s := s.setZone z { s.zone z with cfg := c }
  let s :=
    match before.mode, c.mode with
    | .off, .chilled => s.zoneToChilled z
    | .chilled, .off => s.zoneToOff z
    | .chilled, .chilled => s.zoneRetarget z before
    | .off, .off => s
  s.thresholdCheck z

/-! ### The power-fail warning (R174) -/

/-- A running move stops, its damper UNKNOWN, the grant released, and its zone's target compared again
(R174). A grant made and not yet taken is given back too, so that the sum held reaches 0 (R145), and asked
for anew. DESIGN CHOICE, unsafe (notes/assumptions/32.md). -/
def State.stopMove (s : State) : State :=
  match s.ztc.running with
  | none => if (s.load .damper).isGranted then (s.release .damper).askDamper else s
  | some m =>
    let s := s.setZone m.zone { s.zone m.zone with damper := .unknown }
    let s := { s with ztc := { s.ztc with running := none } }
    (s.release .damper).queueCheck m.zone

end Sys2Proof.Machine
end

