-- ==== Sys2Proof/Machine/Measurement.lean ====
section
/-! DEFINITION. MSC: the reference check, the filing of a pass, and the results handed to their owners
(R148 to R158); and what the owners do with them. -/

namespace Sys2Proof.Machine

/-- The VREF code lies in 1950-2146 (R149). -/
def refInRange (code : AdcCode) : Bool := inRange 1950 2146 code.toNat

/-- A channel VALID with a ring (R153). -/
def Channel.valid (c : Channel) (r : Ring) : Channel :=
  { c with
    state := .valid, ring := some r, value := some r.average, fault := none, goodCount := 0 }

/-- The ring after a good sample, an empty ring filled (R153). -/
def pushRing (r : Option Ring) (t : Int) : Ring :=
  match r with
  | some r => r.push t
  | none => Ring.fill t

/-- A good sample filed (R153). -/
def Channel.fileGood (c : Channel) (t : Int) : Channel :=
  match c.state with
  | .notMeasured => c.valid (Ring.fill t)
  | .valid => c.valid (pushRing c.ring t)
  | .sensorFault =>
    if c.goodCount = 0 then { c with ring := some (Ring.fill t), goodCount := 1 }
    else if c.goodCount < 3 then
      { c with ring := some (pushRing c.ring t), goodCount := c.goodCount + 1 }
    else c.valid (pushRing c.ring t)

/-- A fault sample filed (R154). -/
def Channel.fileFault (c : Channel) (k : SensorFault) : Channel :=
  { c with state := .sensorFault, fault := some k, goodCount := 0, value := none }

/-- A code of a used pass filed (R151 to R154). -/
def Channel.file (c : Channel) (code : AdcCode) : Channel :=
  let c := { c with lastCode := some code }
  match sampleOf code with
  | .good t => c.fileGood t
  | .fault k => c.fileFault k

/-- A channel at the 120th consecutive failed pass (R150). -/
def Channel.refLost (c : Channel) : Channel :=
  if c.state = .sensorFault then { c with goodCount := 0 } else c.fileFault .reference

/-- What a channel hands its owner (R155): nothing in NOT_MEASURED. -/
def Channel.hands (c : Channel) : Option Handed :=
  match c.state with
  | .notMeasured => none
  | .valid => c.value.map Handed.value
  | .sensorFault => some .fault

/-- One value for each channel, from a function of the channel. -/
def Five.map {α β : Type} (f : α → β) (x : Five α) : Five β :=
  ⟨f x.th1, f x.th2, f x.th3, f x.thEvap, f x.thAmb⟩

/-- Every channel's code filed (R148). -/
def fileAll (cs : Five Channel) (p : SlowCodes) : Five Channel :=
  ⟨cs.th1.file p.th1, cs.th2.file p.th2, cs.th3.file p.th3, cs.thEvap.file p.thEvap,
    cs.thAmb.file p.thAmb⟩

/-- Every channel's result handed (R155). -/
def handAll (cs : Five Channel) (before : Five (Option Handed)) : Five (Option Handed) :=
  ⟨cs.th1.hands <|> before.th1, cs.th2.hands <|> before.th2, cs.th3.hands <|> before.th3,
    cs.thEvap.hands <|> before.thEvap, cs.thAmb.hands <|> before.thAmb⟩

def State.setMsc (s : State) (x : Msc) : State := { s with msc := x }

/-- The notice of a change of the evaporator channel (R155). -/
def State.evapNotice (s : State) (before after : Channel) : State :=
  if after.state = .sensorFault ∧ before.state ≠ .sensorFault then
    s.raise (.refrig .evapFault after.fault)
  else if after.state = .valid ∧ before.state = .sensorFault then
    s.raise (.refrig .evapClear none)
  else s

/-- The channels and what they hand, with the evaporator channel's notice. -/
def State.setChannels (s : State) (cs : Five Channel) : State :=
  let before := s.msc.channels.thEvap
  (s.setMsc { s.msc with channels := cs, handed := handAll cs s.msc.handed }).evapNotice before
    cs.thEvap

/-- A discarded pass (R149, R150). -/
def State.passFails (s : State) : State :=
  let n := s.msc.failCount
  let s' := s.setMsc { s.msc with refFault := true, failCount := min 120 (n + 1) }
  let s' := if s.msc.refFault then s' else s'.raise (.refrig .measFault none)
  if n = 119 then s'.setChannels (s'.msc.channels.map Channel.refLost) else s'

/-- A used pass, with the codes of the pass buffer (R148, R149, R158). -/
def State.passUsed (s : State) (p : SlowCodes) : State :=
  let s' := s.setMsc { s.msc with refFault := false, failCount := 0 }
  let s' := if s.msc.refFault then s'.raise (.refrig .measClear none) else s'
  let mv := vdriveOf p.vdrive
  (s'.setMsc { s'.msc with vdrive := some mv, handedVdrive := some mv }).setChannels
    (fileAll s'.msc.channels p)

/-- The reference check judges the pass in the buffer: it is used, or discarded (R148, R149). -/
def State.judgePass (s : State) : State :=
  match s.msc.buffer with
  | some b => if refInRange s.msc.vrefCode then s.passUsed b else s.passFails
  | none => s

/-- The pass ends with the conversion of VREF: the six codes that the buffer then holds are used or
discarded, the buffer is emptied, and the next pass begins (R148). The table has no row for a single
conversion, so the codes enter the buffer in this event (notes/assumptions/13.md). -/
def State.endPass (s : State) (p : PassCodes) : State :=
  let s := s.setMsc { s.msc with
    buffer := some p.toSlowCodes, vrefCode := p.vref, passLeft := passMs }
  let s := s.judgePass
  s.setMsc { s.msc with buffer := none }

/-! ### The owners (notes/assumptions/23.md) -/

/-- What a channel handed, for the zone with a number; zone 0 is TH_AMB's (R155). -/
def Five.ofZone {α : Type} (x : Five α) : Fin 4 → α
  | 0 => x.thAmb
  | 1 => x.th1
  | 2 => x.th2
  | 3 => x.th3

/-- The results without the one a zone has taken. -/
def takenByZone (x : Five (Option Handed)) : Fin 4 → Five (Option Handed)
  | 0 => { x with thAmb := none }
  | 1 => { x with th1 := none }
  | 2 => { x with th2 := none }
  | 3 => { x with th3 := none }

/-- Zone 0 records what it is handed (R164). -/
def State.takeAmbient (s : State) (h : Handed) : State :=
  { s with ztc := { s.ztc with ambient :=
    match h with
    | .value t => .value t
    | .fault => .sensorFault } }

/-- A zone takes the result handed to it (R164). -/
def State.zoneTakes (s : State) (z : Fin 4) : State :=
  match s.msc.handed.ofZone z with
  | none => s
  | some h =>
    let s := s.setMsc { s.msc with handed := takenByZone s.msc.handed z }
    match zoneNoOf z.val with
    | some n => s.takeTemperature n h
    | none => s.takeAmbient h

/-- RFC takes the evaporator's result (R189). -/
def State.evapTakes (s : State) : State :=
  match s.msc.handed.thEvap with
  | none => s
  | some h =>
    let s := s.setMsc { s.msc with handed := { s.msc.handed with thEvap := none } }
    match h with
    | .value t => s.takeEvap (some t)
    | .fault => s.takeEvap none

/-- The band set, with the grant pass that follows a change (R134). -/
def State.setBandAndPass (s : State) (b : Band) : State :=
  if b = s.lba.band then s else (s.setBand b).grantPass

/-- LBA takes the drive supply's value (R134, R135). -/
def State.vdriveTakes (s : State) : State :=
  match s.msc.handedVdrive with
  | none => s
  | some mv =>
    let s := s.setMsc { s.msc with handedVdrive := none }
    let s := { s with lba := { s.lba with vdrive := some mv } }
    if s.lba.pfw then s else s.setBandAndPass (bandAfter s.lba.band mv)

end Sys2Proof.Machine
end

