-- ==== Sys2Proof/Machine/Report.lean ====
section
/-! DEFINITION. The bodies of the responses: each read request's report of its block, in the order its
rule lists the fields, encoded by R195 (notes/assumptions/10.md). -/

namespace Sys2Proof.Machine

/-! ### SELT (R14 to R23) -/

/-- A position's stock and status (R19). -/
def stockFields (p : Position) : List Field := [.byte p.stock, .flag p.fault.isSome]

/-- A position as SEL.FIND gives it (R14). -/
def Position.fields (p : Position) : List Field :=
  p.unit.fields ++ [.byte p.capacity, .byte p.stock, .byte p.turns, .flag p.fault.isSome] ++
    optField (p.fault.map fun c => [.byte c.ctorIdx])

/-- A record as SEL.FIND returns it, and SEL.DEFINE after a write (R14, R18). -/
def State.selFields (s : State) (r : Selection) : List Field :=
  [.half r.code, .byte r.admin.ctorIdx, .byte (s.saleState r).ctorIdx, .byte r.zone, .money r.priceA,
    .money r.priceB, setField s.selt.active, .byte r.draw.ctorIdx, .byte r.cursor,
    .byte r.positions.length] ++ (r.positions.map Position.fields).flatten

/-- The body of SEL.FIND: the record by R14, then the table size. R1 has SEL.FIND report the size and R14's
list has no place for it; its place behind the record is a DESIGN CHOICE, unsafe
(notes/assumptions/33.md). -/
def State.findFields (s : State) (r : Selection) : List Field :=
  s.selFields r ++ [.byte s.selt.table.length]

/-- The derived sale state as a field (R21, R34). -/
def State.saleField (s : State) (r : Selection) : Field := .byte (s.saleState r).ctorIdx

/-- The codes SEL.NEXT returns (R15). -/
def State.codesAfter (s : State) (after : Nat) : List Nat :=
  ((s.selt.table.map Selection.code).filter fun c => decide (after < c)).take 8

/-- The body of SEL.NEXT (R15). -/
def State.nextFields (s : State) (after : Nat) : List Field :=
  let cs := s.codesAfter after
  [.byte s.selt.table.length, setField s.selt.active, .byte cs.length] ++
    cs.map fun c => .half (c : Nat)

/-- The body of PRICE.SET (R11). -/
def State.priceFields (s : State) (r : Selection) : List Field :=
  [.money r.priceA, .money r.priceB, setField s.selt.active]

/-! ### SESC (R28) -/

/-- The available amount (R26). -/
def Session.available (x : Session) : Nat :=
  if x.phase = .idle then 0
  else
    match x.kind with
    | .cash => x.credit.toNat + x.escrowValue
    | .cashless => x.authorized.getD 0

/-- The pending vend as SESSION.READ gives it. -/
def PendingVend.fields (v : PendingVend) : List Field :=
  [.half v.code, .byte v.index] ++ v.unit.fields ++
    [.byte v.turns, .money v.price, .flag v.failoverUsed]

/-- The body of SESSION.READ (R28). -/
def Session.fields (x : Session) : List Field :=
  [.byte x.phase.ctorIdx, .byte x.kind.ctorIdx, .money x.credit.toNat] ++
    optField (x.escrow.map fun e => [.byte e.cls, .money e.value]) ++
    optField (x.authorized.map fun a => [.money a]) ++
    [setField x.sessionSet, .money x.available] ++
    optField (x.pendingVend.map PendingVend.fields) ++
    [.time (secondsUp (x.inactivity.getD 0))]

/-! ### SDC (R55) -/

/-- An origin (R50). -/
def Origin.fields : Origin → List Field
  | .vend c i => [.half c, .byte i]
  | .test r c => motorField r c

/-- An entry as DRIVE.READ gives it (R55). The delivered mark, which R50 has present only while RUNNING, and
the two fields the body adds for the RUNNING entry, its revolutions and whether the motor is energized, are
optional fields, absent for a PENDING entry (R195). The two added fields stand in their entry, ahead of the
next one, the model's choice (notes/assumptions/10.md). -/
def DriveEntry.fields (e : DriveEntry) (energized : Bool) : List Field :=
  [.byte e.origin.ctorIdx] ++ e.unit.fields ++ [.byte e.turns, .byte e.allowance] ++
    e.origin.fields ++ [.flag e.running] ++ fieldWhen e.running [.flag e.delivered] ++
    fieldWhen e.running [.byte e.revolutions] ++ fieldWhen e.running [.flag energized]

/-- The body of DRIVE.READ (R55). -/
def Sdc.fields (x : Sdc) : List Field :=
  [.byte x.seq.ctorIdx, .byte x.curtain.ctorIdx, .byte x.list.length] ++
    (x.list.map fun e => e.fields x.energized.isSome).flatten

/-! ### CHU (R78, R83, R89, R110) -/

/-- A tube record (R73). -/
def Tube.fields (t : Tube) : List Field :=
  optField (t.assign.map fun a => [.money a.denom]) ++
    optField (t.assign.map fun a => [.byte a.capacity]) ++
    optField (t.assign.map fun a => [.byte a.lowMark]) ++
    [.byte t.count, .byte t.state.ctorIdx, .byte t.full.ctorIdx, .byte t.low.ctorIdx]

/-- The coin classes mapped to a tube (R78), which no rule orders; the model lists them ascending, its choice
(notes/assumptions/10.md). -/
def classesOfTube (coins : List CoinClass) (i : Nat) : List Nat :=
  (List.range coins.length).filter fun k =>
    match coins[k]? with
    | some c => c.tube == some i
    | none => false

/-- The tubes of the list from number `i` on, as TUBE.READ gives them (R78). -/
def tubesFields (coins : List CoinClass) : Nat → List Tube → List Field
  | _, [] => []
  | i, t :: rest =>
    t.fields ++ listField ((classesOfTube coins i).map fun k => [Field.byte k]) ++
      tubesFields coins (i + 1) rest

/-- A coin class with its route in the present map, TUBE 0 and CASHBOX 1 (R83, R84). -/
def coinFields (tubes : List Tube) (c : CoinClass) : List Field :=
  [.money c.value, .flag c.enabled] ++ optField (c.tube.map fun i => [.byte i]) ++
    [.byte (if classToTube tubes c then 0 else 1)]

/-- A bill class (R83). -/
def BillClass.fields (b : BillClass) : List Field := [.money b.value, .flag b.enabled]

/-- A mask last handed, as a set of class numbers, or none (R83). No rule orders the set; the model lists the
class numbers ascending, its choice (notes/assumptions/10.md). -/
def maskFields (m : Option (BitVec 16)) : List Field :=
  optField (m.map fun m => listField ((classesOf m).map fun k => [Field.byte k]))

/-- The body of CLASS.READ (R83). -/
def Chu.classFields (x : Chu) : List Field :=
  (x.coins.map (coinFields x.tubes)).flatten ++ (x.bills.map BillClass.fields).flatten ++
    maskFields x.lastCoinMask ++ maskFields x.lastBillMask

/-- The seven totals in the order of R88. -/
def Totals.fields (t : Totals) : List Field :=
  [.money t.coinsIn.toNat, .money t.billsIn.toNat, .money t.cashSales.toNat,
    .money t.changePaid.toNat, .money t.cashlessSales.toNat, .money t.overpaid.toNat,
    .money t.servicePaid.toNat]

/-- The four probe amounts (R95). -/
def Probes.fields (p : Probes) : List Field := [.money p.p1, .money p.p2, .money p.p3, .money p.p4]

/-- The exit window: closed, or open with its tube and time left (R97), as an optional field. No rule gives
the time's unit; the model sends milliseconds, its choice (notes/assumptions/10.md). -/
def windowFields (w : Option ExitWindow) : List Field :=
  optField (w.map fun w => [.byte w.tube, .time w.left])

/-- The fields PAYOUT.READ gives of a running payout, each an optional field, absent with the executor IDLE
(R110, R195). The excluded tubes are a set to R97, and no rule orders them here; the model lists them in the
order in which they jammed, its choice (notes/assumptions/10.md). The limit at start takes one byte, as a
count, and not the four of a setting value, the model's choice (notes/assumptions/10.md). -/
def Payout.runningFields (p : Payout) : List Field :=
  let given := fieldWhen (p.state ≠ .idle)
  given [.byte p.kind.ctorIdx] ++ given [.money p.amount] ++ given [.money p.paid] ++
    given [.money p.overpaid] ++ given [.byte p.confirmed] ++ given [.byte p.limit] ++
    given (listField (p.excluded.map fun i => [Field.byte i])) ++ given [.byte p.pulseNumber] ++
    windowFields (if p.state = .idle then none else p.window)

/-- A plan entry (R110). -/
def PlanEntry.fields (e : PlanEntry) : List Field :=
  [.byte e.tube, .money e.denom, .byte e.remaining]

/-- The body of PAYOUT.READ (R110). -/
def State.payoutFields (s : State) : List Field :=
  let p := s.chu.payout
  [.byte p.state.ctorIdx] ++ p.runningFields ++
    listField (p.plan.map PlanEntry.fields) ++ optField (p.lastPulsed.map fun i => [.byte i]) ++
    [.flag s.chu.exactChange] ++ s.chu.probes.fields ++ [.full s.settings.coinLimit]

/-! ### CBM (R130) -/

/-- The message codes of the commands pending, in slot order (R122, R130). -/
def PendingSet.codes (q : PendingSet) : List Nat :=
  (if q.reset then [0] else []) ++
    (match q.escrow with
      | some .stack => [5]
      | some .giveBack => [6]
      | none => []) ++
    (if q.setup then [1] else []) ++ (if q.routeMap.isSome then [4] else []) ++
    (if q.acceptMask.isSome then [3] else [])

/-- A stack watch: stopped, or running with its time left (R122), as an optional field. R130 gives a unit for
the probe time alone; the model sends milliseconds, its choice (notes/assumptions/10.md). -/
def watchFields (w : Option Nat) : List Field := optField (w.map fun t => [.time t])

/-- A peripheral as CASHBUS.READ gives it (R130). The probe time is an optional field, absent for an ONLINE
peripheral (R195). The stack watch is a field of the bill validator's record alone, as the settings of a zone
are of zones 1 to 3 alone. The reset expected flag is 1 for set and 0 for clear, the model's choice
(notes/assumptions/10.md). -/
def PeriphRec.fields (p : Peripheral) (r : PeriphRec) : List Field :=
  [.byte r.link.ctorIdx] ++ listField (r.pending.codes.map fun k => [Field.byte k]) ++
    optField (r.outstanding.map fun o => [.byte o.message.code, .byte o.attempt]) ++
    fieldWhen (r.link ≠ .online) [.time r.probeTime] ++ [.flag r.resetExpected] ++
    (if p = .bill then watchFields r.stackWatch else []) ++ [.byte r.lastFault]

/-- The body of CASHBUS.READ (R130). -/
def Cbm.fields (c : Cbm) : List Field := c.coin.fields .coin ++ c.bill.fields .bill

/-! ### LBA (R146) -/

/-- A load record: its state, then the weight asked, the time waited and the promoted flag, which a WAITING
load alone has, and the weight held, which a GRANTED one alone has, each an optional field (R133, R146,
R195). -/
def LoadRec.fields : LoadRec → List Field
  | .none => [.byte 0] ++ absent ++ absent ++ absent ++ absent
  | .waiting w t p =>
    [.byte 1] ++ optField (some [.half w]) ++ optField (some [.time (secondsDown t)]) ++
      optField (some [.flag p]) ++ absent
  | .granted w => [.byte 2] ++ absent ++ absent ++ absent ++ optField (some [.half w])
where
  absent : List Field := optField Option.none

/-- The body of LOAD.READ (R146). A negative remaining budget (R133) takes the two bytes of a load as two's
complement, the model's choice (notes/assumptions/10.md). -/
def State.loadFields (s : State) : List Field :=
  let ls := s.lba.loads
  [.byte s.lba.band.ctorIdx] ++ optField (s.lba.vdrive.map fun v => [.half v]) ++
    [.flag s.lba.pfw, .half s.settings.budget, .half s.budget, .half s.sumHeld,
      .half ((s.budget : Int) - s.sumHeld)] ++
    ls.spiral.fields ++ ls.payout.fields ++ ls.compressor.fields ++ ls.defrost.fields ++
    ls.damper.fields ++ listField ((waitOrder s.settings ls).map fun l => [Field.byte l.ctorIdx])

/-! ### MSC (R159) -/

/-- A channel record (R159); an empty ring is an absent optional field, the model's choice
(notes/assumptions/10.md). -/
def Channel.fields (c : Channel) : List Field :=
  [.byte c.state.ctorIdx] ++ optField (c.value.map fun t => [.half t]) ++
    optField (c.fault.map fun k => [.byte k.ctorIdx]) ++ [.byte c.goodCount] ++
    optField (c.ring.map fun r => [.half r.r0, .half r.r1, .half r.r2, .half r.r3]) ++
    optField (c.lastCode.map fun k => [.half k.toNat])

/-- The body of MEAS.READ (R159). -/
def State.measFields (s : State) : List Field :=
  let m := s.msc
  [.flag m.refFault, .byte m.failCount, .half m.vrefCode.toNat] ++ m.channels.th1.fields ++
    m.channels.th2.fields ++ m.channels.th3.fields ++ m.channels.thEvap.fields ++
    m.channels.thAmb.fields ++ optField (m.vdrive.map fun v => [.half v]) ++
    [.flag s.sdc.energized.isSome] ++ optField (m.lastSample.map fun i => [.half i])

/-! ### ZTC (R173) -/

/-- A chilled zone's record as ZONE.READ gives it (R173). Each of its settings but the mode takes two bytes,
as in ZONE.SET, the model's choice (notes/assumptions/10.md). -/
def Zone.fields (z : Zone) : List Field :=
  [.byte z.cfg.mode.ctorIdx, .half z.cfg.setpoint, .half z.cfg.differential, .half z.cfg.safetyLimit,
    .half z.cfg.holdThreshold, .half z.cfg.allowance] ++ z.temp.fields ++ [.half z.exposure] ++
    holdFields z.hold ++
    [.byte z.damper.ctorIdx, .byte z.target.ctorIdx, .byte (if z.restorePending then 0 else 1)]

/-- The state of the DAMPER load as ZTC holds it: none, requested or granted. A grant not yet taken (R137)
stands as a request to ZTC: it holds the grant from the event that starts the move (R167, R173). -/
def State.damperStage (s : State) : Nat :=
  match s.load .damper with
  | .none => 0
  | .waiting _ _ _ => 1
  | .granted _ => if s.ztc.running.isSome then 2 else 1

/-- A demand: raised 0, not raised 1 (R168, R176). -/
def demandField (raised : Bool) : Field := .byte (if raised then 0 else 1)

/-- The body of ZONE.READ (R173). -/
def State.zoneFields (s : State) : List Field :=
  let z := s.ztc
  [.byte ZoneMode.off.ctorIdx] ++ z.ambient.fields ++ z.z1.fields ++ z.z2.fields ++ z.z3.fields ++
    listField (z.queue.map fun e => [Field.byte e.1.num, Field.byte e.2.ctorIdx]) ++
    optField (z.running.map fun m => [.byte m.zone.num, .byte m.target.ctorIdx, .time m.left]) ++
    [.byte s.damperStage, demandField z.demand, .flag z.allowance,
      .time (secondsUp z.minuteLeft)]

/-! ### RFC (R188) -/

/-- The eight settings of R178, as setting values. -/
def Settings.rfcFields (c : Settings) : List Field :=
  [.full c.minOff, .full c.minRun, .full c.maxRun, .full c.cutout, .full c.defrostInterval,
    .full c.termination, .full c.heaterLimit, .full c.dripTime]

/-- The body of REFRIG.READ (R188). Each field that R188 gives for some states alone is an optional field,
absent in the others (R195). The pending flag and the allowance are 1 for set and applies, 0 for clear and
does not apply, the model's choice (notes/assumptions/10.md). -/
def State.refrigFields (s : State) : List Field :=
  let x := s.rfc
  [.byte x.state.ctorIdx, demandField x.demand] ++ optField (x.evap.map fun t => [.half t]) ++
    [.flag s.comp, .flag s.cfan, .flag s.efan, .flag s.heat, .time (secondsDown x.offTime)] ++
    fieldWhen x.state.compressorOn [.time (secondsDown x.runTime)] ++
    [.time (secondsDown x.accumulator), .flag x.defrostPending] ++
    fieldWhen (x.state = .defrost) [.time (secondsDown x.wallTime)] ++
    fieldWhen (x.state = .defrost) [.time (secondsDown x.heaterTime)] ++
    fieldWhen (x.state = .defrost) [.byte (if (s.load .defrost).isGranted then 0 else 1)] ++
    fieldWhen (x.state = .drip) [.time (secondsUp (s.settings.dripMs - x.dripTime))] ++
    [.time (secondsUp (x.recovery.getD 0)), .flag x.allowance] ++ s.settings.rfcFields

/-! ### HLI (R196, R197, R199) -/

/-- The body of IDENT (R197). -/
def State.identFields (s : State) : List Field :=
  [.half Config.partCode, .byte Config.revision, .byte s.hli.rate.toNat,
    .byte (if s.rst.restored then 0 else 1)]

/-- The body of NOTICES.READ (R199). -/
def Hli.noticeFields (x : Hli) : List Field :=
  .byte x.notices.length ::
    (x.notices.map fun n => [.byte n.1.kindNo, .flag n.2] ++ n.1.payload).flatten

/-- A setting with its number (R196). -/
def settingFields (num : Nat) (v : Int) : List Field := [.byte num, .full v]

end Sys2Proof.Machine
end

