-- ==== Sys2Proof/Machine/Store.lean ====
section
/-! DEFINITION. RST: the snapshot, saves, the restore at power-on, the loss of power; and the power-fail
warning (R49, R90, R175, R190, R201 to R206). -/

namespace Sys2Proof.Machine

def State.setRst (s : State) (x : Rst) : State := { s with rst := x }

/-! ### Saves (R201, R202) -/

/-- What the image keeps of a tube (R90). -/
def Tube.save (t : Tube) : SavedTube := ⟨t.assign, t.count, t.state⟩

/-- What the image keeps of a chilled zone (R175). -/
def Zone.save (z : Zone) : SavedZone := ⟨z.cfg, z.exposure, z.hold⟩

/-- The collapsed phase (R49). -/
def Session.collapsed (x : Session) : Phase :=
  if x.phase = .idle ∨ x.credit = 0 then .idle else .cashCredit

/-- The snapshot of the retained records (R201). -/
def State.snapshot (s : State) : Image where
  table := s.selt.table
  active := s.selt.active
  phase := s.sesc.collapsed
  kind := .cash
  credit := s.sesc.credit
  sessionSet := s.sesc.sessionSet
  tubes := s.chu.tubes.map Tube.save
  coins := s.chu.coins
  bills := s.chu.bills
  totals := s.chu.totals
  probes := s.chu.probes
  z1 := s.ztc.z1.save
  z2 := s.ztc.z2.save
  z3 := s.ztc.z3.save
  accumulator := s.rfc.accumulator
  defrostPending := s.rfc.defrostPending
  settings := s.settings

/-- A save starts: the snapshot is taken and the image marked INVALID; a save under way is abandoned
(R202; notes/assumptions/30.md). -/
def State.startSave (s : State) : State :=
  s.setRst { s.rst with image := none, saving := some s.snapshot }

/-- A STORE.SAVE or RESTART that waits is answered OK (R204, R205). -/
def State.answerSave (s : State) : State :=
  match s.hli.slot with
  | .waitingSave true => s.setSlot (.answering ⟨0x86, .ok, []⟩ true)
  | .waitingSave false => s.setSlot (.answering ⟨0x85, .ok, []⟩ false)
  | _ => s

/-- The writing ends (R202). -/
def State.endSave (s : State) : State :=
  match s.rst.saving with
  | none => s
  | some x =>
    ((s.setRst { s.rst with image := some x, saving := none }).raise (.store .saved)).answerSave

/-! ### Power-on (R206) -/

/-- What an INVALID or absent image leaves the records at: their defaults (R24, R49, R90, R111, R147,
R175, R190). -/
def Image.default : Image where
  table := []
  active := .a
  phase := .idle
  kind := .cash
  credit := 0
  sessionSet := .a
  tubes := List.replicate Config.tubeCount ⟨none, 0, .disabled⟩
  coins := List.replicate Config.classCount CoinClass.unused
  bills := List.replicate Config.classCount BillClass.unused
  totals := Totals.zero
  probes := ⟨0, 0, 0, 0⟩
  z1 := SavedZone.initial
  z2 := SavedZone.initial
  z3 := SavedZone.initial
  accumulator := 0
  defrostPending := false
  settings := Settings.default

/-- A tube as restored: its switches UNKNOWN (R90). -/
def SavedTube.start (t : SavedTube) : Tube := ⟨t.assign, t.count, t.state, .unknown, .unknown⟩

/-- The session restored (R49). With credit 0 it is IDLE and the saved set is kept, a DESIGN CHOICE, unsafe:
R49 says IDLE alone there (notes/assumptions/7.md). -/
def Image.session (x : Image) : Session where
  phase := if x.credit = 0 then .idle else .cashCredit
  kind := .cash
  credit := x.credit
  escrow := none
  authorized := none
  sessionSet := x.sessionSet
  pendingVend := none
  inactivity :=
    if x.credit = 0 ∨ x.settings.inactivityTime = 0 then none else some x.settings.inactivityMs

/-- CHU restored: the exact-change flag computed, with no notice raised (R90, R111). -/
def Image.chu (x : Image) : Chu :=
  let tubes := x.tubes.map SavedTube.start
  { tubes := tubes
    coins := x.coins
    bills := x.bills
    lastMap := none
    lastCoinMask := none
    lastBillMask := none
    totals := x.totals
    probes := x.probes
    exactChange := exactFlag tubes x.probes x.settings.coinLimit
    payout := Payout.initial }

/-- RFC restored; an accumulator at or above the interval is due at once, and in LOCKOUT sets the
pending flag (R183, R190; notes/assumptions/21.md). -/
def Image.rfc (x : Image) : Rfc :=
  Rfc.initial x.accumulator (x.defrostPending || decide (x.settings.intervalMs ≤ x.accumulator))

/-- The part after a power-on with the straps sampled, its records started from the image or from their
defaults (R206); the restore has not ended. The waiting commands stand outside the part. -/
def State.boot (s : State) (straps : BitVec 2) : State :=
  let img := s.rst.image
  let x := img.getD Image.default
  { pending := s.pending
    power := .restoring
    settings := x.settings
    selt := ⟨x.table, x.active⟩
    sesc := x.session
    sdc := Sdc.initial
    chu := x.chu
    cbm := Cbm.initial
    lba := Lba.initial x.settings.damperWeight
    msc := Msc.initial
    ztc := Ztc.initial x.z1 x.z2 x.z3
    rfc := x.rfc
    hli := Hli.initial (if img.isSome then .restored else .lost) straps
    rst := ⟨img, none, img.isSome⟩ }

/-- The restore ends: from now on the link is served (R206). What events taken during the restore have changed
in the notice set, the door state and the save state stands, a DESIGN CHOICE, unsafe
(notes/assumptions/41.md). -/
def State.endRestore (s : State) : State :=
  if s.power = .restoring then { s with power := .running } else s

/-- The supply is lost: only the image lasts (R202; notes/assumptions/4.md). -/
def State.losePower (s : State) : State :=
  { State.reset with
    pending := s.pending
    power := .off
    hli := { State.reset.hli with notices := [] }
    rst := ⟨s.rst.image, none, false⟩ }

/-- The last stop bit of a response: the slot returns to IDLE, and after RESTART's response the part
resets (R192, R205). -/
def State.endResponse (s : State) (straps : BitVec 2) : State :=
  match s.hli.slot with
  | .answering _ true => s.boot straps
  | .answering _ false => s.setSlot .idle
  | _ => s

/-! ### The power-fail warning (R203) -/

/-- The blocks act on the assertion: LBA sets the band to ZERO and revokes, then SDC, the payout executor
and ZTC stop their work (R145, R71, R108, R174; notes/assumptions/16.md). -/
def State.warnBlocks (s : State) : State :=
  let s := { s with lba := { s.lba with pfw := true } }
  (s.setBand .zero).grantPass.stopDrive.stopPayout.stopMove

/-- The warning is asserted: the blocks act, and then a save starts (R203). -/
def State.assertWarning (s : State) : State :=
  if s.lba.pfw then s else (s.warnBlocks.closeEvent s.sesc).startSave

/-- The warning is deasserted: the band is set from the latest VDRIVE value as a rise from ZERO (R135,
R203). -/
def State.deassertWarning (s : State) : State :=
  if s.lba.pfw then
    let s := { s with lba := { s.lba with pfw := false } }
    let s :=
      match s.lba.vdrive with
      | some mv => s.setBand (bandAfter .zero mv)
      | none => s
    s.grantPass
  else s

end Sys2Proof.Machine
end

