-- ==== Sys2Proof/Machine/Events.lean ====
section
/-! DEFINITION. The frame of every command: an event of the powered part, the expiry of a time that runs,
and a host request with its length check and its response (R192, R193, R28). -/

namespace Sys2Proof.Machine

/-- What a command answers. -/
abbrev Result := Host.Outcome State Fault Refusal

/-- An event of the powered part whose own steps close what they open. With the supply off nothing
happens. -/
def State.on (s : State) (f : State → State) : State := if s.power = .off then s else f s

/-- An event of the powered part, closed with the session's notice (R28). -/
def State.event (s : State) (f : State → State) : State :=
  s.on fun s => (f s).closeEvent s.sesc

/-- The expiry of a time with `left` ms to run: they pass, and the expiry acts. A time that does not run
has no expiry (notes/assumptions/2.md, 3.md). -/
def State.expire (s : State) (left : Option Nat) (f : State → State) : State :=
  match left with
  | none => s
  | some d => f (s.elapse d)

/-- The expiry of an elapsed time, while `runs`, at `limit`. -/
def State.reach (s : State) (runs : Bool) (elapsed limit : Nat) (f : State → State) : State :=
  s.expire (if runs then some (limit - elapsed) else none) f

/-- What an owner answers to a request: the state after the event, the status and the body. -/
structure Reply where
  state : State
  status : Status
  body : List Field
  deriving DecidableEq, Repr

/-- A refusal, or an answer that changes nothing. -/
def State.reply (s : State) (st : Status) (body : List Field) : Reply := ⟨s, st, body⟩

/-- A complete host frame with a right check and a known CODE: the length check, then the owner's event
and the response (R193). A frame that finds no slot for it is lost (R192). -/
def State.host (s : State) (code want len : Nat) (f : State → Reply) : State :=
  if s.linkReady then
    if len = want then
      let r := f s
      (r.state.closeEvent s.sesc).answer code r.status r.body
    else s.answer code .badLength []
  else s

/-- A request that is answered when a save ends (R194, R204, R205). -/
def State.hostSave (s : State) (code len : Nat) (isRestart : Bool) : State :=
  if s.linkReady then
    if len = 0 then s.startSave.setSlot (.waitingSave isRestart)
    else s.answer code .badLength []
  else s

end Sys2Proof.Machine
end

