-- ==== Sys2Proof/Machine/ArbiterCmds.lean ====
section
/-! DEFINITION. The request, the value and the promotions of LBA (R134, R141, R146). -/

namespace Sys2Proof.Machine

/-- LOAD.READ (R146). -/
def execLoadRead (len : Nat) (s : State) : Result :=
  .next (s.host 0x50 0 len fun s => s.reply .ok s.loadFields)

/-- The time a load has still to wait for its promotion: none unless it is WAITING, NORMAL and not
promoted (R141). -/
def State.promoteLeft (s : State) (l : Load) : Option Nat :=
  match s.load l with
  | .waiting _ t false =>
    if s.settings.priority l = .normal then some (s.settings.promoteMs - t) else none
  | _ => none

/-- The promoted flag of a waiting load is set, and a grant pass follows (R141). -/
def State.promote (s : State) (l : Load) : State :=
  match s.load l with
  | .waiting w t _ => (s.setLoad l (.waiting w t true)).grantPass
  | _ => s

/-- PROMOTION (R141). -/
def execPromotion (l : Load) (s : State) : Result :=
  .next (s.event fun s => s.expire (s.promoteLeft l) fun s => s.promote l)

/-- VDRIVE_VALUE (R134, R135). -/
def execVdriveValue (s : State) : Result := .next (s.event State.vdriveTakes)

end Sys2Proof.Machine
end

