-- ==== Sys2Proof/Machine/CashBusCmds.lean ====
section
/-! DEFINITION. The requests, slots, replies and timers of CBM (R113 to R130). -/

namespace Sys2Proof.Machine

/-- The peripheral at an address (R122). -/
def peripheralAt (address : Byte) : Option Peripheral :=
  match address.toNat with
  | 3 => some .coin
  | 5 => some .bill
  | _ => none

/-- CASHBUS.RESET's event and answer (R125). -/
def State.busReset (s : State) (address : Byte) : Reply :=
  match peripheralAt address with
  | none => s.reply .range []
  | some p =>
    if (s.periph p).link = .online then ⟨s.editPending p fun q => { q with reset := true }, .ok, []⟩
    else ⟨s.editPeriph p fun r => { r with probeTime := 0 }, .ok, []⟩

/-- CASHBUS.RESET (R125). -/
def execCashbusReset (len : Nat) (address : Byte) (s : State) : Result :=
  .next (s.host 0x48 1 len fun s => s.busReset address)

/-- CASHBUS.READ (R130). -/
def execCashbusRead (len : Nat) (s : State) : Result :=
  .next (s.host 0x49 0 len fun s => s.reply .ok s.cbm.fields)

/-- SERVE_SLOT (R123). -/
def execServeSlot (s : State) : Result :=
  .next (s.on fun s => (s.elapse s.cbm.slotLeft).openSlot)

/-- The master frame is sent, and the reply window opens, no character received (R115). -/
def State.frameSent (s : State) : State :=
  match s.cbm.bus with
  | .sending p m probe => s.setBus (.awaiting p m probe replyWindowMs [])
  | _ => s

/-- MASTER_FRAME_SENT (R115). -/
def execMasterFrameSent (s : State) : Result := .next (s.on State.frameSent)

/-- The time left of an open reply window, in which no reply has begun (R115). -/
def Bus.windowLeft : Bus → Option Nat
  | .awaiting _ _ _ left [] => some left
  | _ => none

/-- REPLY_WINDOW_EXPIRY (R115, R124). -/
def execReplyWindowExpiry (s : State) : Result :=
  .next (s.on fun s => s.expire s.cbm.bus.windowLeft State.replyFails)

/-- REPLY_GAP_EXPIRY: a reply ended at a gap before its declared length (R115, R124). -/
def execReplyGapExpiry (s : State) : Result := .next (s.on State.replyFails)

/-- ACK (R115, R117). -/
def execAck (s : State) : Result := .next (s.on State.replyAck)

/-- NAK (R115, R124). -/
def execNak (s : State) : Result := .next (s.on State.replyFails)

/-- BAD_REPLY (R115, R124). -/
def execBadReply (s : State) : Result := .next (s.on State.replyFails)

/-- SETUP_REPLY (R118). -/
def execSetupReply (chars : List Byte) (s : State) : Result :=
  .next (s.on fun s => s.replySetup chars)

/-- POLL_REPLY (R119). -/
def execPollReply (chars : List Byte) (s : State) : Result :=
  .next (s.on fun s => s.replyPoll chars)

/-- The confirmation is sent and the exchange ends (R113, R116). -/
def State.confirmed (s : State) : State :=
  match s.cbm.bus with
  | .confirming _ => s.endExchange
  | _ => s

/-- CONFIRMATION_SENT (R116). -/
def execConfirmationSent (s : State) : Result := .next (s.on State.confirmed)

/-- PROBE_TIME_EXPIRY: the probe of a peripheral not ONLINE is due (R126). -/
def execProbeTimeExpiry (p : Peripheral) (s : State) : Result :=
  .next (s.on fun s =>
    if (s.periph p).link = .online then s else s.elapse (s.periph p).probeTime)

/-- STACK_WATCH_EXPIRY: the bill validator is taken OFFLINE (R121). -/
def execStackWatchExpiry (s : State) : Result :=
  .next (s.event fun s => s.expire (s.periph .bill).stackWatch fun s => s.goOffline .bill)

end Sys2Proof.Machine
end

