-- ==== Sys2Proof/Machine/CoinCmds.lean ====
section
/-! DEFINITION. The requests and the level switches CHU owns (R74 to R89). -/

namespace Sys2Proof.Machine

/-- The tube with a number as it stands, as an answer's body. -/
def State.tubeBody (s : State) (i : Nat) : List Field :=
  match s.tube i with
  | some t => t.fields
  | none => []

/-- The assigned tube with a number, or RANGE (R75, R76, R99). -/
def State.withTube (s : State) (i : Byte) (f : Tube → TubeAssign → Reply) : Reply :=
  match s.tube i.toNat with
  | some t =>
    match t.assign with
    | some a => f t a
    | none => s.reply .range []
  | none => s.reply .range []

/-! ### TUBE.DEFINE (R74) -/

/-- The assignment a TUBE.DEFINE asks for: none for denomination 0. -/
def assignOf (denom : Half) (capacity lowMark : Byte) : Option TubeAssign :=
  if denom.toNat = 0 then none else some ⟨denom.toNat, capacity.toNat, lowMark.toNat⟩

/-- The RANGE check of TUBE.DEFINE on its amounts. -/
def assignInRange (denom : Half) (capacity lowMark : Byte) : Bool :=
  decide (denom.toNat ≤ 5000) &&
  (denom.toNat == 0 ||
    (inRange 1 255 capacity.toNat && decide (lowMark.toNat ≤ capacity.toNat)))

/-- A tube rewritten: an unassigned one becomes OK, an assigned one keeps its state, an unassigning
leaves it DISABLED. -/
def Tube.rewrite (t : Tube) (a : Option TubeAssign) : Tube :=
  { t with
    assign := a
    state := if a.isNone then .disabled else if t.assign.isNone then .ok else t.state }

/-- The request changes the denomination or the capacity of a tube. -/
def changesAssign (before after : Option TubeAssign) : Bool :=
  before.map TubeAssign.denom != after.map TubeAssign.denom ||
    before.map TubeAssign.capacity != after.map TubeAssign.capacity

/-- TUBE.DEFINE's event and answer (R74). -/
def State.defineTube (s : State) (i : Byte) (denom : Half) (capacity lowMark : Byte) : Reply :=
  match s.tube i.toNat with
  | none => s.reply .range []
  | some t =>
    let a := assignOf denom capacity lowMark
    if assignInRange denom capacity lowMark = false then s.reply .range []
    else if s.payoutRunning then s.reply .busy []
    else if 0 < t.count ∧ changesAssign t.assign a then s.reply .notEmpty []
    else
      let s := s.editTube i.toNat fun t => t.rewrite a
      let s := (s.dropMapped (some i.toNat)).tubesChanged
      ⟨s, .ok, s.tubeBody i.toNat⟩

/-- TUBE.DEFINE (R74). -/
def execTubeDefine (len : Nat) (tube : Byte) (denom : Half) (capacity lowMark : Byte) (s : State) :
    Result :=
  .next (s.host 0x30 5 len fun s => s.defineTube tube denom capacity lowMark)

/-! ### Counts and states (R75, R76) -/

/-- TUBE.SET_COUNT's event and answer (R75). -/
def State.setCount (s : State) (i : Byte) (n : Half) : Reply :=
  s.withTube i fun _ a =>
    if 255 < n.toNat then s.reply .range []
    else if s.hli.doorOpen = false then s.reply .doorClosed []
    else if s.payoutRunning then s.reply .busy []
    else
      let s := (s.editTube i.toNat fun t => { t with count := min n.toNat a.capacity }).tubesChanged
      ⟨s, if n.toNat ≤ a.capacity then .ok else .clamped, s.tubeBody i.toNat⟩

/-- The event and answer of TUBE.ENABLE and TUBE.DISABLE (R76). -/
def State.setTubeState (s : State) (i : Byte) (x : TubeState) : Reply :=
  s.withTube i fun _ _ =>
    if s.payoutRunning then s.reply .busy []
    else
      let s := (s.editTube i.toNat fun t => { t with state := x }).tubesChanged
      ⟨s, .ok, s.tubeBody i.toNat⟩

/-- TUBE.SET_COUNT (R75). -/
def execTubeSetCount (len : Nat) (tube : Byte) (count : Half) (s : State) : Result :=
  .next (s.host 0x31 3 len fun s => s.setCount tube count)

/-- TUBE.ENABLE (R76). -/
def execTubeEnable (len : Nat) (tube : Byte) (s : State) : Result :=
  .next (s.host 0x32 1 len fun s => s.setTubeState tube .ok)

/-- TUBE.DISABLE (R76). -/
def execTubeDisable (len : Nat) (tube : Byte) (s : State) : Result :=
  .next (s.host 0x33 1 len fun s => s.setTubeState tube .disabled)

/-- TUBE.READ (R78). -/
def execTubeRead (len : Nat) (s : State) : Result :=
  .next (s.host 0x34 0 len fun s => s.reply .ok (tubesFields s.chu.coins 0 s.chu.tubes))

/-! ### Classes (R81 to R83) -/

/-- The tube of a CLASS.SET is one the class may have: none, or an assigned tube whose denomination is
the class's value (R81). -/
def State.mappable (s : State) (value : Nat) (tube : Option Byte) : Bool :=
  match tube with
  | none => true
  | some i =>
    match s.tube i.toNat with
    | some t =>
      match t.assign with
      | some a => a.denom == value
      | none => false
    | none => false

/-- CLASS.SET's event and answer (R81, R84, R85). -/
def State.setClass (s : State) (cls : Byte) (enabled : Bool) (tube : Option Byte) : Reply :=
  match s.chu.coins[cls.toNat]? with
  | none => s.reply .range []
  | some c =>
    if s.mappable c.value tube = false then s.reply .range []
    else
      let c := { c with enabled := enabled, tube := tube.map BitVec.toNat }
      let s := { s with chu := { s.chu with coins := modifyAt (fun _ => c) cls.toNat s.chu.coins } }
      ⟨s.updateRoute.updateMasks, .ok, coinFields s.chu.tubes c⟩

/-- CLASS.SET (R81). -/
def execClassSet (len : Nat) (cls : Byte) (enabled : Bool) (tube : Option Byte) (s : State) :
    Result :=
  .next (s.host 0x35 3 len fun s => s.setClass cls enabled tube)

/-- BILL.SET's event and answer (R82, R85). -/
def State.setBill (s : State) (cls : Byte) (enabled : Bool) : Reply :=
  match s.chu.bills[cls.toNat]? with
  | none => s.reply .range []
  | some b =>
    let b := { b with enabled := enabled }
    let s := { s with chu := { s.chu with bills := modifyAt (fun _ => b) cls.toNat s.chu.bills } }
    ⟨s.updateMasks, .ok, b.fields⟩

/-- BILL.SET (R82). -/
def execBillSet (len : Nat) (cls : Byte) (enabled : Bool) (s : State) : Result :=
  .next (s.host 0x36 2 len fun s => s.setBill cls enabled)

/-- CLASS.READ (R83). -/
def execClassRead (len : Nat) (s : State) : Result :=
  .next (s.host 0x37 0 len fun s => s.reply .ok s.chu.classFields)

/-! ### Totals (R89) -/

/-- TOTALS.READ (R89). -/
def execTotalsRead (len : Nat) (s : State) : Result :=
  .next (s.host 0x38 0 len fun s =>
    s.reply .ok (s.chu.totals.fields ++ [.money s.sesc.credit.toNat]))

/-- TOTALS.CLEAR's event and answer (R89). -/
def State.clearTotals (s : State) : Reply :=
  if s.sesc.phase = .idle then ⟨s.setTotals Totals.zero, .ok, []⟩ else s.reply .sessionOpen []

/-- TOTALS.CLEAR (R89). -/
def execTotalsClear (len : Nat) (s : State) : Result :=
  .next (s.host 0x39 0 len State.clearTotals)

/-! ### Level switches (R77) -/

/-- The full switch of a tube reads anew: the field, the correction, and what a change of a count or of
the full switch draws (R73, R77, R84). -/
def State.fullReads (s : State) (i : Nat) (active : Bool) : State :=
  match s.tube i with
  | none => s
  | some t =>
    let x := if active then FullSwitch.active else .clear
    if t.full = x then s
    else
      let n := fullCorrection t active
      let s := (s.editTube i fun t => { t with full := x }).correctCount i n
      if n.isSome then s.tubesChanged else s.updateRoute

/-- The low switch of a tube reads anew, and the route map is recomputed with or without a correction
(R73, R77). -/
def State.lowReads (s : State) (i : Nat) (low : Bool) : State :=
  match s.tube i with
  | none => s
  | some t =>
    let x := if low then LowSwitch.low else .notLow
    if t.low = x then s
    else
      let n := lowCorrection t low
      let s := (s.editTube i fun t => { t with low := x }).correctCount i n
      if n.isSome then s.tubesChanged else s.updateRoute

/-- FULL_SWITCH_CHANGE (R77). -/
def execFullSwitchChange (tube : Fin 6) (active : Bool) (s : State) : Result :=
  .next (s.event fun s => s.fullReads tube.val active)

/-- LOW_SWITCH_CHANGE (R77). -/
def execLowSwitchChange (tube : Fin 6) (low : Bool) (s : State) : Result :=
  .next (s.event fun s => s.lowReads tube.val low)

end Sys2Proof.Machine
end

