-- ==== Sys2Proof/Machine/DriveCmds.lean ====
section
/-! DEFINITION. The requests, grants, timers and sensors of SDC (R52 to R72). -/

namespace Sys2Proof.Machine

/-- DRIVE.TEST's event and answer (R52). -/
def State.testRequest (s : State) (row col : Nat) : Reply :=
  if motorAddrOk row col = false then s.reply .range []
  else if s.hli.doorOpen = false then s.reply .doorClosed []
  else if 7 ≤ s.testCount then s.reply .queueFull []
  else
    ⟨(s.setList (s.sdc.list ++ [s.testEntry row col])).takeHead, .accepted,
      [.byte s.sdc.list.length]⟩

/-- DRIVE.TEST (R52). -/
def execDriveTest (len : Nat) (row col : Byte) (s : State) : Result :=
  .next (s.host 0x28 2 len fun s => s.testRequest row.toNat col.toNat)

/-- DRIVE.READ (R55). -/
def execDriveRead (len : Nat) (s : State) : Result :=
  .next (s.host 0x29 0 len fun s => s.reply .ok s.sdc.fields)

/-- The grant of SPIRAL is taken in AWAIT_POWER; one that finds the request withdrawn is released (R57,
R137; notes/assumptions/14.md). -/
def State.takeSpiral (s : State) (homeOpen : Bool) : State :=
  s.takeGrant .spiral fun s =>
    match s.sdc.seq, s.sdc.list with
    | .awaitPower, e :: _ => s.energize e.unit homeOpen
    | .leavingHome, _ => s
    | .turning, _ => s
    | _, _ => s.release .spiral

/-- SPIRAL_GRANT (R57). -/
def execSpiralGrant (homeOpen : Bool) (s : State) : Result :=
  .next (s.event fun s => s.takeSpiral homeOpen)

/-- POWER_TIMER_EXPIRY (R57). -/
def execPowerTimerExpiry (s : State) : Result :=
  .next (s.event fun s => s.expire s.sdc.powerTimer fun s => s.endEntry .noPower)

/-- The watched home switch opens in LEAVING_HOME (R59, R60). -/
def State.homeOpens (s : State) : State :=
  if s.sdc.seq = .leavingHome then
    s.setSdc { s.sdc with seq := .turning, leaveTimer := none, turnTimer := some turnTimerMs }
  else s

/-- HOME_SWITCH_OPENS (R59). -/
def execHomeSwitchOpens (s : State) : Result := .next (s.event State.homeOpens)

/-- HOME_SWITCH_CLOSES (R60). -/
def execHomeSwitchCloses (s : State) : Result :=
  .next (s.event fun s => if s.sdc.seq = .turning then s.revolution else s)

/-- LEAVE_TIMER_EXPIRY (R59, R67). -/
def execLeaveTimerExpiry (s : State) : Result :=
  .next (s.event fun s => s.expire s.sdc.leaveTimer fun s => s.endFailed .jammed)

/-- TURN_TIMER_EXPIRY (R60, R67). -/
def execTurnTimerExpiry (s : State) : Result :=
  .next (s.event fun s => s.expire s.sdc.turnTimer fun s => s.endFailed .jammed)

/-- SETTLE_WINDOW_EXPIRY (R61). -/
def execSettleWindowExpiry (s : State) : Result :=
  .next (s.event fun s => s.expire s.sdc.settleTimer State.settleEnds)

/-- CURRENT_SAMPLE: a sample of the energized unit, when it falls due (R62, R63, R157). -/
def execCurrentSample (code : AdcCode) (s : State) : Result :=
  .next (s.event fun s =>
    match s.sdc.energized with
    | some u => (s.elapse s.msc.sampleLeft).takeSample u (currentOf code)
    | none => s)

/-! ### The drop curtain (R64, R72) -/

def State.setCurtain (s : State) (c : Curtain) (timer : Option Nat) : State :=
  s.setSdc { s.sdc with curtain := c, curtainRead := true, blockTimer := timer }

/-- An interruption begins: from CLEAR a drop event (R64). One that begins before the curtain's first
reading counts as that reading and is a drop event all the same. DESIGN CHOICE, unsafe
(notes/assumptions/11.md). -/
def State.curtainBegins (s : State) : State :=
  if s.sdc.curtain = .clear then (s.setCurtain .interrupted (some blockTimerMs)).dropEvent else s

/-- CURTAIN_INTERRUPTION_BEGINS (R64, R65). -/
def execCurtainInterruptionBegins (s : State) : Result := .next (s.event State.curtainBegins)

/-- CURTAIN_INTERRUPTION_ENDS (R64). -/
def execCurtainInterruptionEnds (s : State) : Result :=
  .next (s.event fun s => if s.sdc.curtain = .clear then s else s.setCurtain .clear none)

/-- BLOCK_TIMER_EXPIRY (R64). -/
def execBlockTimerExpiry (s : State) : Result :=
  .next (s.event fun s => s.expire s.sdc.blockTimer fun s => s.setCurtain .blocked none)

/-- CURTAIN_FIRST_READING: the first debounced reading after power-on, no drop event (R72). -/
def execCurtainFirstReading (interrupted : Bool) (s : State) : Result :=
  .next (s.event fun s =>
    if s.sdc.curtainRead then s
    else if interrupted then s.setCurtain .interrupted (some blockTimerMs)
    else s.setCurtain .clear none)

end Sys2Proof.Machine
end

