-- ==== Sys2Proof/Machine/LinkCmds.lean ====
section
/-! DEFINITION. The receive slot's commands, and the requests HLI and RST own (R192 to R199, R204,
R205). -/

namespace Sys2Proof.Machine

/-- The bytes of the link reach the slot: the restore has ended (R206). -/
def State.onLink (s : State) (f : State → State) : State := if s.power = .running then f s else s

/-- FRAME_START: in IDLE a byte 0x5A starts a frame (R192). -/
def execFrameStart (s : State) : Result :=
  .next (s.onLink fun s => if s.hli.slot = .idle then s.setSlot (.receiving []) else s)

/-- LEN_OUT_OF_RANGE: the frame is bad and its bytes are discarded (R192). -/
def execLenOutOfRange (s : State) : Result :=
  .next (s.onLink fun s => if s.hli.slot.collects then s.setSlot .discarding else s)

/-- The BAD_FRAME response (R193). -/
def badFrameResponse : Response := ⟨0xFF, .badFrame, []⟩

/-- DISCARD_QUIET_TIME_EXPIRY: the discard ends in a BAD_FRAME response (R192). -/
def execDiscardQuietTimeExpiry (s : State) : Result :=
  .next (s.onLink fun s =>
    if s.hli.slot = .discarding then s.setSlot (.answering badFrameResponse false) else s)

/-- FRAME_GAP_EXPIRY: the frame is discarded unanswered (R192). -/
def execFrameGapExpiry (s : State) : Result :=
  .next (s.onLink fun s => if s.hli.slot.collects then s.setSlot .idle else s)

/-- RESPONSE_END (R192, R205). -/
def execResponseEnd (straps : BitVec 2) (s : State) : Result :=
  .next (s.onLink fun s => s.endResponse straps)

/-- BAD_FRAME (R193). -/
def execBadFrame (s : State) : Result :=
  .next (if s.linkReady then s.setSlot (.answering badFrameResponse false) else s)

/-- UNKNOWN_REQUEST (R193). -/
def execUnknownRequest (code : Byte) (s : State) : Result :=
  .next (if s.linkReady then s.answer code.toNat .unknownRequest [] else s)

/-- IDENT (R197). -/
def execIdent (len : Nat) (s : State) : Result :=
  .next (s.host 0x01 0 len fun s => s.reply .ok s.identFields)

/-- NOTICES.READ: every notice is taken and the set emptied (R199). -/
def execNoticesRead (len : Nat) (s : State) : Result :=
  .next (s.host 0x02 0 len fun s =>
    ⟨{ s with hli := { s.hli with notices := [] } }, .ok, s.hli.noticeFields⟩)

/-- STORE.SAVE (R204). -/
def execStoreSave (len : Nat) (s : State) : Result := .next (s.hostSave 0x05 len false)

/-- RESTART (R205). -/
def execRestart (len : Nat) (s : State) : Result := .next (s.hostSave 0x06 len true)

/-! ### Settings (R196) -/

/-- SETTING.READ's answer. -/
def State.readSetting (s : State) (num : Nat) : Reply :=
  match s.settings.read num with
  | none => s.reply .range []
  | some v => s.reply .ok (settingFields num v)

/-- A load whose priority was written is promoted if it has waited the promote time (R141). -/
def State.promoteIfDue (s : State) (l : Load) : State :=
  s.setLoad l (promoteDue s.settings l (s.load l))

/-- What the owner of a setting does in the event of its write (R46, R85, R95, R141, R144, R178). -/
def State.settingWritten (s : State) (num : Nat) : State :=
  match num with
  | 0x01 => s.updateMasks
  | 0x02 => s.inactivityWritten
  | 0x20 => s.evalExact
  | 0x31 => s.promoteAllDue.grantPass
  | _ =>
    match priorityLoadOf num with
    | some l => (s.promoteIfDue l).grantPass
    | none =>
      if 0x30 ≤ num ∧ num ≤ 0x37 then s.grantPass else s.rfcSettingWritten num

/-- SETTING.WRITE's event and answer. -/
def State.writeSetting (s : State) (num : Nat) (v : Int) : Reply :=
  match s.settings.read num with
  | none => s.reply .range []
  | some _ =>
    let w := settingClamp num v
    let s := { s with settings := s.settings.write num w }
    ⟨s.settingWritten num, if w = v then .ok else .clamped, settingFields num w⟩

/-- SETTING.READ (R196). -/
def execSettingRead (len : Nat) (num : Byte) (s : State) : Result :=
  .next (s.host 0x03 1 len fun s => s.readSetting num.toNat)

/-- SETTING.WRITE (R196). -/
def execSettingWrite (len : Nat) (num : Byte) (value : BitVec 32) (s : State) : Result :=
  .next (s.host 0x04 5 len fun s => s.writeSetting num.toNat value.toInt)

end Sys2Proof.Machine
end

