-- ==== Sys2Proof/Machine/MeasureCmds.lean ====
section
/-! DEFINITION. The request and the pass of MSC (R148, R159). -/

namespace Sys2Proof.Machine

/-- MEAS.READ (R159). -/
def execMeasRead (len : Nat) (s : State) : Result :=
  .next (s.host 0x51 0 len fun s => s.reply .ok s.measFields)

/-- PASS_END (R148). -/
def execPassEnd (codes : PassCodes) (s : State) : Result :=
  .next (s.event fun s => (s.elapse s.msc.passLeft).endPass codes)

end Sys2Proof.Machine
end

