-- ==== Sys2Proof/Machine/PayoutCmds.lean ====
section
/-! DEFINITION. The requests, the grant, the windows and the exit sensor of the payout executor (R95,
R99 to R110). -/

namespace Sys2Proof.Machine

/-- PAYOUT.TEST's event and answer (R99). -/
def State.payoutTest (s : State) (i n : Byte) : Reply :=
  s.withTube i fun t a =>
    if inRange 1 99 n.toNat = false then s.reply .range []
    else if s.hli.doorOpen = false then s.reply .doorClosed []
    else if s.payoutRunning then s.reply .busy []
    else ⟨s.startService i.toNat a.denom n.toNat t.count, .accepted, []⟩

/-- PAYOUT.TEST (R99). -/
def execPayoutTest (len : Nat) (tube n : Byte) (s : State) : Result :=
  .next (s.host 0x40 2 len fun s => s.payoutTest tube n)

/-- PROBE.SET's event and answer (R95, R96). -/
def State.setProbes (s : State) (p1 p2 p3 p4 : Half) : Reply :=
  let p : Probes :=
    ⟨min p1.toNat 60000, min p2.toNat 60000, min p3.toNat 60000, min p4.toNat 60000⟩
  let s := ({ s with chu := { s.chu with probes := p } }).evalExact
  let fits := [p1, p2, p3, p4].all fun x => decide (x.toNat ≤ 60000)
  ⟨s, if fits then .ok else .clamped, p.fields ++ [.flag s.chu.exactChange]⟩

/-- PROBE.SET (R95). -/
def execProbeSet (len : Nat) (p1 p2 p3 p4 : Half) (s : State) : Result :=
  .next (s.host 0x41 8 len fun s => s.setProbes p1 p2 p3 p4)

/-- PAYOUT.READ (R110). -/
def execPayoutRead (len : Nat) (s : State) : Result :=
  .next (s.host 0x42 0 len fun s => s.reply .ok s.payoutFields)

/-- The grant of PAYOUT is taken in AWAIT_POWER; one that finds no payout is released (R100, R137;
notes/assumptions/14.md). -/
def State.takePayout (s : State) : State :=
  s.takeGrant .payout fun s =>
    match s.chu.payout.state with
    | .awaitPower => s.startEjecting
    | .ejecting => s
    | .idle => s.release .payout

/-- PAYOUT_GRANT (R100). -/
def execPayoutGrant (s : State) : Result := .next (s.event State.takePayout)

/-- PULSE_END: the actuator is off after 40 ms (R101). -/
def execPulseEnd (s : State) : Result :=
  .next (s.event fun s =>
    s.expire s.chu.payout.pulse fun s => s.setPayout { s.chu.payout with pulse := none })

/-- EXIT_COUNT: in an open window a coin of the window's tube, otherwise a late count (R102, R106). -/
def State.exitCount (s : State) : State :=
  match s.chu.payout.window with
  | some w => s.countInWindow w.tube
  | none => s.lateCount

/-- EXIT_COUNT (R102, R106). -/
def execExitCount (s : State) : Result := .next (s.event State.exitCount)

/-- EXIT_WINDOW_EXPIRY (R101). -/
def execExitWindowExpiry (s : State) : Result :=
  .next (s.event fun s =>
    match s.chu.payout.window with
    | some w => (s.elapse w.left).windowEnds w.tube
    | none => s)

end Sys2Proof.Machine
end

