-- ==== Sys2Proof/Machine/RefrigCmds.lean ====
section
/-! DEFINITION. The requests, grants, values and timers of RFC (R179 to R189). -/

namespace Sys2Proof.Machine

/-- REFRIG.DEFROST's event and answer (R187). -/
def State.defrostRequest (s : State) : Reply :=
  if s.rfc.state = .defrost ∨ s.rfc.state = .drip then s.reply .busy []
  else ⟨s.defrostDue, .accepted, []⟩

/-- REFRIG.DEFROST (R187). -/
def execRefrigDefrost (len : Nat) (s : State) : Result :=
  .next (s.host 0x68 0 len State.defrostRequest)

/-- REFRIG.READ (R188). -/
def execRefrigRead (len : Nat) (s : State) : Result :=
  .next (s.host 0x69 0 len fun s => s.reply .ok s.refrigFields)

/-- EVAPORATOR_VALUE (R189). -/
def execEvaporatorValue (s : State) : Result := .next (s.event State.evapTakes)

/-- STARTING is entered: relay and condenser fan on, the run time from 0, the start window begins
(R180). -/
def State.startCompressor (s : State) : State :=
  { s with rfc := { s.rfc with state := .starting, runTime := 0, startWindow := some startWindowMs } }

/-- The grant of COMPRESSOR is taken in WAIT_POWER; one that finds the request withdrawn is released
(R137, R180; notes/assumptions/14.md). -/
def State.takeCompressor (s : State) : State :=
  s.takeGrant .compressor fun s =>
    if s.rfc.state = .waitPower then s.startCompressor
    else if s.rfc.state.compressorOn then s
    else s.release .compressor

/-- COMPRESSOR_GRANT (R180). -/
def execCompressorGrant (s : State) : Result := .next (s.event State.takeCompressor)

/-- The grant of DEFROST is taken in DEFROST: the heater goes on; one that finds the request withdrawn
is released (R137, R185; notes/assumptions/14.md). -/
def State.takeDefrost (s : State) : State :=
  s.takeGrant .defrost fun s =>
    if s.rfc.state = .defrost then { s with rfc := { s.rfc with heaterOn := true } }
    else s.release .defrost

/-- DEFROST_GRANT (R185). -/
def execDefrostGrant (s : State) : Result := .next (s.event State.takeDefrost)

/-- LOCKOUT_EXPIRY: the off time reaches the min-off time (R179). -/
def execLockoutExpiry (s : State) : Result :=
  .next (s.event fun s =>
    s.reach (s.rfc.state == .lockout) s.rfc.offTime s.settings.minOffMs State.lockoutEnds)

/-- The start window ends: RUNNING, and the reduction to the run weight (R180). -/
def State.startWindowEnds (s : State) : State :=
  ({ s with rfc := { s.rfc with state := .running, startWindow := none } }).reduceWeight .compressor
    s.settings.runWeight

/-- START_WINDOW_END (R180). -/
def execStartWindowEnd (s : State) : Result :=
  .next (s.event fun s => s.expire s.rfc.startWindow State.startWindowEnds)

/-- MIN_RUN_EXPIRY (R181). -/
def execMinRunExpiry (s : State) : Result :=
  .next (s.event fun s =>
    s.reach (s.rfc.state == .running) s.rfc.runTime s.settings.minRunMs fun s =>
      if s.minRunStops then s.stopCompressor else s)

/-- MAX_CONTINUOUS_RUN_EXPIRY (R183). -/
def execMaxContinuousRunExpiry (s : State) : Result :=
  .next (s.event fun s =>
    s.reach (s.rfc.state == .running) s.rfc.runTime s.settings.maxRunMs State.defrostDue)

/-- DEFROST_INTERVAL_EXPIRY: the accumulator reaches the interval; one reached while the compressor is off, as
by a stop of the same moment that is taken first, is due at once (R183). -/
def execDefrostIntervalExpiry (s : State) : Result :=
  .next (s.event fun s =>
    s.reach (s.rfc.state.compressorOn || decide (s.settings.intervalMs ≤ s.rfc.accumulator))
      s.rfc.accumulator s.settings.intervalMs State.defrostDue)

/-- HEATER_TIME_LIMIT_EXPIRY: the heater time reaches its limit; one reached ends the defrost also where a
revocation of the same moment has paused the heater first (R185). -/
def execHeaterTimeLimitExpiry (s : State) : Result :=
  .next (s.event fun s =>
    s.reach (s.rfc.state == .defrost &&
        (s.rfc.heaterOn || decide (s.settings.heaterLimitMs ≤ s.rfc.heaterTime)))
      s.rfc.heaterTime s.settings.heaterLimitMs State.endDefrost)

/-- DEFROST_WALL_TIME_EXPIRY (R185). -/
def execDefrostWallTimeExpiry (s : State) : Result :=
  .next (s.event fun s =>
    s.reach (s.rfc.state == .defrost) s.rfc.wallTime wallCapMs State.endDefrost)

/-- DRIP_TIME_EXPIRY (R186). -/
def execDripTimeExpiry (s : State) : Result :=
  .next (s.event fun s =>
    s.reach (s.rfc.state == .drip) s.rfc.dripTime s.settings.dripMs State.dripEnds)

/-- The recovery window runs out: the allowance indication as it then stands is handed to ZTC (R186). -/
def State.recoveryEnds (s : State) : State :=
  let s := { s with rfc := { s.rfc with recovery := none } }
  { s with ztc := { s.ztc with allowance := s.rfc.allowance } }

/-- RECOVERY_WINDOW_EXPIRY (R186). -/
def execRecoveryWindowExpiry (s : State) : Result :=
  .next (s.event fun s => s.expire s.rfc.recovery State.recoveryEnds)

end Sys2Proof.Machine
end

