-- ==== Sys2Proof/Machine/SelectionCmds.lean ====
section
/-! DEFINITION. The requests SELT owns (R11 to R23). -/

namespace Sys2Proof.Machine

/-- The record of a code, with the owner's answer when there is none (R11, R19, R21, R22, R23). -/
def State.withSel (s : State) (code : Half) (f : Selection → Reply) : Reply :=
  match findSel s.selt.table code.toNat with
  | none => s.reply .notFound []
  | some r => f r

/-- The position at an index, with the refusals common to SEL.STOCK and SEL.CLEAR_FAULT: `ok` is false
for an operation or an operand out of range (R19, R22). -/
def State.withPosition (s : State) (code : Half) (index : Byte) (ok : Bool) (f : Position → Reply) :
    Reply :=
  s.withSel code fun r =>
    match r.positions[index.toNat]? with
    | none => s.reply .range []
    | some p =>
      if ok = false then s.reply .range []
      else if s.engaged code.toNat index.toNat p then s.reply .busy []
      else f p

/-- A position of a record is written. -/
def State.setPosition (s : State) (code : Half) (index : Byte) (p : Position) : State :=
  s.setTable (updateSel (fun r => r.setPosition (fun _ => p) index.toNat) code.toNat s.selt.table)

/-! ### Reading (R14, R15) -/

/-- SEL.FIND's answer. -/
def State.findSelection (s : State) (code : Half) : Reply :=
  if inRange 1 999 code.toNat then s.withSel code fun r => s.reply .ok (s.findFields r)
  else s.reply .range []

/-- SEL.NEXT's answer. -/
def State.nextSelections (s : State) (after : Half) : Reply :=
  if after.toNat ≤ 999 then s.reply .ok (s.nextFields after.toNat) else s.reply .range []

/-- SEL.FIND (R14). -/
def execSelFind (len : Nat) (code : Half) (s : State) : Result :=
  .next (s.host 0x10 2 len fun s => s.findSelection code)

/-- SEL.NEXT (R15). -/
def execSelNext (len : Nat) (after : Half) (s : State) : Result :=
  .next (s.host 0x11 2 len fun s => s.nextSelections after)

/-! ### Defining and retiring (R16 to R18, R23) -/

/-- The body length the table gives for a SEL.DEFINE with a position-count byte (R193). -/
def defineLength (count : Byte) : Nat :=
  if inRange 1 4 count.toNat then 10 + 6 * count.toNat else 10

/-- The first refusal of a SEL.DEFINE (R16). -/
def State.defineRefusal (s : State) (d : DefineReq) : Option Status :=
  if defineInRange d = false then some .range
  else if (findSel s.selt.table d.code.toNat).isNone ∧ 64 ≤ s.selt.table.length then some .tableFull
  else if defineConflict s.selt.table d then some .conflict
  else if s.defineBusy d then some .busy
  else if s.definePriceInUse d then some .priceInUse
  else none

/-- SEL.DEFINE's event and answer: created 0, replaced 1, then the record (R16, R18). -/
def State.defineSelection (s : State) (d : DefineReq) : Reply :=
  match s.defineRefusal d with
  | some st => s.reply st []
  | none =>
    let replaced := (findSel s.selt.table d.code.toNat).isSome
    let r := defineRecord d
    let s := s.setTable (putSel r s.selt.table)
    ⟨s, .ok, .flag replaced :: s.selFields r⟩

/-- SEL.RETIRE's event and answer (R23). -/
def State.retireSelection (s : State) (code : Half) : Reply :=
  s.withSel code fun r =>
    if s.referenced code.toNat || s.anyEngaged r then s.reply .busy []
    else
      let s := s.setTable (removeSel code.toNat s.selt.table)
      ⟨s, .ok, [.byte s.selt.table.length]⟩

/-- SEL.DEFINE (R16 to R18). -/
def execSelDefine (len : Nat) (d : DefineReq) (s : State) : Result :=
  .next (s.host 0x12 (defineLength d.count) len fun s => s.defineSelection d)

/-- SEL.RETIRE (R23). -/
def execSelRetire (len : Nat) (code : Half) (s : State) : Result :=
  .next (s.host 0x17 2 len fun s => s.retireSelection code)

/-! ### Stock and faults (R19, R20, R22) -/

/-- The answer of a SEL.STOCK or SEL.CLEAR_FAULT that has written a position. -/
def State.wrotePosition (s : State) (code : Half) (index : Byte) (p : Position) (st : Status) :
    Reply :=
  ⟨s.setPosition code index p, st, stockFields p⟩

/-- SEL.STOCK SET's event and answer (R19). -/
def State.stockSet (s : State) (code : Half) (index : Byte) (known : Bool) (n : Half) : Reply :=
  s.withPosition code index (known && decide (n.toNat ≤ 255)) fun p =>
    s.wrotePosition code index { p with stock := min n.toNat p.capacity, fault := none }
      (if n.toNat ≤ p.capacity then .ok else .clamped)

/-- SEL.STOCK ADD's event and answer (R20). -/
def State.stockAdd (s : State) (code : Half) (index : Byte) (n : Half) : Reply :=
  s.withPosition code index (inRange (-255) 255 n.toInt) fun p =>
    let sum := (p.stock : Int) + n.toInt
    s.wrotePosition code index { p with stock := (clampInt 0 p.capacity sum).toNat }
      (if inRange 0 p.capacity sum then .ok else .clamped)

/-- SEL.CLEAR_FAULT's event and answer (R22). -/
def State.clearFault (s : State) (code : Half) (index : Byte) : Reply :=
  s.withPosition code index true fun p =>
    s.wrotePosition code index { p with fault := none } .ok

/-- SEL.STOCK SET (R19). -/
def execSelStockSet (len : Nat) (code : Half) (index : Byte) (known : Bool) (n : Half) (s : State) :
    Result :=
  .next (s.host 0x13 6 len fun s => s.stockSet code index known n)

/-- SEL.STOCK ADD (R20). -/
def execSelStockAdd (len : Nat) (code : Half) (index : Byte) (n : Half) (s : State) : Result :=
  .next (s.host 0x13 6 len fun s => s.stockAdd code index n)

/-- SEL.CLEAR_FAULT (R22). -/
def execSelClearFault (len : Nat) (code : Half) (index : Byte) (s : State) : Result :=
  .next (s.host 0x16 3 len fun s => s.clearFault code index)

/-! ### Admin and prices (R11, R12, R21) -/

/-- The event and answer of SEL.SUSPEND and SEL.RESUME (R21). -/
def State.setAdmin (s : State) (code : Half) (a : Admin) : Reply :=
  s.withSel code fun r =>
    let s := s.setTable (updateSel (fun r => { r with admin := a }) code.toNat s.selt.table)
    ⟨s, .ok, [s.saleField { r with admin := a }]⟩

/-- SEL.SUSPEND (R21). -/
def execSelSuspend (len : Nat) (code : Half) (s : State) : Result :=
  .next (s.host 0x14 2 len fun s => s.setAdmin code .suspended)

/-- SEL.RESUME (R21). -/
def execSelResume (len : Nat) (code : Half) (s : State) : Result :=
  .next (s.host 0x15 2 len fun s => s.setAdmin code .enabled)

/-- A record with a price written to a set. -/
def Selection.withPrice (r : Selection) (set : PriceSet) (price : Nat) : Selection :=
  match set with
  | .a => { r with priceA := price }
  | .b => { r with priceB := price }

/-- PRICE.SET's event and answer (R11). -/
def State.setPrice (s : State) (code : Half) (set : Option PriceSet) (price : Half) : Reply :=
  s.withSel code fun r =>
    match set with
    | none => s.reply .range (s.priceFields r)
    | some x =>
      if inRange 1 60000 price.toNat = false then s.reply .range (s.priceFields r)
      else if s.inUse x then s.reply .priceInUse (s.priceFields r)
      else
        let s := s.setTable
          (updateSel (fun r => r.withPrice x price.toNat) code.toNat s.selt.table)
        ⟨s, .ok, s.priceFields (r.withPrice x price.toNat)⟩

/-- PRICE.SWAP's event and answer (R12). -/
def State.swapPrices (s : State) : Reply :=
  let s := { s with selt := { s.selt with active := otherSet s.selt.active } }
  ⟨s, .ok, [setField s.selt.active]⟩

/-- PRICE.SET (R11). -/
def execPriceSet (len : Nat) (code : Half) (set : Option PriceSet) (price : Half) (s : State) :
    Result :=
  .next (s.host 0x18 5 len fun s => s.setPrice code set price)

/-- PRICE.SWAP (R12). -/
def execPriceSwap (len : Nat) (s : State) : Result :=
  .next (s.host 0x19 0 len State.swapPrices)

end Sys2Proof.Machine
end

