-- ==== Sys2Proof/Machine/SessionCmds.lean ====
section
/-! DEFINITION. The requests and the expiry SESC owns (R28, R34, R35, R43 to R47). -/

namespace Sys2Proof.Machine

/-- A VEND refused: one answered in CASH_CREDIT or CASHLESS_READY restarts the inactivity timer
(R34). -/
def State.refuseVend (s : State) (st : Status) (body : List Field) : Reply :=
  ⟨if s.sesc.phase = .cashCredit ∨ s.sesc.phase = .cashlessReady then s.restartInactivity else s, st,
    body⟩

/-- The pending vend an acceptance fills (R35). -/
def newVend (code i : Nat) (p : Position) (price : Nat) : PendingVend :=
  ⟨code, i, p.unit, p.turns, price, false⟩

/-- A vend is accepted at position `i` (R35). -/
def State.acceptVend (s : State) (v : PendingVend) : State :=
  let s := s.setSesc { s.sesc with pendingVend := some v, inactivity := none }
  if s.sesc.kind = .cash ∧ s.sesc.escrow.isSome then
    (s.setSesc { s.sesc with phase := .stacking }).handEscrowStack
  else ((s.setSesc { s.sesc with phase := .vending }).enqueue v).takeHead

/-- The last four checks of VEND on a found record, in an open session that may vend (R34, R35). -/
def State.vendFrom (s : State) (r : Selection) : Reply :=
  let price := r.price s.sesc.sessionSet
  if s.saleState r ≠ .active then s.refuseVend .notAvailable [s.saleField r]
  else if s.sesc.available < price then s.refuseVend .creditLow [.money price]
  else if s.sdc.curtain = .blocked then s.refuseVend .binBlocked []
  else
    match r.choose with
    | some (i, p) =>
      ⟨s.acceptVend (newVend r.code i p price), .accepted, [.half r.code, .byte i, .money price]⟩
    | none => s.refuseVend .notAvailable [s.saleField r]

/-- VEND's event and answer (R34). -/
def State.vendRequest (s : State) (code : Half) : Reply :=
  if s.hli.doorOpen then s.refuseVend .doorOpen []
  else
    match findSel s.selt.table code.toNat with
    | none => s.refuseVend .notFound []
    | some r =>
      match s.sesc.phase with
      | .idle => s.refuseVend .noSession [.money (r.price s.selt.active)]
      | .cashCredit => s.vendFrom r
      | .cashlessReady => s.vendFrom r
      | _ => s.refuseVend .busy []

/-- VEND (R34, R35). -/
def execVend (len : Nat) (code : Half) (s : State) : Result :=
  .next (s.host 0x20 2 len fun s => s.vendRequest code)

/-- CANCEL's event and answer (R43, R46). -/
def State.cancelRequest (s : State) : Reply :=
  match s.sesc.phase with
  | .idle => s.reply .noSession []
  | .cashlessReady => ⟨s.restartInactivity, .noSession, []⟩
  | .cashCredit => ⟨s.cancelSession .cancelled, .accepted, []⟩
  | _ => s.reply .busy []

/-- CANCEL (R43). -/
def execCancel (len : Nat) (s : State) : Result :=
  .next (s.host 0x21 0 len State.cancelRequest)

/-- A CASHLESS session opens (R44). -/
def State.openCashless (s : State) (amount : Nat) : State :=
  (s.setSesc { s.sesc with
    phase := .cashlessReady, kind := .cashless, authorized := some amount,
    sessionSet := s.selt.active }).startInactivity

/-- CASHLESS.OPEN's event and answer (R44). -/
def State.cashlessOpenRequest (s : State) (amount : Half) : Reply :=
  if inRange 1 60000 amount.toNat = false then s.reply .range []
  else if s.sesc.phase ≠ .idle then s.reply .sessionOpen []
  else ⟨s.openCashless amount.toNat, .ok, []⟩

/-- CASHLESS.OPEN (R44). -/
def execCashlessOpen (len : Nat) (amount : Half) (s : State) : Result :=
  .next (s.host 0x22 2 len fun s => s.cashlessOpenRequest amount)

/-- CASHLESS.CLOSE's event and answer (R45). -/
def State.cashlessCloseRequest (s : State) : Reply :=
  if s.sesc.phase = .cashlessReady then ⟨s.settle 0, .ok, []⟩
  else if s.sesc.phase = .vending ∧ s.sesc.kind = .cashless then s.reply .busy []
  else s.reply .noSession []

/-- CASHLESS.CLOSE (R45). -/
def execCashlessClose (len : Nat) (s : State) : Result :=
  .next (s.host 0x23 0 len State.cashlessCloseRequest)

/-- SESSION.READ (R28). -/
def execSessionRead (len : Nat) (s : State) : Result :=
  .next (s.host 0x24 0 len fun s => s.reply .ok s.sesc.fields)

/-- The inactivity timer runs out (R47). -/
def State.timeOut (s : State) : State :=
  match s.sesc.phase with
  | .cashCredit => s.cancelSession .timedOut
  | .cashlessReady => s.settle 0
  | _ => s

/-- INACTIVITY_EXPIRY (R47). -/
def execInactivityExpiry (s : State) : Result :=
  .next (s.event fun s => s.expire s.sesc.inactivity State.timeOut)

end Sys2Proof.Machine
end

