-- ==== Sys2Proof/Machine/SupplyCmds.lean ====
section
/-! DEFINITION. The commands of the supply, the reset, the store and the door (R200 to R206). -/

namespace Sys2Proof.Machine

/-- POWER_ON (R206); of a powered part it is a power cycle (notes/assumptions/4.md). -/
def execPowerOn (straps : BitVec 2) (s : State) : Result := .next (s.boot straps)

/-- RESET_PIN: the same effect as a power-on of the powered part (R206). -/
def execResetPin (straps : BitVec 2) (s : State) : Result := .next (s.on fun s => s.boot straps)

/-- RESTORE_END (R206). -/
def execRestoreEnd (s : State) : Result := .next s.endRestore

/-- PFW_ASSERTION (R203). -/
def execPfwAssertion (s : State) : Result := .next (s.on State.assertWarning)

/-- PFW_DEASSERTION (R135, R203). -/
def execPfwDeassertion (s : State) : Result := .next (s.event State.deassertWarning)

/-- SAVE_END (R202). -/
def execSaveEnd (s : State) : Result := .next (s.on State.endSave)

/-- POWER_LOSS (R202). -/
def execPowerLoss (s : State) : Result := .next s.losePower

/-- The door state becomes the reading; a reading that finds the door as it stands is no change
(R53, R85, R200). -/
def State.changeDoor (s : State) (isOpen : Bool) : State :=
  if s.hli.doorOpen = isOpen then s
  else
    let s := ({ s with hli := { s.hli with doorOpen := isOpen } }).raise (.door isOpen)
    let s := if isOpen then s else s.dropPendingTests
    s.updateMasks

/-- DOOR_CHANGE (R200). -/
def execDoorChange (isOpen : Bool) (s : State) : Result :=
  .next (s.event fun s => s.changeDoor isOpen)

end Sys2Proof.Machine
end

