-- ==== Sys2Proof/Machine/ZoneCmds.lean ====
section
/-! DEFINITION. The requests, handings, marks and moves of ZTC (R162 to R173). -/

namespace Sys2Proof.Machine

/-- ZONE.SET's event and answer (R162). A value out of range is answered CLAMPED also where the clamped values
leave every field as it was, which R162 answers both CLAMPED and OK: a DESIGN CHOICE, unsafe
(notes/assumptions/38.md). -/
def State.setZoneRequest (s : State) (q : ZoneReq) : Reply :=
  match zoneNoOf q.zone.toNat, q.mode with
  | some z, some m =>
    if (s.zone z).hold.isSome ∧ m = .off then s.reply .held []
    else
      let s := s.writeZone z (zoneSettingsOf m q)
      ⟨s, if zoneClamped q then .clamped else .ok, (s.zone z).fields⟩
  | _, _ => s.reply .range []

/-- ZONE.SET (R162). -/
def execZoneSet (len : Nat) (q : ZoneReq) (s : State) : Result :=
  .next (s.host 0x60 12 len fun s => s.setZoneRequest q)

/-- ZONE.READ (R173). -/
def execZoneRead (len : Nat) (s : State) : Result :=
  .next (s.host 0x61 0 len fun s => s.reply .ok s.zoneFields)

/-- A temperature lets a hold be cleared: a value at or below the safety limit (R172). -/
def ZoneTemp.coolEnough (t : ZoneTemp) (limit : Int) : Bool :=
  match t with
  | .value v => decide (v ≤ limit)
  | _ => false

/-- The hold and the exposure of a zone are cleared (R172). -/
def State.clearHold (s : State) (z : ZoneNo) : State :=
  let held := (s.zone z).hold.isSome
  let s := s.setZone z { s.zone z with hold := none, exposure := 0 }
  if held then s.raise (.zone z none) else s

/-- ZONE.CLEAR_HOLD's event and answer (R172). -/
def State.clearHoldRequest (s : State) (zone : Byte) : Reply :=
  match zoneNoOf zone.toNat with
  | none => s.reply .range []
  | some z =>
    if (s.zone z).cfg.mode = .off then s.reply .range []
    else if s.hli.doorOpen = false then s.reply .doorClosed []
    else if (s.zone z).temp.coolEnough (s.zone z).cfg.safetyLimit = false then
      s.reply .tooWarm (s.zone z).temp.fields
    else
      let s := s.clearHold z
      ⟨s, .ok, (s.zone z).fields⟩

/-- ZONE.CLEAR_HOLD (R172). -/
def execZoneClearHold (len : Nat) (zone : Byte) (s : State) : Result :=
  .next (s.host 0x62 1 len fun s => s.clearHoldRequest zone)

/-- ZONE_TEMPERATURE: a zone takes the result handed to it (R164). -/
def execZoneTemperature (zone : Fin 4) (s : State) : Result :=
  .next (s.event fun s => s.zoneTakes zone)

/-- The head entry of the queue becomes the running move (R167). A zone that closes stops counting toward the
cooling demand here, its damper MOVING (notes/assumptions/43.md). -/
def State.startMove (s : State) : State :=
  match s.ztc.queue with
  | [] => s.release .damper
  | (z, t) :: rest =>
    let s := { s with ztc := { s.ztc with queue := rest, running := some ⟨z, t, damperMoveMs⟩ } }
    (s.setZone z { s.zone z with damper := .moving }).updateDemand

/-- The grant of DAMPER is taken by the head of the queue; one that finds the queue empty is released
(R137, R167; notes/assumptions/14.md). -/
def State.takeDamper (s : State) : State :=
  s.takeGrant .damper fun s => if s.ztc.running = none then s.startMove else s

/-- DAMPER_GRANT (R167). -/
def execDamperGrant (s : State) : Result := .next (s.event State.takeDamper)

/-- A damper at a target. -/
def Target.position : Target → Damper
  | .closed => .closed
  | .opened => .opened

/-- The running move's 4 s run out (R167, R168). -/
def State.endMove (s : State) : State :=
  match s.ztc.running with
  | none => s
  | some m =>
    let s := s.setZone m.zone { s.zone m.zone with damper := m.target.position }
    let s := { s with ztc := { s.ztc with running := none } }
    (s.release .damper).askDamper.updateDemand

/-- DAMPER_MOVE_END (R167). -/
def execDamperMoveEnd (s : State) : Result :=
  .next (s.event fun s => s.expire (s.ztc.running.map Move.left) State.endMove)

/-- MINUTE_MARK (R169). The zones are taken in the order of their numbers, a DESIGN CHOICE, unsafe
(notes/assumptions/40.md). -/
def execMinuteMark (s : State) : Result :=
  .next (s.event fun s =>
    let s := s.elapse s.ztc.minuteLeft
    let s := { s with ztc := { s.ztc with minuteLeft := minuteMs } }
    ((s.markZone .z1).markZone .z2).markZone .z3)

end Sys2Proof.Machine
end

