-- ==== Sys2Proof/Machine/Dispatch.lean ====
section
/-! DEFINITION. The dispatch of each command to its meaning. -/

namespace Sys2Proof.Machine

def exec (i : Instr) (s : State) : Host.Outcome State Fault Refusal :=
  match i with
  | .powerOn straps => Sys2Proof.Machine.execPowerOn straps s
  | .resetPin straps => Sys2Proof.Machine.execResetPin straps s
  | .restoreEnd => Sys2Proof.Machine.execRestoreEnd s
  | .pfwAssertion => Sys2Proof.Machine.execPfwAssertion s
  | .pfwDeassertion => Sys2Proof.Machine.execPfwDeassertion s
  | .saveEnd => Sys2Proof.Machine.execSaveEnd s
  | .doorChange isOpen => Sys2Proof.Machine.execDoorChange isOpen s
  | .badFrame => Sys2Proof.Machine.execBadFrame s
  | .unknownRequest code => Sys2Proof.Machine.execUnknownRequest code s
  | .discardQuietTimeExpiry => Sys2Proof.Machine.execDiscardQuietTimeExpiry s
  | .frameGapExpiry => Sys2Proof.Machine.execFrameGapExpiry s
  | .responseEnd straps => Sys2Proof.Machine.execResponseEnd straps s
  | .ident len => Sys2Proof.Machine.execIdent len s
  | .noticesRead len => Sys2Proof.Machine.execNoticesRead len s
  | .settingRead len num => Sys2Proof.Machine.execSettingRead len num s
  | .settingWrite len num value => Sys2Proof.Machine.execSettingWrite len num value s
  | .storeSave len => Sys2Proof.Machine.execStoreSave len s
  | .restart len => Sys2Proof.Machine.execRestart len s
  | .selFind len code => Sys2Proof.Machine.execSelFind len code s
  | .selNext len after => Sys2Proof.Machine.execSelNext len after s
  | .selDefine len d => Sys2Proof.Machine.execSelDefine len d s
  | .selStockSet len code index known n => Sys2Proof.Machine.execSelStockSet len code index known n s
  | .selStockAdd len code index n => Sys2Proof.Machine.execSelStockAdd len code index n s
  | .selSuspend len code => Sys2Proof.Machine.execSelSuspend len code s
  | .selResume len code => Sys2Proof.Machine.execSelResume len code s
  | .selClearFault len code index => Sys2Proof.Machine.execSelClearFault len code index s
  | .selRetire len code => Sys2Proof.Machine.execSelRetire len code s
  | .priceSet len code set price => Sys2Proof.Machine.execPriceSet len code set price s
  | .priceSwap len => Sys2Proof.Machine.execPriceSwap len s
  | .vend len code => Sys2Proof.Machine.execVend len code s
  | .cancel len => Sys2Proof.Machine.execCancel len s
  | .cashlessOpen len amount => Sys2Proof.Machine.execCashlessOpen len amount s
  | .cashlessClose len => Sys2Proof.Machine.execCashlessClose len s
  | .sessionRead len => Sys2Proof.Machine.execSessionRead len s
  | .driveTest len row col => Sys2Proof.Machine.execDriveTest len row col s
  | .driveRead len => Sys2Proof.Machine.execDriveRead len s
  | .tubeDefine len tube denom capacity lowMark => Sys2Proof.Machine.execTubeDefine len tube denom capacity lowMark s
  | .tubeSetCount len tube count => Sys2Proof.Machine.execTubeSetCount len tube count s
  | .tubeEnable len tube => Sys2Proof.Machine.execTubeEnable len tube s
  | .tubeDisable len tube => Sys2Proof.Machine.execTubeDisable len tube s
  | .tubeRead len => Sys2Proof.Machine.execTubeRead len s
  | .classSet len cls enabled tube => Sys2Proof.Machine.execClassSet len cls enabled tube s
  | .billSet len cls enabled => Sys2Proof.Machine.execBillSet len cls enabled s
  | .classRead len => Sys2Proof.Machine.execClassRead len s
  | .totalsRead len => Sys2Proof.Machine.execTotalsRead len s
  | .totalsClear len => Sys2Proof.Machine.execTotalsClear len s
  | .payoutTest len tube n => Sys2Proof.Machine.execPayoutTest len tube n s
  | .probeSet len p1 p2 p3 p4 => Sys2Proof.Machine.execProbeSet len p1 p2 p3 p4 s
  | .payoutRead len => Sys2Proof.Machine.execPayoutRead len s
  | .cashbusReset len address => Sys2Proof.Machine.execCashbusReset len address s
  | .cashbusRead len => Sys2Proof.Machine.execCashbusRead len s
  | .loadRead len => Sys2Proof.Machine.execLoadRead len s
  | .measRead len => Sys2Proof.Machine.execMeasRead len s
  | .zoneSet len z => Sys2Proof.Machine.execZoneSet len z s
  | .zoneRead len => Sys2Proof.Machine.execZoneRead len s
  | .zoneClearHold len zone => Sys2Proof.Machine.execZoneClearHold len zone s
  | .refrigDefrost len => Sys2Proof.Machine.execRefrigDefrost len s
  | .refrigRead len => Sys2Proof.Machine.execRefrigRead len s
  | .inactivityExpiry => Sys2Proof.Machine.execInactivityExpiry s
  | .serveSlot => Sys2Proof.Machine.execServeSlot s
  | .masterFrameSent => Sys2Proof.Machine.execMasterFrameSent s
  | .replyWindowExpiry => Sys2Proof.Machine.execReplyWindowExpiry s
  | .replyGapExpiry => Sys2Proof.Machine.execReplyGapExpiry s
  | .ack => Sys2Proof.Machine.execAck s
  | .nak => Sys2Proof.Machine.execNak s
  | .badReply => Sys2Proof.Machine.execBadReply s
  | .setupReply chars => Sys2Proof.Machine.execSetupReply chars s
  | .pollReply chars => Sys2Proof.Machine.execPollReply chars s
  | .confirmationSent => Sys2Proof.Machine.execConfirmationSent s
  | .probeTimeExpiry p => Sys2Proof.Machine.execProbeTimeExpiry p s
  | .stackWatchExpiry => Sys2Proof.Machine.execStackWatchExpiry s
  | .fullSwitchChange tube active => Sys2Proof.Machine.execFullSwitchChange tube active s
  | .lowSwitchChange tube low => Sys2Proof.Machine.execLowSwitchChange tube low s
  | .payoutGrant => Sys2Proof.Machine.execPayoutGrant s
  | .pulseEnd => Sys2Proof.Machine.execPulseEnd s
  | .exitCount => Sys2Proof.Machine.execExitCount s
  | .exitWindowExpiry => Sys2Proof.Machine.execExitWindowExpiry s
  | .spiralGrant homeOpen => Sys2Proof.Machine.execSpiralGrant homeOpen s
  | .powerTimerExpiry => Sys2Proof.Machine.execPowerTimerExpiry s
  | .homeSwitchOpens => Sys2Proof.Machine.execHomeSwitchOpens s
  | .homeSwitchCloses => Sys2Proof.Machine.execHomeSwitchCloses s
  | .leaveTimerExpiry => Sys2Proof.Machine.execLeaveTimerExpiry s
  | .turnTimerExpiry => Sys2Proof.Machine.execTurnTimerExpiry s
  | .currentSample code => Sys2Proof.Machine.execCurrentSample code s
  | .settleWindowExpiry => Sys2Proof.Machine.execSettleWindowExpiry s
  | .curtainInterruptionBegins => Sys2Proof.Machine.execCurtainInterruptionBegins s
  | .curtainInterruptionEnds => Sys2Proof.Machine.execCurtainInterruptionEnds s
  | .blockTimerExpiry => Sys2Proof.Machine.execBlockTimerExpiry s
  | .passEnd codes => Sys2Proof.Machine.execPassEnd codes s
  | .zoneTemperature zone => Sys2Proof.Machine.execZoneTemperature zone s
  | .vdriveValue => Sys2Proof.Machine.execVdriveValue s
  | .evaporatorValue => Sys2Proof.Machine.execEvaporatorValue s
  | .promotion load => Sys2Proof.Machine.execPromotion load s
  | .damperGrant => Sys2Proof.Machine.execDamperGrant s
  | .damperMoveEnd => Sys2Proof.Machine.execDamperMoveEnd s
  | .minuteMark => Sys2Proof.Machine.execMinuteMark s
  | .compressorGrant => Sys2Proof.Machine.execCompressorGrant s
  | .defrostGrant => Sys2Proof.Machine.execDefrostGrant s
  | .lockoutExpiry => Sys2Proof.Machine.execLockoutExpiry s
  | .startWindowEnd => Sys2Proof.Machine.execStartWindowEnd s
  | .minRunExpiry => Sys2Proof.Machine.execMinRunExpiry s
  | .maxContinuousRunExpiry => Sys2Proof.Machine.execMaxContinuousRunExpiry s
  | .defrostIntervalExpiry => Sys2Proof.Machine.execDefrostIntervalExpiry s
  | .heaterTimeLimitExpiry => Sys2Proof.Machine.execHeaterTimeLimitExpiry s
  | .defrostWallTimeExpiry => Sys2Proof.Machine.execDefrostWallTimeExpiry s
  | .dripTimeExpiry => Sys2Proof.Machine.execDripTimeExpiry s
  | .recoveryWindowExpiry => Sys2Proof.Machine.execRecoveryWindowExpiry s
  | .powerLoss => Sys2Proof.Machine.execPowerLoss s
  | .frameStart => Sys2Proof.Machine.execFrameStart s
  | .lenOutOfRange => Sys2Proof.Machine.execLenOutOfRange s
  | .curtainFirstReading interrupted => Sys2Proof.Machine.execCurtainFirstReading interrupted s

end Sys2Proof.Machine
end

