-- ==== Sys2Proof/Machine/Step.lean ====
section
/-! DEFINITION. The step: the command at the front of the queue, and on an empty queue one millisecond of
the powered part (notes/assumptions/3.md). -/

namespace Sys2Proof.Machine

/-- The state whose queue is the given one. -/
def State.withPending (s : State) (q : List Instr) : State := { s with pending := q }

/-- What happens while no command waits: 1 ms passes, and with the supply off nothing does
(notes/assumptions/3.md). -/
def State.idle (s : State) : State := s.on fun s => s.elapse 1

/-- One step: the command at the front of the queue is taken, first in, first out. -/
def step (s : State) : Host.Outcome State Fault Refusal :=
  match s.pending with
  | [] => .next s.idle
  | c :: rest => exec c (s.withPending rest)

/-- The state with the command a table word spells at the front of its queue; the state itself where the
word spells none. -/
def State.withFetchWord (s : State) (nbits w : Nat) : State :=
  match decodeTableWord nbits w with
  | some c => s.withPending (c :: s.pending)
  | none => s

end Sys2Proof.Machine
end

