-- ==== Sys2Proof/Machine/BusReceive.lean ====
section
/-! DEFINITION. A reply on the Cash Bus character by character (R112, R115): the row of the table that the end
of a reply amounts to by its judgment, and the taking of a character and of the end gap. The table has no
row for a character, so characters are taken here and not by `step` (notes/assumptions/44.md). -/

namespace Sys2Proof.Machine

/-- The row of the table that a reply ended by its length, or NAK at once, amounts to (R115). -/
def replyCommand (m : Message) (cs : List (Option Byte)) : Instr :=
  match judge m cs with
  | .ack => .ack
  | .nak => .nak
  | .bad => .badReply
  | .good =>
    match m with
    | .setup => .setupReply (cs.filterMap id)
    | _ => .pollReply (cs.filterMap id)

/-- The row of the table that a reply ended by a gap before its length amounts to: NAK for 0xFF alone, as SETUP
draws it, and a reply cut off otherwise (R115). -/
def gapCommand (m : Message) (cs : List (Option Byte)) : Instr :=
  match judge m cs with
  | .nak => .nak
  | _ => .replyGapExpiry

/-- A character received on the Cash Bus, `none` for a framing error or one out of place. It joins the reply
awaited and ends it or not; with no reply awaited it is discarded (R112, R115). -/
def State.takeCharacter (s : State) (c : Option Byte) : Result :=
  match s.cbm.bus with
  | .awaiting p m probe left got =>
    if replyEnded m (got ++ [c]) then exec (replyCommand m (got ++ [c])) s
    else .next (s.on fun s => s.setBus (.awaiting p m probe left (got ++ [c])))
  | _ => .next s

/-- Eleven bits received on the Cash Bus (R112). -/
def State.takeBusBits (s : State) (bits : List Bool) : Result := s.takeCharacter (busCharacterByte bits)

/-- A gap of more than 3 ms behind a character ends a reply that has begun (R115). -/
def State.takeGap (s : State) : Result :=
  match s.cbm.bus with
  | .awaiting _ m _ _ (c :: got) => exec (gapCommand m (c :: got)) s
  | _ => .next s

/-- Characters received one behind another, with no gap between them (R115). -/
def takeCharacters : List (Option Byte) → State → Result
  | [], s => .next s
  | c :: rest, s =>
    match s.takeCharacter c with
    | .next t => takeCharacters rest t
    | other => other

end Sys2Proof.Machine
end

