-- ==== Sys2Proof/WellFormed.lean ====
section
/-! DEFINITION. The commands that can come to the part: a body length a frame can have (R192), an unknown
CODE that no request has (R193), a SEL.DEFINE body of the positions its count byte gives (R193), and
replies of their declared lengths (R115). -/

namespace Sys2Proof

/-- The CODEs of the request table (section 11.4). -/
def requestCodes : List Nat :=
  [0x01, 0x02, 0x03, 0x04, 0x05, 0x06] ++
    [0x10, 0x11, 0x12, 0x13, 0x14, 0x15, 0x16, 0x17, 0x18, 0x19] ++
    [0x20, 0x21, 0x22, 0x23, 0x24, 0x28, 0x29] ++
    [0x30, 0x31, 0x32, 0x33, 0x34, 0x35, 0x36, 0x37, 0x38, 0x39] ++
    [0x40, 0x41, 0x42, 0x48, 0x49, 0x50, 0x51] ++ [0x60, 0x61, 0x62, 0x68, 0x69]

/-- What the request table gives a request (section 11.4): its CODE, the body length it is to have, and
the body length `len` it has. -/
structure RequestShape where
  code : Nat
  want : Nat
  len : Nat
  deriving DecidableEq, Repr

/-- The body length of a SEL.DEFINE with a position-count byte (R193). -/
def DefineReq.wantLength (d : DefineReq) : Nat :=
  if 1 ≤ d.count.toNat ∧ d.count.toNat ≤ 4 then 10 + 6 * d.count.toNat else 10

/-- The request table (section 11.4), none for a command that is no request. -/
def requestShape : Instr → Option RequestShape
  | .powerOn _ => none
  | .resetPin _ => none
  | .restoreEnd => none
  | .pfwAssertion => none
  | .pfwDeassertion => none
  | .saveEnd => none
  | .doorChange _ => none
  | .badFrame => none
  | .unknownRequest _ => none
  | .discardQuietTimeExpiry => none
  | .frameGapExpiry => none
  | .responseEnd _ => none
  | .ident len => some ⟨0x01, 0, len⟩
  | .noticesRead len => some ⟨0x02, 0, len⟩
  | .settingRead len _ => some ⟨0x03, 1, len⟩
  | .settingWrite len _ _ => some ⟨0x04, 5, len⟩
  | .storeSave len => some ⟨0x05, 0, len⟩
  | .restart len => some ⟨0x06, 0, len⟩
  | .selFind len _ => some ⟨0x10, 2, len⟩
  | .selNext len _ => some ⟨0x11, 2, len⟩
  | .selDefine len d => some ⟨0x12, d.wantLength, len⟩
  | .selStockSet len _ _ _ _ => some ⟨0x13, 6, len⟩
  | .selStockAdd len _ _ _ => some ⟨0x13, 6, len⟩
  | .selSuspend len _ => some ⟨0x14, 2, len⟩
  | .selResume len _ => some ⟨0x15, 2, len⟩
  | .selClearFault len _ _ => some ⟨0x16, 3, len⟩
  | .selRetire len _ => some ⟨0x17, 2, len⟩
  | .priceSet len _ _ _ => some ⟨0x18, 5, len⟩
  | .priceSwap len => some ⟨0x19, 0, len⟩
  | .vend len _ => some ⟨0x20, 2, len⟩
  | .cancel len => some ⟨0x21, 0, len⟩
  | .cashlessOpen len _ => some ⟨0x22, 2, len⟩
  | .cashlessClose len => some ⟨0x23, 0, len⟩
  | .sessionRead len => some ⟨0x24, 0, len⟩
  | .driveTest len _ _ => some ⟨0x28, 2, len⟩
  | .driveRead len => some ⟨0x29, 0, len⟩
  | .tubeDefine len _ _ _ _ => some ⟨0x30, 5, len⟩
  | .tubeSetCount len _ _ => some ⟨0x31, 3, len⟩
  | .tubeEnable len _ => some ⟨0x32, 1, len⟩
  | .tubeDisable len _ => some ⟨0x33, 1, len⟩
  | .tubeRead len => some ⟨0x34, 0, len⟩
  | .classSet len _ _ _ => some ⟨0x35, 3, len⟩
  | .billSet len _ _ => some ⟨0x36, 2, len⟩
  | .classRead len => some ⟨0x37, 0, len⟩
  | .totalsRead len => some ⟨0x38, 0, len⟩
  | .totalsClear len => some ⟨0x39, 0, len⟩
  | .payoutTest len _ _ => some ⟨0x40, 2, len⟩
  | .probeSet len _ _ _ _ => some ⟨0x41, 8, len⟩
  | .payoutRead len => some ⟨0x42, 0, len⟩
  | .cashbusReset len _ => some ⟨0x48, 1, len⟩
  | .cashbusRead len => some ⟨0x49, 0, len⟩
  | .loadRead len => some ⟨0x50, 0, len⟩
  | .measRead len => some ⟨0x51, 0, len⟩
  | .zoneSet len _ => some ⟨0x60, 12, len⟩
  | .zoneRead len => some ⟨0x61, 0, len⟩
  | .zoneClearHold len _ => some ⟨0x62, 1, len⟩
  | .refrigDefrost len => some ⟨0x68, 0, len⟩
  | .refrigRead len => some ⟨0x69, 0, len⟩
  | .inactivityExpiry => none
  | .serveSlot => none
  | .masterFrameSent => none
  | .replyWindowExpiry => none
  | .replyGapExpiry => none
  | .ack => none
  | .nak => none
  | .badReply => none
  | .setupReply _ => none
  | .pollReply _ => none
  | .confirmationSent => none
  | .probeTimeExpiry _ => none
  | .stackWatchExpiry => none
  | .fullSwitchChange _ _ => none
  | .lowSwitchChange _ _ => none
  | .payoutGrant => none
  | .pulseEnd => none
  | .exitCount => none
  | .exitWindowExpiry => none
  | .spiralGrant _ => none
  | .powerTimerExpiry => none
  | .homeSwitchOpens => none
  | .homeSwitchCloses => none
  | .leaveTimerExpiry => none
  | .turnTimerExpiry => none
  | .currentSample _ => none
  | .settleWindowExpiry => none
  | .curtainInterruptionBegins => none
  | .curtainInterruptionEnds => none
  | .blockTimerExpiry => none
  | .passEnd _ => none
  | .zoneTemperature _ => none
  | .vdriveValue => none
  | .evaporatorValue => none
  | .promotion _ => none
  | .damperGrant => none
  | .damperMoveEnd => none
  | .minuteMark => none
  | .compressorGrant => none
  | .defrostGrant => none
  | .lockoutExpiry => none
  | .startWindowEnd => none
  | .minRunExpiry => none
  | .maxContinuousRunExpiry => none
  | .defrostIntervalExpiry => none
  | .heaterTimeLimitExpiry => none
  | .defrostWallTimeExpiry => none
  | .dripTimeExpiry => none
  | .recoveryWindowExpiry => none
  | .powerLoss => none
  | .frameStart => none
  | .lenOutOfRange => none
  | .curtainFirstReading _ => none

/-- The body length of a frame: LEN is 1 to 252 and counts CODE (R192, R195). -/
def lengthOk (len : Nat) : Bool := decide (len ≤ 251)

/-- A SEL.DEFINE of the right body length holds as many positions as its count byte says (R193). -/
def DefineReq.shapeOk (len : Nat) (d : DefineReq) : Bool :=
  !(decide (1 ≤ d.count.toNat) && decide (d.count.toNat ≤ 4) && len == 10 + 6 * d.count.toNat) ||
    d.positions.length == d.count.toNat

/-- A SETUP reply that ends at its declared length (R115). -/
def setupLengthOk (chars : List Byte) : Bool := chars.length == 33

/-- A POLL reply that ends at its declared length; a first character 0xFF is NAK at once (R115). -/
def pollLengthOk (chars : List Byte) : Bool :=
  match chars with
  | [] => false
  | n :: rest => n != 0xFF && rest.length == 2 * n.toNat + 1

/-- A command that can come to the part. -/
def WellFormed : Instr → Bool
  | .powerOn _ => true
  | .resetPin _ => true
  | .restoreEnd => true
  | .pfwAssertion => true
  | .pfwDeassertion => true
  | .saveEnd => true
  | .doorChange _ => true
  | .badFrame => true
  | .unknownRequest code => !requestCodes.contains code.toNat
  | .discardQuietTimeExpiry => true
  | .frameGapExpiry => true
  | .responseEnd _ => true
  | .ident len => lengthOk len
  | .noticesRead len => lengthOk len
  | .settingRead len _ => lengthOk len
  | .settingWrite len _ _ => lengthOk len
  | .storeSave len => lengthOk len
  | .restart len => lengthOk len
  | .selFind len _ => lengthOk len
  | .selNext len _ => lengthOk len
  | .selDefine len d => lengthOk len && d.shapeOk len
  | .selStockSet len _ _ _ _ => lengthOk len
  | .selStockAdd len _ _ _ => lengthOk len
  | .selSuspend len _ => lengthOk len
  | .selResume len _ => lengthOk len
  | .selClearFault len _ _ => lengthOk len
  | .selRetire len _ => lengthOk len
  | .priceSet len _ _ _ => lengthOk len
  | .priceSwap len => lengthOk len
  | .vend len _ => lengthOk len
  | .cancel len => lengthOk len
  | .cashlessOpen len _ => lengthOk len
  | .cashlessClose len => lengthOk len
  | .sessionRead len => lengthOk len
  | .driveTest len _ _ => lengthOk len
  | .driveRead len => lengthOk len
  | .tubeDefine len _ _ _ _ => lengthOk len
  | .tubeSetCount len _ _ => lengthOk len
  | .tubeEnable len _ => lengthOk len
  | .tubeDisable len _ => lengthOk len
  | .tubeRead len => lengthOk len
  | .classSet len _ _ _ => lengthOk len
  | .billSet len _ _ => lengthOk len
  | .classRead len => lengthOk len
  | .totalsRead len => lengthOk len
  | .totalsClear len => lengthOk len
  | .payoutTest len _ _ => lengthOk len
  | .probeSet len _ _ _ _ => lengthOk len
  | .payoutRead len => lengthOk len
  | .cashbusReset len _ => lengthOk len
  | .cashbusRead len => lengthOk len
  | .loadRead len => lengthOk len
  | .measRead len => lengthOk len
  | .zoneSet len _ => lengthOk len
  | .zoneRead len => lengthOk len
  | .zoneClearHold len _ => lengthOk len
  | .refrigDefrost len => lengthOk len
  | .refrigRead len => lengthOk len
  | .inactivityExpiry => true
  | .serveSlot => true
  | .masterFrameSent => true
  | .replyWindowExpiry => true
  | .replyGapExpiry => true
  | .ack => true
  | .nak => true
  | .badReply => true
  | .setupReply chars => setupLengthOk chars
  | .pollReply chars => pollLengthOk chars
  | .confirmationSent => true
  | .probeTimeExpiry _ => true
  | .stackWatchExpiry => true
  | .fullSwitchChange _ _ => true
  | .lowSwitchChange _ _ => true
  | .payoutGrant => true
  | .pulseEnd => true
  | .exitCount => true
  | .exitWindowExpiry => true
  | .spiralGrant _ => true
  | .powerTimerExpiry => true
  | .homeSwitchOpens => true
  | .homeSwitchCloses => true
  | .leaveTimerExpiry => true
  | .turnTimerExpiry => true
  | .currentSample _ => true
  | .settleWindowExpiry => true
  | .curtainInterruptionBegins => true
  | .curtainInterruptionEnds => true
  | .blockTimerExpiry => true
  | .passEnd _ => true
  | .zoneTemperature _ => true
  | .vdriveValue => true
  | .evaporatorValue => true
  | .promotion _ => true
  | .damperGrant => true
  | .damperMoveEnd => true
  | .minuteMark => true
  | .compressorGrant => true
  | .defrostGrant => true
  | .lockoutExpiry => true
  | .startWindowEnd => true
  | .minRunExpiry => true
  | .maxContinuousRunExpiry => true
  | .defrostIntervalExpiry => true
  | .heaterTimeLimitExpiry => true
  | .defrostWallTimeExpiry => true
  | .dripTimeExpiry => true
  | .recoveryWindowExpiry => true
  | .powerLoss => true
  | .frameStart => true
  | .lenOutOfRange => true
  | .curtainFirstReading _ => true

end Sys2Proof
end

