-- ==== Sys2Proof/Machine/Requests.lean ====
section
/-! DEFINITION. The frames of the host's requests: a request built as bytes and read from them, its check,
its CODE and its body's fields high byte first (R193, R195, section 11.4). Where section 11.4 gives no byte
values, an enumerated field takes those R195 gives it in responses (notes/assumptions/9.md, 37.md). -/

namespace Sys2Proof.Machine

/-! ### Fields of a body -/

/-- The byte of a body at a place; 0 beyond its end, where the body's length is refused (R193). -/
def byteAt (body : List Byte) (i : Nat) : Byte := body.getD i 0

/-- The two bytes of a body from a place on, high byte first (R195). -/
def halfAt (body : List Byte) (i : Nat) : Half := byteAt body i ++ byteAt body (i + 1)

/-- The four bytes of a body from a place on, high byte first (R195). -/
def fullAt (body : List Byte) (i : Nat) : BitVec 32 := halfAt body i ++ halfAt body (i + 2)

/-- The value of an enumerated byte in a list of values by their places; none for any other byte. -/
def enumOf {α : Type} (values : List α) (b : Byte) : Option α := values[b.toNat]?

/-- A flag: 0 clear, 1 set (R195). -/
def flagOf : Byte → Option Bool := enumOf [false, true]

/-- The byte of CLASS.SET that stands for no tube. DESIGN CHOICE, unsafe (notes/assumptions/37.md). -/
def noTubeByte : Byte := 0xFF

/-- A tube of CLASS.SET, or none (R81). -/
def tubeOf (b : Byte) : Option Byte := if b = noTubeByte then none else some b

/-- The position of a SEL.DEFINE body whose six bytes begin at a place (section 11.4). -/
def posAt (body : List Byte) (i : Nat) : PosReq where
  row := byteAt body i
  col := byteAt body (i + 1)
  twin := flagOf (byteAt body (i + 2))
  capacity := byteAt body (i + 3)
  stock := byteAt body (i + 4)
  turns := byteAt body (i + 5)

/-- The number of positions a SEL.DEFINE body is read for: the count byte's when that is 1-4 (R193). -/
def positionsOf (count : Byte) : Nat :=
  if 1 ≤ count.toNat ∧ count.toNat ≤ 4 then count.toNat else 0

/-- The body of SEL.DEFINE (section 11.4). -/
def defineOf (body : List Byte) : DefineReq where
  code := halfAt body 0
  admin := enumOf [.enabled, .suspended] (byteAt body 2)
  zone := byteAt body 3
  priceA := halfAt body 4
  priceB := halfAt body 6
  draw := enumOf [.first, .rotate] (byteAt body 8)
  count := byteAt body 9
  positions := (List.range (positionsOf (byteAt body 9))).map fun k => posAt body (10 + 6 * k)

/-- The body of ZONE.SET (R162). -/
def zoneReqOf (body : List Byte) : ZoneReq where
  zone := byteAt body 0
  mode := enumOf [.off, .chilled] (byteAt body 1)
  setpoint := halfAt body 2
  differential := halfAt body 4
  safetyLimit := halfAt body 6
  holdThreshold := halfAt body 8
  allowance := halfAt body 10

/-- The SEL.STOCK that a body asks for: SET is operation 0, ADD operation 1 (R19; notes/assumptions/8.md). -/
def stockOf (body : List Byte) : Instr :=
  let len := body.length
  let code := halfAt body 0
  let index := byteAt body 2
  match (byteAt body 3).toNat with
  | 0 => .selStockSet len code index true (halfAt body 4)
  | 1 => .selStockAdd len code index (halfAt body 4)
  | _ => .selStockSet len code index false (halfAt body 4)

/-! ### Reading a frame -/

/-- The request a CODE and a body make; UNKNOWN_REQUEST for a CODE that is none's (R193, section 11.4). -/
def requestOf (code : Byte) (b : List Byte) : Instr :=
  let len := b.length
  match code.toNat with
  | 0x01 => .ident len
  | 0x02 => .noticesRead len
  | 0x03 => .settingRead len (byteAt b 0)
  | 0x04 => .settingWrite len (byteAt b 0) (fullAt b 1)
  | 0x05 => .storeSave len
  | 0x06 => .restart len
  | 0x10 => .selFind len (halfAt b 0)
  | 0x11 => .selNext len (halfAt b 0)
  | 0x12 => .selDefine len (defineOf b)
  | 0x13 => stockOf b
  | 0x14 => .selSuspend len (halfAt b 0)
  | 0x15 => .selResume len (halfAt b 0)
  | 0x16 => .selClearFault len (halfAt b 0) (byteAt b 2)
  | 0x17 => .selRetire len (halfAt b 0)
  | 0x18 => .priceSet len (halfAt b 0) (enumOf [.a, .b] (byteAt b 2)) (halfAt b 3)
  | 0x19 => .priceSwap len
  | 0x20 => .vend len (halfAt b 0)
  | 0x21 => .cancel len
  | 0x22 => .cashlessOpen len (halfAt b 0)
  | 0x23 => .cashlessClose len
  | 0x24 => .sessionRead len
  | 0x28 => .driveTest len (byteAt b 0) (byteAt b 1)
  | 0x29 => .driveRead len
  | 0x30 => .tubeDefine len (byteAt b 0) (halfAt b 1) (byteAt b 3) (byteAt b 4)
  | 0x31 => .tubeSetCount len (byteAt b 0) (halfAt b 1)
  | 0x32 => .tubeEnable len (byteAt b 0)
  | 0x33 => .tubeDisable len (byteAt b 0)
  | 0x34 => .tubeRead len
  | 0x35 => .classSet len (byteAt b 0) (byteAt b 1 != 0) (tubeOf (byteAt b 2))
  | 0x36 => .billSet len (byteAt b 0) (byteAt b 1 != 0)
  | 0x37 => .classRead len
  | 0x38 => .totalsRead len
  | 0x39 => .totalsClear len
  | 0x40 => .payoutTest len (byteAt b 0) (byteAt b 1)
  | 0x41 => .probeSet len (halfAt b 0) (halfAt b 2) (halfAt b 4) (halfAt b 6)
  | 0x42 => .payoutRead len
  | 0x48 => .cashbusReset len (byteAt b 0)
  | 0x49 => .cashbusRead len
  | 0x50 => .loadRead len
  | 0x51 => .measRead len
  | 0x60 => .zoneSet len (zoneReqOf b)
  | 0x61 => .zoneRead len
  | 0x62 => .zoneClearHold len (byteAt b 0)
  | 0x68 => .refrigDefrost len
  | 0x69 => .refrigRead len
  | _ => .unknownRequest code

/-- The command a complete frame is, from its bytes LEN to CHK: BAD_FRAME when they do not sum to 0 modulo
256 (R193). -/
def frameCommand (frame : List Byte) : Instr :=
  if charSum frame = 0 then
    match frame with
    | _ :: code :: rest => requestOf code rest.dropLast
    | _ => .badFrame
  else .badFrame

/-! ### Building a frame -/

/-- The byte of an enumerated field: the place of its value, or 2, which is no value's. -/
def enumField {α : Type} (place : α → Nat) (x : Option α) : Field :=
  .byte (match x with
    | some v => place v
    | none => 2)

/-- A byte of a body. -/
def byteField (b : Byte) : Field := .byte b.toNat

/-- Two bytes of a body. -/
def numField (n : Half) : Field := .half n.toNat

/-- A position of a SEL.DEFINE body (section 11.4). -/
def PosReq.fields (p : PosReq) : List Field :=
  [byteField p.row, byteField p.col, enumField Bool.toNat p.twin, byteField p.capacity,
    byteField p.stock, byteField p.turns]

/-- The body of a request, as its fields (section 11.4); a command that is no request has none. -/
def requestFields : Instr → List Field
  | .settingRead _ num => [byteField num]
  | .settingWrite _ num value => [byteField num, .full value.toNat]
  | .selFind _ code => [numField code]
  | .selNext _ after => [numField after]
  | .selDefine _ d =>
    [numField d.code, enumField Admin.ctorIdx d.admin, byteField d.zone, numField d.priceA,
      numField d.priceB, enumField Draw.ctorIdx d.draw, byteField d.count] ++
      (d.positions.map PosReq.fields).flatten
  | .selStockSet _ code index known n =>
    [numField code, byteField index, .byte (if known then 0 else 2), numField n]
  | .selStockAdd _ code index n => [numField code, byteField index, .byte 1, numField n]
  | .selSuspend _ code => [numField code]
  | .selResume _ code => [numField code]
  | .selClearFault _ code index => [numField code, byteField index]
  | .selRetire _ code => [numField code]
  | .priceSet _ code set price => [numField code, enumField PriceSet.ctorIdx set, numField price]
  | .vend _ code => [numField code]
  | .cashlessOpen _ amount => [numField amount]
  | .driveTest _ row col => [byteField row, byteField col]
  | .tubeDefine _ tube denom capacity lowMark =>
    [byteField tube, numField denom, byteField capacity, byteField lowMark]
  | .tubeSetCount _ tube count => [byteField tube, numField count]
  | .tubeEnable _ tube => [byteField tube]
  | .tubeDisable _ tube => [byteField tube]
  | .classSet _ cls enabled tube =>
    [byteField cls, .flag enabled, byteField (tube.getD noTubeByte)]
  | .billSet _ cls enabled => [byteField cls, .flag enabled]
  | .payoutTest _ tube n => [byteField tube, byteField n]
  | .probeSet _ p1 p2 p3 p4 => [numField p1, numField p2, numField p3, numField p4]
  | .cashbusReset _ address => [byteField address]
  | .zoneSet _ z =>
    [byteField z.zone, enumField ZoneMode.ctorIdx z.mode, numField z.setpoint,
      numField z.differential, numField z.safetyLimit, numField z.holdThreshold, numField z.allowance]
  | .zoneClearHold _ zone => [byteField zone]
  | _ => []

/-- The body of a request, as bytes. -/
def requestBody (c : Instr) : List Byte := bodyBytes (requestFields c)

/-- The operands are such as a body can carry: as many positions as the count byte gives, and no tube whose
byte stands for none. -/
def sendable : Instr → Bool
  | .selDefine _ d => d.positions.length == positionsOf d.count
  | .classSet _ _ _ tube => tube != some noTubeByte
  | _ => true

/-- The bytes of a request frame: 0x5A, LEN, CODE, body, CHK, with the sum of LEN through CHK 0 modulo 256
(R195). -/
def requestFrame (code : Nat) (body : List Byte) : List Byte :=
  let summed := BitVec.ofNat 8 (body.length + 1) :: BitVec.ofNat 8 code :: body
  0x5A#8 :: (summed ++ [0 - charSum summed])

end Sys2Proof.Machine
end

