-- ==== Sys2Proof/Machine/Receive.lean ====
section
/-! DEFINITION. The receive slot byte by byte (R192): the row of the table that each byte on the Host Link
amounts to, and its taking. The table has no row for a byte, so bytes are taken here and not by `step`
(notes/assumptions/37.md). -/

namespace Sys2Proof.Machine

/-- The row of the table that a received byte amounts to, if any (R192, R193): the 0x5A that starts a frame in
IDLE, a LEN of 0 or above 252, and the last byte of a frame, LEN + 1 bytes behind LEN. A byte of 0x5A
inside a frame is data. -/
def State.byteCommand (s : State) (b : Byte) : Option Instr :=
  match s.hli.slot with
  | .idle => if b = 0x5A then some .frameStart else none
  | .receiving [] => if b.toNat = 0 ∨ 252 < b.toNat then some .lenOutOfRange else none
  | .receiving (len :: got) =>
    if got.length < len.toNat then none else some (frameCommand (len :: got ++ [b]))
  | _ => none

/-- A byte that ends nothing is collected in RECEIVING and discarded in every other state (R192). -/
def State.collect (s : State) (b : Byte) : State :=
  match s.hli.slot with
  | .receiving got => s.setSlot (.receiving (got ++ [b]))
  | _ => s

/-- A byte received on the Host Link. Before the restore has ended it is discarded (R192, R206). -/
def State.takeByte (s : State) (b : Byte) : Result :=
  if s.power = .running then
    match s.byteCommand b with
    | some c => exec c s
    | none => .next (s.collect b)
  else .next s

/-- Bytes received one after another, with no gap that would discard their frame (R192). -/
def takeBytes : List Byte → State → Result
  | [], s => .next s
  | b :: rest, s =>
    match s.takeByte b with
    | .next t => takeBytes rest t
    | other => other

end Sys2Proof.Machine
end

