-- ==== Sys2Proof/Safety.lean ====
section
/-! DEFINITION. What a safe state is: the laws the spec states of the part, each as a property of a state
that every step is to keep. A law of retained records holds of the image and of a snapshot being written
too. -/

namespace Sys2Proof.Machine

/-! ### Money (R25, R88) -/

/-- coins_in + bills_in = cash_sales + change_paid + credit, modulo 2^32 (R88). -/
def balanced (t : Totals) (credit : Money) : Prop :=
  t.coinsIn + t.billsIn = t.cashSales + t.changePaid + credit

/-- The balance law (R88), and the empty credit of IDLE (R25). -/
structure BalanceLaw (s : State) : Prop where
  live : balanced s.chu.totals s.sesc.credit
  idle : s.sesc.phase = .idle → s.sesc.credit = 0
  image : ∀ x, s.rst.image = some x → balanced x.totals x.credit
  saving : ∀ x, s.rst.saving = some x → balanced x.totals x.credit

/-! ### The selection table (R1 to R4) -/

/-- The values of a position (R3, R4). -/
structure PositionLaw (p : Position) : Prop where
  capacity : 1 ≤ p.capacity ∧ p.capacity ≤ 40
  stock : p.stock ≤ p.capacity
  turns : p.turns = 1 ∨ p.turns = 2
  row : p.unit.row ≤ 7
  col : p.unit.col ≤ 9
  twin : p.unit.twin = true → p.unit.col ≤ 8

/-- The values of a record (R2). -/
structure RecordLaw (r : Selection) : Prop where
  code : 1 ≤ r.code ∧ r.code ≤ 999
  zone : r.zone ≤ 3
  priceA : 1 ≤ r.priceA ∧ r.priceA ≤ 60000
  priceB : 1 ≤ r.priceB ∧ r.priceB ≤ 60000
  count : 1 ≤ r.positions.length ∧ r.positions.length ≤ 4
  cursor : r.cursor < r.positions.length
  positions : ∀ p ∈ r.positions, PositionLaw p

/-- The addresses a record claims. -/
def Selection.claims (r : Selection) : List (Nat × Nat) := r.positions.flatMap fun p => p.unit.addrs

/-- The table: at most 64 records in code order, each motor address of at most one position (R1, R4). -/
structure TableLaw (t : List Selection) : Prop where
  size : t.length ≤ 64
  order : (t.map Selection.code).Pairwise (· < ·)
  owners : (t.flatMap Selection.claims).Nodup
  records : ∀ r ∈ t, RecordLaw r

/-- The table law of the live table, the image and a snapshot. -/
structure TablesLaw (s : State) : Prop where
  live : TableLaw s.selt.table
  image : ∀ x, s.rst.image = some x → TableLaw x.table
  saving : ∀ x, s.rst.saving = some x → TableLaw x.table

/-! ### Tubes and classes (R73, R79) -/

/-- The count law of a tube, its low mark within its capacity (R73). -/
def countLaw (assign : Option TubeAssign) (count : Nat) : Prop :=
  match assign with
  | some a => count ≤ a.capacity ∧ a.lowMark ≤ a.capacity
  | none => count = 0

/-- The mapping bound: a coin class with a tube has a value equal to that tube's denomination (R79). -/
def mappingLaw (assigns : List (Option TubeAssign)) (coins : List CoinClass) : Prop :=
  ∀ c ∈ coins, ∀ i, c.tube = some i → ∃ a, assigns[i]? = some (some a) ∧ a.denom = c.value

/-- The laws of the tubes and the coin classes, live, in the image and in a snapshot. -/
structure CoinLaw (s : State) : Prop where
  six : s.chu.tubes.length = 6
  count : ∀ t ∈ s.chu.tubes, countLaw t.assign t.count
  mapping : mappingLaw (s.chu.tubes.map Tube.assign) s.chu.coins
  image : ∀ x, s.rst.image = some x → x.tubes.length = 6 ∧
    (∀ t ∈ x.tubes, countLaw t.assign t.count) ∧ mappingLaw (x.tubes.map SavedTube.assign) x.coins
  saving : ∀ x, s.rst.saving = some x → x.tubes.length = 6 ∧
    (∀ t ∈ x.tubes, countLaw t.assign t.count) ∧ mappingLaw (x.tubes.map SavedTube.assign) x.coins

/-! ### Zones (R161) -/

/-- The exposure law of a zone's retained fields, and an OFF zone not held with no exposure (R161,
R163). -/
structure ExposureLaw (c : ZoneSettings) (exposure : Nat) (hold : Option HoldCause) : Prop where
  bound : exposure ≤ 65535
  threshold : 1 ≤ c.holdThreshold
  off : c.mode = .off → hold = none ∧ exposure = 0
  held : c.mode = .chilled → c.holdThreshold ≤ exposure → hold.isSome = true

/-- The exposure law of every zone, a faulted sensor of a CHILLED zone included (R161). -/
structure HoldLaw (s : State) : Prop where
  live : ∀ z, ExposureLaw (s.zone z).cfg (s.zone z).exposure (s.zone z).hold
  sensor : ∀ z, (s.zone z).cfg.mode = .chilled → (s.zone z).temp = .sensorFault →
    (s.zone z).hold.isSome = true
  image : ∀ x, s.rst.image = some x → ∀ z ∈ [x.z1, x.z2, x.z3], ExposureLaw z.cfg z.exposure z.hold
  saving : ∀ x, s.rst.saving = some x → ∀ z ∈ [x.z1, x.z2, x.z3],
    ExposureLaw z.cfg z.exposure z.hold

/-! ### Power (R58, R142, R176) -/

/-- The budget law: the sum held is within the effective budget, or only loads that are not revoked hold
grants (R142). -/
def BudgetLaw (s : State) : Prop :=
  s.sumHeld ≤ s.budget ∨
    ((s.load .compressor).isGranted = false ∧ (s.load .defrost).isGranted = false)

/-- The grants not taken yet: each of a load that is GRANTED, none twice, and no pass without one (R137,
R142). -/
structure HandingLaw (s : State) : Prop where
  granted : ∀ pass ∈ s.lba.untaken, ∀ l ∈ pass, (s.load l).isGranted = true
  once : s.lba.untaken.flatten.Nodup
  made : [] ∉ s.lba.untaken

/-- The sequencer is in a state whose unit is energized (R58). -/
def SeqState.turns (x : SeqState) : Bool := x == .leavingHome || x == .turning

/-- What draws power holds its grant: the drive law (R58), the executor (R100), the compressor and the
heater (R176), the damper motor (R167). -/
structure GrantLaw (s : State) : Prop where
  energized : s.sdc.energized.isSome = s.sdc.seq.turns
  settle : s.sdc.settleTimer.isSome = true → s.sdc.seq = .settling
  spiral : s.sdc.energized.isSome = true → (s.load .spiral).isGranted = true
  window : s.chu.payout.window.isSome = true → s.chu.payout.state = .ejecting
  pulse : s.chu.payout.pulse.isSome = true → s.chu.payout.state = .ejecting
  payout : s.chu.payout.state = .ejecting → (s.load .payout).isGranted = true
  start : s.rfc.startWindow.isSome = true → s.rfc.state = .starting
  compressor : s.rfc.state.compressorOn = true → (s.load .compressor).isGranted = true
  heater : s.rfc.heaterOn = true → s.rfc.state = .defrost ∧ (s.load .defrost).isGranted = true
  damper : s.ztc.running.isSome = true → (s.load .damper).isGranted = true

/-- The off-time law: from the states that lead to a start, the min-off time has passed (R179). -/
def OffTimeLaw (s : State) : Prop :=
  s.rfc.state = .ready ∨ s.rfc.state = .waitPower → s.settings.minOffMs ≤ s.rfc.offTime

/-! ### The session and the payout (R25, R26, R107) -/

/-- The phases and what each holds (R25, R26, R46), and the change payout of PAYING (R98, R107). -/
structure SessionLaw (s : State) : Prop where
  vend : s.sesc.pendingVend.isSome = true ↔ s.sesc.phase = .stacking ∨ s.sesc.phase = .vending
  authorized : s.sesc.authorized.isSome = true ↔ s.sesc.kind = .cashless ∧ s.sesc.phase ≠ .idle
  cashless : s.sesc.kind = .cashless → s.sesc.phase ≠ .idle →
    s.sesc.phase = .cashlessReady ∨ s.sesc.phase = .vending
  ready : s.sesc.phase = .cashlessReady → s.sesc.kind = .cashless
  escrow : s.sesc.escrow.isSome = true → s.sesc.phase = .cashCredit ∨ s.sesc.phase = .stacking
  timer : s.sesc.inactivity.isSome = true →
    s.sesc.phase = .cashCredit ∨ s.sesc.phase = .cashlessReady
  change : s.chu.payout.state ≠ .idle → s.chu.payout.kind = .change → s.sesc.phase = .paying
  marked : s.chu.payout.endMark = true →
    s.chu.payout.state = .ejecting ∧ s.chu.payout.kind = .service ∧ s.sesc.phase = .paying
  paying : s.sesc.phase = .paying → s.chu.payout.state ≠ .idle ∧
    (s.chu.payout.kind = .change ∨ s.chu.payout.endMark = true)
  window : s.chu.payout.window.isSome = true → s.chu.payout.state = .ejecting

/-! ### Drive work (R50) -/

/-- The work list: the head alone may be RUNNING, and is exactly while the sequencer works; at most one
VEND entry, in VENDING alone; at most 7 TEST entries (R50). -/
structure WorkListLaw (s : State) : Prop where
  running : ∀ e ∈ s.sdc.list.tail, e.running = false
  head : s.sdc.seq = .idle ↔ s.sdc.list = []
  taken : ∀ e ∈ s.sdc.list.head?, e.running = true
  vends : (s.sdc.list.filter DriveEntry.isVend).length ≤ 1
  vending : (∃ e ∈ s.sdc.list, e.isVend = true) → s.sesc.phase = .vending
  tests : s.testCount ≤ 7

/-! ### Damper moves (R166) -/

/-- The damper move queue holds a zone at most once; a queued zone's entry is its target, and a zone
without an entry has its target reached (R166). -/
structure DamperLaw (s : State) : Prop where
  once : (s.ztc.queue.map Prod.fst).Nodup
  queued : ∀ e ∈ s.ztc.queue, e.2 = (s.zone e.1).target
  reached : ∀ z, z ∉ s.ztc.queue.map Prod.fst → s.targetReached z (s.zone z).target = true

/-! ### Cooling demand (R168) -/

/-- The demand is raised exactly while a CHILLED zone has its target or its damper OPEN, and the
Refrigeration Controller holds it as it stands (R168). A damper MOVING to CLOSED does not count
(notes/assumptions/43.md). -/
structure DemandLaw (s : State) : Prop where
  wanted : s.ztc.demand = true ↔ ∃ z, (s.zone z).cfg.mode = .chilled ∧
    ((s.zone z).target = .opened ∨ (s.zone z).damper = .opened)
  handed : s.rfc.demand = s.ztc.demand

/-! ### Cash Bus (R122, R123) -/

/-- A peripheral not ONLINE has nothing pending, outstanding or watched; an attempt count is 1 to 3
(R122, R124). -/
structure PeripheralLaw (r : PeriphRec) : Prop where
  offline : r.link ≠ .online →
    r.pending = PendingSet.empty ∧ r.outstanding = none ∧ r.stackWatch = none
  attempts : ∀ o, r.outstanding = some o → 1 ≤ o.attempt ∧ o.attempt ≤ 3

/-- The Cash Bus: the records' law, no ESCROW command for the coin validator, and no slot late on an
idle bus (R122, R123). -/
structure BusLaw (s : State) : Prop where
  records : ∀ p, PeripheralLaw (s.periph p)
  coin : (s.periph .coin).pending.escrow = none
  late : s.cbm.bus = .idle → s.cbm.late = []

/-! ### Measurement (R149, R153) -/

/-- A channel's record (R153). -/
structure ChannelLaw (c : Channel) : Prop where
  value : c.value.isSome = true ↔ c.state = .valid
  fault : c.fault.isSome = true ↔ c.state = .sensorFault
  count : c.goodCount ≤ 3
  recovering : 1 ≤ c.goodCount → c.state = .sensorFault ∧ c.ring.isSome = true
  ring : c.state = .valid → c.value = c.ring.map Ring.average

/-- The channels and the reference state (R149, R153). -/
structure MeasureLaw (s : State) : Prop where
  th1 : ChannelLaw s.msc.channels.th1
  th2 : ChannelLaw s.msc.channels.th2
  th3 : ChannelLaw s.msc.channels.th3
  thEvap : ChannelLaw s.msc.channels.thEvap
  thAmb : ChannelLaw s.msc.channels.thAmb
  failCount : s.msc.failCount ≤ 120
  refFault : s.msc.refFault = true ↔ 1 ≤ s.msc.failCount

/-! ### Notices (R198) -/

/-- The notice set holds at most one notice of each kind, in the order of R198. -/
def NoticeLaw (s : State) : Prop :=
  (s.hli.notices.map fun n => n.1.kindNo).Pairwise (· < ·)

/-- A save under way leaves the image INVALID until it ends (R202). -/
def StoreLaw (s : State) : Prop := s.rst.saving.isSome = true → s.rst.image = none

/-! ### What CHU hands to the Cash Bus (R84, R85, R122) -/

/-- From `s` to `t` each validator's accept mask is handed when it differs from the last one handed: it stands
in the ACCEPT_MASK slot of an ONLINE validator, and another slot stays as it was (R85, R122). -/
def MasksHanded (s t : State) : Prop :=
  ∀ p, (t.periph p).pending.acceptMask =
    if (s.periph p).link = .online ∧ s.lastMask p ≠ some (t.maskOf p) then some (t.maskOf p)
    else (s.periph p).pending.acceptMask

/-- From `s` to `t` the route map is handed when it differs from the last one handed: it stands in the
ROUTE_MAP slot of an ONLINE coin validator, and another slot stays as it was (R84, R122). -/
def MapHanded (s t : State) : Prop :=
  (t.periph .coin).pending.routeMap =
    if (s.periph .coin).link = .online ∧ s.chu.lastMap ≠ some t.routeMap then some t.routeMap
    else (s.periph .coin).pending.routeMap

/-- From `s` to `t` nothing of the Cash Bus changes but the ACCEPT_MASK slots and the coin validator's
ROUTE_MAP slot. -/
def OnlySlotsChange (s t : State) : Prop :=
  t.cbm = { s.cbm with
    coin := { s.cbm.coin with pending := { s.cbm.coin.pending with
      routeMap := t.cbm.coin.pending.routeMap, acceptMask := t.cbm.coin.pending.acceptMask } }
    bill := { s.cbm.bill with pending := { s.cbm.bill.pending with
      acceptMask := t.cbm.bill.pending.acceptMask } } }

/-- A state that keeps every law. -/
structure Safe (s : State) : Prop where
  balance : BalanceLaw s
  tables : TablesLaw s
  coins : CoinLaw s
  holds : HoldLaw s
  budget : BudgetLaw s
  handing : HandingLaw s
  grants : GrantLaw s
  offTime : OffTimeLaw s
  session : SessionLaw s
  work : WorkListLaw s
  dampers : DamperLaw s
  demand : DemandLaw s
  bus : BusLaw s
  measure : MeasureLaw s
  notices : NoticeLaw s
  store : StoreLaw s

end Sys2Proof.Machine
end

