-- ==== Sys2Proof/Certificates/Slice0/Obligations.lean ====
section
/-! DEFINITION. The statements for the provers. A request's statement is of a frame that finds the slot free
(`linkReady`) and whose body has its length; an event's is of a powered part. -/

section
open Sys2Proof Sys2Proof.Machine

/-! ### The queue, time, reset -/

/-- A step takes the command at the front of the queue, first in, first out. The queue is the model's own
(notes/assumptions/2.md). -/
def Obligations.StepTakesFront : Prop :=
  ∀ (c : Instr) (q : List Instr) (s : State),
    step (s.withPending (c :: q)) = exec c (s.withPending q)

/-- Every command ends, in every state, in a next state, and leaves the queue to the step. With no command
waiting a powered part lets 1 ms pass, and two stretches of time add up: the millisecond of an idle step is
the model's choice (notes/assumptions/3.md). -/
def Obligations.EveryStepEnds : Prop :=
  (∀ (c : Instr) (s : State), ∃ t, exec c s = .next t ∧ t.pending = s.pending) ∧
  ((∀ s : State, s.pending = [] → step s = .next (if s.power = .off then s else s.elapse 1)) ∧
    ∀ (s : State) (a b : Nat), (s.elapse a).elapse b = s.elapse (a + b))

/-- The state after reset keeps every law, with the records the reset rules of the chapters give for an
invalid image (R24, R49, R72, R90, R111, R131, R147, R160, R175, R190, R206). That the image is absent and
the restore ended is the model's choice (notes/assumptions/1.md). -/
def Obligations.ResetIsSafe : Prop :=
  Safe State.reset ∧ State.reset.selt = ⟨[], .a⟩ ∧ State.reset.settings = Settings.default ∧
  State.reset.sesc.phase = .idle ∧ State.reset.sesc.credit = 0 ∧ State.reset.sdc.list = [] ∧
  State.reset.sdc.seq = .idle ∧ State.reset.chu.totals = Totals.zero ∧
  (∀ t ∈ State.reset.chu.tubes, t = ⟨none, 0, .disabled, .unknown, .unknown⟩) ∧
  State.reset.chu.payout.state = .idle ∧
  (∀ p, (State.reset.periph p).link = .unknown ∧ (State.reset.periph p).probeTime = 0) ∧
  State.reset.lba.band = .zero ∧ State.reset.sumHeld = 0 ∧ State.reset.msc.failCount = 0 ∧
  (∀ z, (State.reset.zone z).cfg = ⟨.off, 40, 20, 80, 600, 20⟩ ∧ (State.reset.zone z).temp = .notYet ∧
    (State.reset.zone z).damper = .unknown) ∧
  State.reset.rfc.state = .lockout ∧ State.reset.rfc.offTime = 0 ∧
  State.reset.hli.notices = [(.store .lost, false)] ∧ State.reset.hli.doorOpen = true ∧
  State.reset.attn = true

/-! ### The link -/

/-- The three checks of a complete frame, and the response code of a frame that passes (R193). A frame that
comes complete to an IDLE slot brings its own start (notes/assumptions/5.md). -/
def Obligations.FrameChecks : Prop :=
  (∀ s : State, s.linkReady = true →
    exec .badFrame s = .next (s.setSlot (.answering ⟨0xFF, .badFrame, []⟩ false))) ∧
  (∀ (code : Byte) (s : State), s.linkReady = true → exec (.unknownRequest code) s =
    .next (s.setSlot (.answering ⟨code.toNat + 0x80, .unknownRequest, []⟩ false))) ∧
  (∀ (c : Instr) (x : RequestShape) (s : State), requestShape c = some x → s.linkReady = true →
    x.len ≠ x.want →
    exec c s = .next (s.setSlot (.answering ⟨x.code + 0x80, .badLength, []⟩ false))) ∧
  ∀ (c : Instr) (x : RequestShape) (s : State), requestShape c = some x → s.linkReady = true →
    x.len = x.want → ∃ t, exec c s = .next t ∧
      ((∃ st body, t.hli.slot = .answering ⟨x.code + 0x80, st, body⟩ false) ∨
        (x.code = 0x05 ∧ t.hli.slot = .waitingSave false) ∨
        (x.code = 0x06 ∧ t.hli.slot = .waitingSave true))

/-- The receive slot moves as R192 states, and nothing else changes. A frame that comes while a response is
under way, during a discard or before the restore has ended is lost and changes nothing (R192, R206). A
frame that comes complete to an IDLE slot brings its own start, and an event out of its context changes
nothing (notes/assumptions/5.md, 2.md). Byte by byte: 0x5A starts a frame in IDLE, any other byte there is
discarded; a LEN of 0 or above 252 is out of range; a byte before the last is collected, 0x5A among them;
with the last one a frame that does not sum to 0 is bad (R192, R193). Bytes are taken outside `step`
(notes/assumptions/37.md). -/
def Obligations.SlotMoves : Prop :=
  (∀ s : State, s.power = .running →
      (s.hli.slot = .idle → exec .frameStart s = .next (s.setSlot (.receiving []))) ∧
      (∀ got, s.hli.slot = .receiving got → exec .lenOutOfRange s = .next (s.setSlot .discarding)) ∧
      (s.hli.slot = .discarding → exec .discardQuietTimeExpiry s =
        .next (s.setSlot (.answering ⟨0xFF, .badFrame, []⟩ false))) ∧
      (∀ got, s.hli.slot = .receiving got → exec .frameGapExpiry s = .next (s.setSlot .idle)) ∧
      (∀ r straps, s.hli.slot = .answering r false →
        exec (.responseEnd straps) s = .next (s.setSlot .idle)) ∧
      (s.hli.slot ≠ .idle → exec .frameStart s = .next s) ∧
      ((∀ got, s.hli.slot ≠ .receiving got) →
        exec .frameGapExpiry s = .next s ∧ exec .lenOutOfRange s = .next s)) ∧
  (∀ (s : State) (b : Byte),
      (s.power = .running → s.hli.slot = .idle →
        (b = 0x5A → s.takeByte b = exec .frameStart s) ∧ (b ≠ 0x5A → s.takeByte b = .next s)) ∧
      (s.power = .running → s.hli.slot = .receiving [] →
        (b.toNat = 0 ∨ 252 < b.toNat → s.takeByte b = exec .lenOutOfRange s) ∧
        (1 ≤ b.toNat → b.toNat ≤ 252 → s.takeByte b = .next (s.setSlot (.receiving [b])))) ∧
      (∀ len got, s.power = .running → s.hli.slot = .receiving (len :: got) →
        (got.length < len.toNat →
          s.takeByte b = .next (s.setSlot (.receiving (len :: (got ++ [b]))))) ∧
        (len.toNat ≤ got.length → charSum (len :: (got ++ [b])) ≠ 0 →
          s.takeByte b = exec .badFrame s)) ∧
      (s.power ≠ .running ∨ s.hli.slot = .discarding ∨ (∃ r x, s.hli.slot = .answering r x) ∨
        (∃ x, s.hli.slot = .waitingSave x) → s.takeByte b = .next s)) ∧
  (∀ (c : Instr) (s : State), s.linkReady = false →
      (requestShape c).isSome = true ∨ c = .badFrame ∨ (∃ code, c = .unknownRequest code) →
      exec c s = .next s)

/-- A response frame starts with 0x5A, its LEN counts what follows but for CHK, and LEN through CHK sum to
0 modulo 256 (R195); a master frame's check is the sum of the characters before it, and its first character
alone has mode bit 1 (R112, R114). A POLL reply is taken as good only with at most 8 events, its declared
length and a right check; a SETUP reply only with its 33 characters and a right check, and it gives sixteen
values, high character first (R115, R118, R119). A request frame is 0x5A, LEN, CODE, body and CHK, LEN
through CHK sum to 0, and what is read from a request's body is the request, every operand at every value a
body can carry; a CODE of no request is UNKNOWN_REQUEST; received byte by byte in IDLE, the frame runs its
command (R192, R193, R195; the byte values of the enumerated fields and of CLASS.SET's none are the model's,
notes/assumptions/8.md, 9.md, 37.md). A character of the Cash Bus is a start bit, eight data bits least
significant first, the mode bit and a stop bit, one of the Host Link the same without a mode bit; a
character with mode bit 1 or stop bit 0 is no reply's (R112, R191). A reply is judged from its characters: for
a message that expects ACK one character 0x00 is ACK, one 0xFF is NAK and any other, a damaged one too, is
bad; 0xFF is NAK at once for POLL and at the gap for SETUP; a data reply of its declared length runs its
command, and is bad with a damaged character in it; another reply that ends at a gap is cut off; a window in
which a reply has begun expires no more, and with no reply awaited a character is discarded (R112, R115,
R129; characters are taken outside `step`, notes/assumptions/44.md). CBTXE is asserted exactly while the part
sends or is to confirm (R113; how early, notes/assumptions/36.md; during the restore too,
notes/assumptions/35.md). -/
def Obligations.FramesAndReplies : Prop :=
  ((∀ r : Response, ∃ chk : Byte,
      r.frame = 0x5A#8 :: BitVec.ofNat 8 ((bodyBytes r.body).length + 2) :: BitVec.ofNat 8 r.code ::
        BitVec.ofNat 8 r.status.value :: (bodyBytes r.body ++ [chk]) ∧
      charSum r.frame.tail = 0) ∧
    (∀ (p : Peripheral) (m : Message), (masterFrame p m).getLast? =
      some (charSum (masterFrame p m).dropLast)) ∧
    ∀ (p : Peripheral) (m : Message), ∃ a rest, masterFrameModes p m = (a, true) :: rest ∧
      (∀ c ∈ rest, c.2 = false) ∧ a.toNat = addressOf p * 16 + m.code) ∧
  ((∀ cs es, pollEventsOf cs = some es → es.length ≤ 8 ∧ cs.length = 2 * es.length + 2 ∧
      cs.head? = some (BitVec.ofNat 8 es.length) ∧ cs.getLast? = some (charSum cs.dropLast)) ∧
    ∀ cs vs, setupValuesOf cs = some vs → cs.length = 33 ∧ vs.length = 16 ∧
      cs.getLast? = some (charSum cs.dropLast) ∧ ∀ k h l, cs[2 * k]? = some h → cs[2 * k + 1]? = some l →
        k < 16 → vs[k]? = some (h.toNat * 256 + l.toNat)) ∧
  ((∀ (code : Nat) (body : List Byte), ∃ chk : Byte,
      requestFrame code body =
        0x5A#8 :: BitVec.ofNat 8 (body.length + 1) :: BitVec.ofNat 8 code :: (body ++ [chk]) ∧
      charSum (requestFrame code body).tail = 0) ∧
    (∀ (c : Instr) (x : RequestShape), requestShape c = some x → x.len = x.want → sendable c = true →
      (requestBody c).length = x.want ∧ requestOf (BitVec.ofNat 8 x.code) (requestBody c) = c) ∧
    (∀ (code : Byte) (body : List Byte), code.toNat ∉ requestCodes →
      requestOf code body = .unknownRequest code) ∧
    ∀ (c : Instr) (x : RequestShape) (s : State), requestShape c = some x → x.len = x.want →
      sendable c = true → s.power = .running → s.hli.slot = .idle →
      takeBytes (requestFrame x.code (requestBody c)) s =
        exec c (s.setSlot (.receiving (requestFrame x.code (requestBody c)).tail.dropLast))) ∧
  ((∀ (b : Byte) (m : Bool), busCharacter (b, m) = [false, b.getLsbD 0, b.getLsbD 1, b.getLsbD 2,
      b.getLsbD 3, b.getLsbD 4, b.getLsbD 5, b.getLsbD 6, b.getLsbD 7, m, true]) ∧
    (∀ b : Byte, linkCharacter b = [false, b.getLsbD 0, b.getLsbD 1, b.getLsbD 2, b.getLsbD 3,
      b.getLsbD 4, b.getLsbD 5, b.getLsbD 6, b.getLsbD 7, true]) ∧
    (∀ (b : Byte) (m stop : Bool), busCharacterByte (false :: (dataBits b ++ [m, stop])) =
      if m = false ∧ stop = true then some b else none) ∧
    (∀ (s : State) (p : Peripheral) (m : Message) (probe : Bool) (left : Nat), s.power ≠ .off →
      s.cbm.bus = .awaiting p m probe left [] →
      (m ≠ .setup → m ≠ .poll → ∀ bits : List Bool,
        (busCharacterByte bits = some 0x00 → s.takeBusBits bits = exec .ack s) ∧
        (busCharacterByte bits = some 0xFF → s.takeBusBits bits = exec .nak s) ∧
        (busCharacterByte bits ≠ some 0x00 → busCharacterByte bits ≠ some 0xFF →
          s.takeBusBits bits = exec .badReply s)) ∧
      (m = .poll → s.takeCharacter (some 0xFF) = exec .nak s) ∧
      (∀ cs : List Byte,
        (m = .setup → cs.length = 33 → takeCharacters (cs.map some) s = exec (.setupReply cs) s) ∧
        (∀ n, m = .poll → cs.head? = some n → n ≠ 0xFF → cs.length = 2 + 2 * n.toNat →
          takeCharacters (cs.map some) s = exec (.pollReply cs) s)) ∧
      (∀ cs : List (Option Byte), none ∈ cs →
        (m = .setup → cs.length = 33 → takeCharacters cs s = exec .badReply s) ∧
        (∀ n, m = .poll → cs.head? = some (some n) → n ≠ 0xFF → cs.length = 2 + 2 * n.toNat →
          takeCharacters cs s = exec .badReply s))) ∧
    (∀ (s : State) (p : Peripheral) (m : Message) (probe : Bool) (left : Nat) (c : Option Byte)
      (got : List (Option Byte)), s.cbm.bus = .awaiting p m probe left (c :: got) →
      (m = .setup → c = some 0xFF → got = [] → s.takeGap = exec .nak s) ∧
      (c ≠ some 0xFF ∨ got ≠ [] → s.takeGap = exec .replyGapExpiry s) ∧
      exec .replyWindowExpiry s = .next s) ∧
    (∀ (s : State) (c : Option Byte), (∀ p m probe left got, s.cbm.bus ≠ .awaiting p m probe left got) →
      s.takeCharacter c = .next s ∧ s.takeGap = .next s) ∧
    ∀ s : State, s.cbtxe = true ↔ s.power ≠ .off ∧
      ((∃ p m probe, s.cbm.bus = .sending p m probe) ∨ ∃ p, s.cbm.bus = .confirming p))

/-- A read request answers OK with its block's report and changes nothing; SETTING.READ of an unknown number,
SEL.FIND of a code outside 1-999 and SEL.NEXT of one above 999 are refused RANGE, SEL.FIND of a code without a
record NOT_FOUND (R14, R15, R28, R55, R78, R83,
R110, R130, R146, R159, R173, R188, R196, R197). The bodies are as notes/assumptions/10.md reads R195;
SEL.FIND's gives the table size last, where notes/assumptions/33.md places it. -/
def Obligations.ReadsChangeNothing : Prop :=
  ∀ s : State, s.linkReady = true →
    exec (.ident 0) s = .next (s.answer 0x01 .ok [.half 0x5240, .byte 0x01, .byte s.hli.rate.toNat,
      .byte (if s.rst.restored then 0 else 1)]) ∧
    (∀ (num : Byte) (v : Int), s.settings.read num.toNat = some v →
      exec (.settingRead 1 num) s = .next (s.answer 0x03 .ok [.byte num.toNat, .full v])) ∧
    (∀ num : Byte, s.settings.read num.toNat = none →
      exec (.settingRead 1 num) s = .next (s.answer 0x03 .range [])) ∧
    (∀ code : Half, code.toNat = 0 ∨ 999 < code.toNat →
      exec (.selFind 2 code) s = .next (s.answer 0x10 .range [])) ∧
    (∀ code : Half, 1 ≤ code.toNat → code.toNat ≤ 999 → findSel s.selt.table code.toNat = none →
      exec (.selFind 2 code) s = .next (s.answer 0x10 .notFound [])) ∧
    (∀ after : Half, 999 < after.toNat →
      exec (.selNext 2 after) s = .next (s.answer 0x11 .range [])) ∧
    (∀ (code : Half) (r : Selection), 1 ≤ code.toNat → code.toNat ≤ 999 →
      findSel s.selt.table code.toNat = some r →
      exec (.selFind 2 code) s = .next (s.answer 0x10 .ok (s.selFields r ++ [.byte s.selt.table.length]))) ∧
    (∀ after : Half, after.toNat ≤ 999 →
      exec (.selNext 2 after) s = .next (s.answer 0x11 .ok (s.nextFields after.toNat))) ∧
    exec (.sessionRead 0) s = .next (s.answer 0x24 .ok s.sesc.fields) ∧
    exec (.driveRead 0) s = .next (s.answer 0x29 .ok s.sdc.fields) ∧
    exec (.tubeRead 0) s = .next (s.answer 0x34 .ok (tubesFields s.chu.coins 0 s.chu.tubes)) ∧
    exec (.classRead 0) s = .next (s.answer 0x37 .ok s.chu.classFields) ∧
    exec (.payoutRead 0) s = .next (s.answer 0x42 .ok s.payoutFields) ∧
    exec (.cashbusRead 0) s = .next (s.answer 0x49 .ok s.cbm.fields) ∧
    exec (.loadRead 0) s = .next (s.answer 0x50 .ok s.loadFields) ∧
    exec (.measRead 0) s = .next (s.answer 0x51 .ok s.measFields) ∧
    exec (.zoneRead 0) s = .next (s.answer 0x61 .ok s.zoneFields) ∧
    exec (.refrigRead 0) s = .next (s.answer 0x69 .ok s.refrigFields)

/-- NOTICES.READ takes every notice and empties the set (R199); ATTN is asserted exactly while the set is not
empty (R198), from the end of the restore on (notes/assumptions/35.md); a raise keeps at most
one notice of a kind, a new one with its repeated flag clear, one that replaces a payload with the flag
set, and every other kind as it was (R198). -/
def Obligations.NoticeSet : Prop :=
  (∀ s : State, s.linkReady = true → exec (.noticesRead 0) s =
    .next ({ s with hli := { s.hli with notices := [] } }.answer 0x02 .ok
      (.byte s.hli.notices.length ::
        (s.hli.notices.map fun (n : Notice × Bool) =>
        Field.byte n.1.kindNo :: Field.flag n.2 :: n.1.payload).flatten))) ∧
  (∀ s : State, s.attn = true ↔ s.power = .running ∧ s.hli.notices ≠ []) ∧
  ∀ (s : State) (n : Notice), NoticeLaw s → NoticeLaw (s.raise n) ∧
    ((∃ m r, (m, r) ∈ s.hli.notices ∧ m.kindNo = n.kindNo) → (n, true) ∈ (s.raise n).hli.notices) ∧
    ((∀ m r, (m, r) ∈ s.hli.notices → m.kindNo ≠ n.kindNo) →
      (n, false) ∈ (s.raise n).hli.notices) ∧
    ∀ m r, m.kindNo ≠ n.kindNo →
      ((m, r) ∈ (s.raise n).hli.notices ↔ (m, r) ∈ s.hli.notices)

/-- SETTING.WRITE of a known number holds the value clamped to the setting's range, leaves every other
setting as it was and answers OK or CLAMPED with the value now held; an unknown number is refused RANGE
(R196). The ranges are those of the table of R196. In the event of the write the masks follow the max
credit, the inactivity timer starts anew with its time, the exact-change flag follows the coin limit, a
grant pass follows a write of the arbiter, with the promotions that have fallen due (R46, R85, R95, R141,
R144), and the refrigeration controller acts on its times (R178, R179, R181, R183, R185, R186); a write of
any other setting changes nothing else. Of the cutout and the termination temperature (0x43, 0x45) that is
deduced (notes/assumptions/22.md), and that a mask counts as differing with none handed since power-on is the
model's choice (notes/assumptions/27.md). -/
def Obligations.SettingWritten : Prop :=
  (∀ (s : State) (num : Byte) (value : BitVec 32), s.linkReady = true →
    (s.settings.read num.toNat = none →
      exec (.settingWrite 5 num value) s = .next (s.answer 0x04 .range [])) ∧
    ∀ old, s.settings.read num.toNat = some old → ∃ t, exec (.settingWrite 5 num value) s = .next t ∧
      t.settings.read num.toNat = some (settingClamp num.toNat value.toInt) ∧
      (∀ k, k ≠ num.toNat → t.settings.read k = s.settings.read k) ∧
      t.hli.slot = .answering ⟨0x84,
        if settingClamp num.toNat value.toInt = value.toInt then .ok else .clamped,
        [.byte num.toNat, .full (settingClamp num.toNat value.toInt)]⟩ false ∧
      t.selt = s.selt ∧ t.sdc = s.sdc ∧ t.msc = s.msc ∧ t.rst = s.rst ∧
      t.sesc = { s.sesc with inactivity := t.sesc.inactivity } ∧
      (num.toNat ∈ [0x03, 0x04, 0x05, 0x10, 0x11, 0x12, 0x13, 0x43, 0x45] →
        t = { s with settings := t.settings, hli := t.hli }) ∧
      (num = 0x01 → t.chu.lastCoinMask = some t.coinMask ∧ t.chu.lastBillMask = some t.billMask) ∧
      (num = 0x02 → t.sesc.inactivity =
        if s.sesc.phase = .cashCredit ∨ s.sesc.phase = .cashlessReady then
          if t.settings.inactivityTime = 0 then none else some (t.settings.inactivityTime * 1000)
        else s.sesc.inactivity) ∧
      (num = 0x20 → s.chu.payout.state = .idle →
        t.chu.exactChange = exactFlag s.chu.tubes s.chu.probes t.settings.coinLimit) ∧
      (0x30 ≤ num.toNat → num.toNat ≤ 0x3C → BudgetLaw t) ∧
      (∀ l w x, num = 0x31 ∨ priorityLoadOf num.toNat = some l → s.load l = .waiting w x false →
        t.settings.priority l = .normal → t.settings.promoteTime * 1000 ≤ x →
        t.load l = .granted w ∨ t.load l = .waiting w x true) ∧
      (num = 0x40 →
        (s.rfc.state = .lockout → t.settings.minOff * 1000 ≤ s.rfc.offTime → t.rfc.state ≠ .lockout) ∧
        (s.rfc.state = .ready ∨ s.rfc.state = .waitPower →
          s.rfc.offTime < t.settings.minOff * 1000 → t.rfc.state = .lockout)) ∧
      (num = 0x41 → s.rfc.state = .running → s.rfc.demand = false →
        t.settings.minRun * 1000 ≤ s.rfc.runTime → t.rfc.state = .lockout) ∧
      (num = 0x42 → s.rfc.state = .running → t.settings.maxRun * 60000 ≤ s.rfc.runTime →
        t.rfc.state = .defrost) ∧
      (num = 0x44 → t.settings.defrostInterval * 3600000 ≤ s.rfc.accumulator →
        (s.rfc.state = .lockout → t.rfc.defrostPending = true) ∧
        (s.rfc.state ≠ .lockout → s.rfc.state ≠ .drip → t.rfc.state = .defrost)) ∧
      (num = 0x46 → s.rfc.state = .defrost → t.settings.heaterLimit * 60000 ≤ s.rfc.heaterTime →
        t.rfc.state ≠ .defrost ∧ t.rfc.heaterOn = false) ∧
      (num = 0x47 → s.rfc.state = .drip → t.settings.dripTime * 60000 ≤ s.rfc.dripTime →
        t.rfc.state ≠ .drip ∧ t.rfc.recovery = some 600000)) ∧
  let table : List (Nat × Int × Int) := [(0x01, 1, 60000), (0x02, 0, 600), (0x03, 0, 1), (0x04, 0, 1),
    (0x05, 0, 1), (0x10, 0, 2), (0x11, 500, 3000), (0x12, 200, 2500), (0x13, 0, 500), (0x20, 1, 99),
    (0x30, 10, 120), (0x31, 2, 120), (0x32, 1, 120), (0x33, 1, 120), (0x34, 1, 120), (0x35, 1, 120),
    (0x36, 1, 120), (0x37, 1, 120), (0x38, 0, 1), (0x39, 0, 1), (0x3A, 0, 1), (0x3B, 0, 1),
    (0x3C, 0, 1), (0x40, 60, 600), (0x41, 30, 300), (0x42, 30, 240), (0x43, -350, -100), (0x44, 2, 24),
    (0x45, 20, 200), (0x46, 5, 60), (0x47, 0, 10)]
  (∀ (s : State) (num : Nat), (s.settings.read num).isSome = true ↔ num ∈ table.map Prod.fst) ∧
    (∀ num lo hi (v : Int), (num, lo, hi) ∈ table → num ≠ 0x02 ∨ v ≤ 0 ∨ 10 ≤ v →
      settingClamp num v = max lo (min hi v)) ∧
    ∀ v : Int, 1 ≤ v → v ≤ 9 → settingClamp 0x02 v = 10

/-! ### Supply, store, door -/

/-- A power-on samples the straps and starts every record from the image, or from its default with an
INVALID or absent image, the STORE notice alone in the set; RESET and the end of RESTART's response do the
same (R191, R205, R206, and the reset rules of the chapters). Some clauses are the model's choice and no rule
of the spec: the kind and set of an IDLE session (notes/assumptions/7.md); a power-on of a powered part
(notes/assumptions/4.md); in `Sdc.initial` the curtain CLEAR before its first reading
(notes/assumptions/11.md); in `Msc.initial` the VREF code 0 before the first pass (notes/assumptions/12.md);
in `Cbm.initial` the first slot 50 ms on (notes/assumptions/3.md); in `Payout.initial` every field but IDLE and
no last-pulsed tube, and in `Rfc.initial` the times without meaning (notes/assumptions/7.md); the power-fail
warning not asserted (notes/assumptions/24.md); a restored accumulator at or above the interval
(notes/assumptions/21.md). -/
def Obligations.PowerOnStarts : Prop :=
  ∀ (s : State) (straps : BitVec 2),
    (∃ t, exec (.powerOn straps) s = .next t ∧ t.power = .restoring ∧ t.pending = s.pending ∧
      t.rst = ⟨s.rst.image, none, s.rst.image.isSome⟩ ∧
      t.hli = ⟨.idle, [(.store (if s.rst.image.isSome then .restored else .lost), false)], straps,
        true⟩ ∧
      t.sdc = Sdc.initial ∧ t.chu.payout = Payout.initial ∧ t.cbm = Cbm.initial ∧
      t.msc = Msc.initial ∧
      (t.rfc = { Rfc.initial t.rfc.accumulator t.rfc.defrostPending with state := .lockout } ∧
        t.rfc.offTime = 0 ∧ t.rfc.demand = false ∧ t.rfc.evap = none ∧ t.rfc.recovery = none ∧
        t.rfc.heaterOn = false) ∧
      (t.lba.band = .zero ∧ t.lba.vdrive = none ∧ t.lba.pfw = false ∧ t.lba.untaken = [] ∧
        t.load .damper = .waiting t.settings.damperWeight 0 false ∧
        ∀ l, l ≠ .damper → t.load l = .none) ∧
      (t.chu.exactChange = exactFlag t.chu.tubes t.chu.probes t.settings.coinLimit ∧
        (∀ x ∈ t.chu.tubes, x.full = .unknown ∧ x.low = .unknown) ∧ t.chu.lastMap = none ∧
        t.chu.lastCoinMask = none ∧ t.chu.lastBillMask = none) ∧
      (t.ztc.queue = [(.z1, .closed), (.z2, .closed), (.z3, .closed)] ∧ t.ztc.running = none ∧
        t.ztc.demand = false ∧ t.ztc.allowance = false ∧ t.ztc.minuteLeft = 60000 ∧
        t.ztc.ambient = .notYet) ∧
      (∀ z, (t.zone z).damper = .unknown ∧ (t.zone z).target = .closed ∧ (t.zone z).temp = .notYet ∧
        ((t.zone z).restorePending = true ↔ (t.zone z).cfg.mode = .chilled)) ∧
      (∀ x, s.rst.image = some x → t.settings = x.settings ∧ t.selt = ⟨x.table, x.active⟩ ∧
        (t.sesc.credit = x.credit ∧ t.sesc.escrow = none ∧ t.sesc.authorized = none ∧
          t.sesc.pendingVend = none ∧ t.sesc.kind = .cash ∧ t.sesc.sessionSet = x.sessionSet ∧
          (x.credit = 0 → t.sesc.phase = .idle ∧ t.sesc.inactivity = none) ∧
          (x.credit ≠ 0 → t.sesc.phase = .cashCredit ∧ t.sesc.inactivity =
            if x.settings.inactivityTime = 0 then none
            else some (x.settings.inactivityTime * 1000))) ∧
        t.chu.totals = x.totals ∧ t.chu.tubes.map Tube.save = x.tubes ∧ t.chu.coins = x.coins ∧
        t.chu.bills = x.bills ∧ t.chu.probes = x.probes ∧
        (t.zone .z1).save = x.z1 ∧ (t.zone .z2).save = x.z2 ∧ (t.zone .z3).save = x.z3 ∧
        t.rfc.accumulator = x.accumulator ∧
        t.rfc.defrostPending =
          (x.defrostPending || decide (x.settings.defrostInterval * 3600000 ≤ x.accumulator))) ∧
      (s.rst.image = none → t.settings = Settings.default ∧ t.selt = ⟨[], .a⟩ ∧
        t.sesc = Session.idle ∧ t.chu.totals = Totals.zero ∧
        t.chu.tubes = List.replicate 6 Tube.unassigned ∧
        t.chu.coins = List.replicate 16 CoinClass.unused ∧
        t.chu.bills = List.replicate 16 BillClass.unused ∧ t.chu.probes = ⟨0, 0, 0, 0⟩ ∧
        (∀ z, (t.zone z).save = SavedZone.initial) ∧ t.rfc.accumulator = 0 ∧
        t.rfc.defrostPending = false)) ∧
    (s.power ≠ .off → exec (.resetPin straps) s = exec (.powerOn straps) s) ∧
    (∀ r, s.power = .running → s.hli.slot = .answering r true →
      exec (.responseEnd straps) s = exec (.powerOn straps) s)

/-- A STORE.SAVE or RESTART takes the snapshot and leaves the image INVALID; the end of the writing makes it
VALID with that snapshot, raises STORE with SAVED and answers the request; a power loss before it leaves the
image INVALID (R202, R204, R205); the end of the restore serves the link (R206), and what events during the
restore have changed stands, the model's choice (notes/assumptions/41.md). What a save wrote, the next
power-on restores, the session with its collapsed phase (R24, R49, R90, R175, R190, R201); that the session
set is restored with credit 0 too, where R49 says IDLE alone, is the model's choice (notes/assumptions/7.md).
That a part without supply keeps the image alone is the model's choice (notes/assumptions/4.md). A pending
defrost is restored as pending (R190); that an accumulator at or above the interval makes one pending is
deduced (notes/assumptions/21.md). -/
def Obligations.SavesRunAndRestore : Prop :=
  (∀ s : State,
      (s.linkReady = true →
        exec (.storeSave 0) s = .next ({ s with rst :=
          { s.rst with image := none, saving := some s.snapshot } }.setSlot (.waitingSave false)) ∧
        exec (.restart 0) s = .next ({ s with rst :=
          { s.rst with image := none, saving := some s.snapshot } }.setSlot (.waitingSave true))) ∧
      (∀ x, s.power ≠ .off → s.rst.saving = some x → ∃ t, exec .saveEnd s = .next t ∧
        t.rst = { s.rst with image := some x, saving := none } ∧
        (∃ r, (Notice.store .saved, r) ∈ t.hli.notices) ∧
        (s.hli.slot = .waitingSave false → t.hli.slot = .answering ⟨0x85, .ok, []⟩ false) ∧
        (s.hli.slot = .waitingSave true → t.hli.slot = .answering ⟨0x86, .ok, []⟩ true) ∧
        t = { s with rst := t.rst, hli := t.hli }) ∧
      (∃ t, exec .powerLoss s = .next t ∧ t.power = .off ∧ t.rst.image = s.rst.image ∧
        t.rst.saving = none) ∧
      (s.power = .restoring → exec .restoreEnd s = .next { s with power := .running })) ∧
  (∀ (s : State) (straps : BitVec 2), s.power ≠ .off → s.rst.saving = some s.snapshot →
      ∃ u v, exec .saveEnd s = .next u ∧ exec (.powerOn straps) u = .next v ∧
        v.selt = s.selt ∧ v.settings = s.settings ∧ v.chu.tubes.map Tube.save = s.chu.tubes.map Tube.save ∧
        v.chu.coins = s.chu.coins ∧ v.chu.bills = s.chu.bills ∧ v.chu.totals = s.chu.totals ∧
        v.chu.probes = s.chu.probes ∧ v.sesc.credit = s.sesc.credit ∧
        v.sesc.sessionSet = s.sesc.sessionSet ∧
        v.sesc.phase = (if s.sesc.credit = 0 then .idle else .cashCredit) ∧
        (∀ z, (v.zone z).cfg = (s.zone z).cfg ∧ (v.zone z).exposure = (s.zone z).exposure ∧
          (v.zone z).hold = (s.zone z).hold) ∧
        v.rfc.accumulator = s.rfc.accumulator ∧
        v.rfc.defrostPending = (s.rfc.defrostPending ||
          decide (s.settings.defrostInterval * 3600000 ≤ s.rfc.accumulator)) ∧
        v.hli.notices = [(.store .restored, false)])

/-- The power-fail warning: in its event the turn, the payout and the damper move end, the band is ZERO and
the compressor and the heater stop, and the save then started holds the records as they then stand (R71,
R108, R145, R174, R203); its end sets the band as a rise from ZERO (R135). The RUNNING entry ends NO_POWER
before any revolution in AWAIT_POWER and INTERRUPTED otherwise, PENDING entries NO_POWER, each with what SELT
and the session do with it (R8, R9, R41, R42, R71), and the sum held reaches 0 (R145; of a DAMPER grant not yet taken by
notes/assumptions/32.md). The order of the blocks' work in that event is deduced
(notes/assumptions/16.md). -/
def Obligations.WarningStopsWork : Prop :=
  (∀ s : State, s.power ≠ .off → s.lba.pfw = false → GrantLaw s → SessionLaw s → WorkListLaw s →
    ∃ t, exec .pfwAssertion s = .next t ∧ t.lba.pfw = true ∧ t.lba.band = .zero ∧
      t.sdc.list = [] ∧ t.sdc.seq = .idle ∧ t.sdc.energized = none ∧ t.chu.payout.state = .idle ∧
      t.chu.payout.pulse = none ∧ t.ztc.running = none ∧
      (0 < (s.load .compressor).held → t.rfc.state.compressorOn = false) ∧
      (0 < s.sumHeld → t.rfc.heaterOn = false) ∧
      t.rst.image = none ∧ t.rst.saving = some t.snapshot ∧ t.sdc.curtain = s.sdc.curtain ∧
      (t.load .compressor).held = 0 ∧ (t.load .defrost).held = 0 ∧ (t.load .damper).held = 0 ∧
      (s.sdc.list ≠ [] → (t.load .spiral).held = 0) ∧
      (s.chu.payout.state ≠ .idle → (t.load .payout).held = 0) ∧
      (s.sdc.list = [] → t.selt = s.selt) ∧
      (∀ e rest, s.sdc.list = e :: rest →
        let o : DriveOutcome :=
          if s.sdc.seq = .awaitPower ∧ e.extra = false then .noPower else .interrupted
        (∀ row col, e.origin = .test row col → t.selt = (s.seltTest row col o).selt ∧
          (rest = [] → ∃ r, (Notice.testOutcome row col o, r) ∈ t.hli.notices)) ∧
        (∀ code i v, e.origin = .vend code i → s.sesc.pendingVend = some v →
          t.selt = (s.seltVend v.code v.index o).selt ∧
          ∃ r, (Notice.vendOutcome v.code v.index (.drive o) 0, r) ∈ t.hli.notices) ∧
        (∀ d v, d ∈ rest → d.isVend = true → s.sesc.pendingVend = some v →
          ∃ r, (Notice.vendOutcome v.code v.index (.drive .noPower) 0, r) ∈ t.hli.notices) ∧
        (∀ d row col, rest.getLast? = some d → d.origin = .test row col →
          ∃ r, (Notice.testOutcome row col .noPower, r) ∈ t.hli.notices)) ∧
      ((∃ e ∈ s.sdc.list, e.isVend = true) → t.sesc.pendingVend = none ∧
        t.sesc.credit = s.sesc.credit ∧ t.chu.totals = s.chu.totals ∧
        (s.sesc.kind = .cash → t.sesc.phase = .cashCredit) ∧
        (s.sesc.kind = .cashless → t.sesc.authorized = none ∧
          ∃ r, (Notice.cashlessSettle 0, r) ∈ t.hli.notices))) ∧
  ∀ s : State, s.power ≠ .off → s.lba.pfw = true → ∃ t, exec .pfwDeassertion s = .next t ∧
    t.lba.pfw = false ∧
    t.lba.band = (match s.lba.vdrive with
      | some mv => bandAfter .zero mv
      | none => s.lba.band) ∧
    t.sesc = s.sesc ∧ t.sdc = s.sdc ∧ t.chu = s.chu ∧ t.rst = s.rst

/-- A door change sets the door state, raises DOOR, hands the accept masks of the new state, and at a
closing takes the PENDING TEST entries off the list; a reading that finds the door as it stands changes
nothing (R53, R85, R200). A mask that differs from the last one handed stands in its validator's ACCEPT_MASK
slot while that is ONLINE (R122); with none handed since power-on it counts as differing, the model's choice
(notes/assumptions/27.md). -/
def Obligations.DoorChanges : Prop :=
  ∀ (s : State) (isOpen : Bool), s.power ≠ .off →
    (s.hli.doorOpen = isOpen → exec (.doorChange isOpen) s = .next s) ∧
    (s.hli.doorOpen ≠ isOpen → ∃ t, exec (.doorChange isOpen) s = .next t ∧
      t.hli.doorOpen = isOpen ∧ (∃ r, (Notice.door isOpen, r) ∈ t.hli.notices) ∧
      t.sdc = { s.sdc with list :=
        if isOpen then s.sdc.list else s.sdc.list.filter fun e => e.running || e.isVend } ∧
      t.chu = { s.chu with lastCoinMask := some t.coinMask, lastBillMask := some t.billMask } ∧
      (isOpen = true → t.coinMask = 0 ∧ t.billMask = 0) ∧
      MasksHanded s t ∧ OnlySlotsChange s t ∧
      (t.periph .coin).pending.routeMap = (s.periph .coin).pending.routeMap ∧
      t = { s with hli := t.hli, sdc := t.sdc, chu := t.chu, cbm := t.cbm })

/-! ### Selections -/

/-- SEL.DEFINE: the first check that fails gives the status and changes nothing; a request that passes
writes the record with cursor 0 and every position OK, in the place its code takes, and leaves every other
record as it was (R16, R18). The body of the answer, the replaced flag and the record without the table size,
is the model's reading (notes/assumptions/33.md), and so are the four bytes of each price in it
(notes/assumptions/10.md). -/
def Obligations.DefineWrites : Prop :=
  ∀ (s : State) (len : Nat) (d : DefineReq), s.linkReady = true → len = d.wantLength →
    let absent := findSel s.selt.table d.code.toNat = none
    (defineInRange d = false → exec (.selDefine len d) s = .next (s.answer 0x12 .range [])) ∧
    (defineInRange d = true →
      (absent ∧ 64 ≤ s.selt.table.length →
        exec (.selDefine len d) s = .next (s.answer 0x12 .tableFull [])) ∧
      (¬(absent ∧ 64 ≤ s.selt.table.length) →
        (defineConflict s.selt.table d = true →
          exec (.selDefine len d) s = .next (s.answer 0x12 .conflict [])) ∧
        (defineConflict s.selt.table d = false →
          (s.defineBusy d = true → exec (.selDefine len d) s = .next (s.answer 0x12 .busy [])) ∧
          (s.defineBusy d = false →
            (s.definePriceInUse d = true →
              exec (.selDefine len d) s = .next (s.answer 0x12 .priceInUse [])) ∧
            (s.definePriceInUse d = false → ∃ t, exec (.selDefine len d) s = .next t ∧
              findSel t.selt.table d.code.toNat = some (defineRecord d) ∧
              (∀ code, code ≠ d.code.toNat →
                findSel t.selt.table code = findSel s.selt.table code) ∧
              t.hli = { s.hli with slot := .answering ⟨0x92, .ok,
                .flag (findSel s.selt.table d.code.toNat).isSome ::
                  t.selFields (defineRecord d)⟩ false } ∧
              t = { s with selt := { s.selt with table := t.selt.table }, hli := t.hli })))))

/-- SEL.STOCK SET n, SEL.STOCK ADD n and SEL.CLEAR_FAULT on a position that is not engaged: SET and CLEAR_FAULT
remove the fault, ADD keeps it, a stock stays between 0 and the capacity, and OK or CLAMPED says which
(R19, R20, R22). Their refusals in the order of the rules change nothing. -/
def Obligations.StockWrites : Prop :=
  (∀ (s : State) (code : Half) (index : Byte) (r : Selection) (p : Position), s.linkReady = true →
      findSel s.selt.table code.toNat = some r → r.positions[index.toNat]? = some p →
      s.engaged code.toNat index.toNat p = false →
      let put := fun q => s.setTable (updateSel (fun x => x.setPosition (fun _ => q) index.toNat)
        code.toNat s.selt.table)
      (∀ n : Half, n.toNat ≤ p.capacity → n.toNat ≤ 255 →
        exec (.selStockSet 6 code index true n) s =
          .next ((put { p with stock := n.toNat, fault := none }).answer 0x13 .ok
            [.byte n.toNat, .byte 0])) ∧
      (∀ n : Half, p.capacity < n.toNat → n.toNat ≤ 255 →
        exec (.selStockSet 6 code index true n) s =
          .next ((put { p with stock := p.capacity, fault := none }).answer 0x13 .clamped
            [.byte p.capacity, .byte 0])) ∧
      exec (.selClearFault 3 code index) s =
        .next ((put { p with fault := none }).answer 0x16 .ok [.byte p.stock, .byte 0])) ∧
  (∀ (s : State) (code : Half) (index : Byte) (r : Selection) (p : Position) (n : Half),
      s.linkReady = true → findSel s.selt.table code.toNat = some r →
      r.positions[index.toNat]? = some p → s.engaged code.toNat index.toNat p = false →
      -255 ≤ n.toInt → n.toInt ≤ 255 →
      let put := fun k : Nat => s.setTable (updateSel (fun x =>
        x.setPosition (fun _ => { p with stock := k }) index.toNat) code.toNat s.selt.table)
      let body := fun k : Nat => [Field.byte k, Field.flag p.fault.isSome]
      let sum := (p.stock : Int) + n.toInt
      (0 ≤ sum → sum ≤ p.capacity → exec (.selStockAdd 6 code index n) s =
        .next ((put sum.toNat).answer 0x13 .ok (body sum.toNat))) ∧
      (p.capacity < sum → exec (.selStockAdd 6 code index n) s =
        .next ((put p.capacity).answer 0x13 .clamped (body p.capacity))) ∧
      (sum < 0 → exec (.selStockAdd 6 code index n) s =
        .next ((put 0).answer 0x13 .clamped (body 0)))) ∧
  (∀ (s : State) (code : Half) (index : Byte), s.linkReady = true →
      (findSel s.selt.table code.toNat = none →
        (∀ known n, ∃ body, exec (.selStockSet 6 code index known n) s = .next (s.answer 0x13 .notFound body)) ∧
        (∀ n, ∃ body, exec (.selStockAdd 6 code index n) s = .next (s.answer 0x13 .notFound body)) ∧
        ∃ body, exec (.selClearFault 3 code index) s = .next (s.answer 0x16 .notFound body)) ∧
      ∀ r, findSel s.selt.table code.toNat = some r →
        (r.positions.length ≤ index.toNat →
          (∀ known n, ∃ body, exec (.selStockSet 6 code index known n) s = .next (s.answer 0x13 .range body)) ∧
          (∀ n, ∃ body, exec (.selStockAdd 6 code index n) s = .next (s.answer 0x13 .range body)) ∧
          ∃ body, exec (.selClearFault 3 code index) s = .next (s.answer 0x16 .range body)) ∧
        ((∀ n : Half, 255 < n.toNat →
            ∃ body, exec (.selStockSet 6 code index true n) s = .next (s.answer 0x13 .range body)) ∧
          (∀ n, ∃ body, exec (.selStockSet 6 code index false n) s = .next (s.answer 0x13 .range body)) ∧
          (∀ n : Half, n.toInt < -255 ∨ 255 < n.toInt →
            ∃ body, exec (.selStockAdd 6 code index n) s = .next (s.answer 0x13 .range body))) ∧
        ∀ p, r.positions[index.toNat]? = some p → s.engaged code.toNat index.toNat p = true →
          (∀ n : Half, n.toNat ≤ 255 →
            ∃ body, exec (.selStockSet 6 code index true n) s = .next (s.answer 0x13 .busy body)) ∧
          (∀ n : Half, -255 ≤ n.toInt → n.toInt ≤ 255 →
            ∃ body, exec (.selStockAdd 6 code index n) s = .next (s.answer 0x13 .busy body)) ∧
          ∃ body, exec (.selClearFault 3 code index) s = .next (s.answer 0x16 .busy body))

/-- SEL.SUSPEND and SEL.RESUME set admin and answer the derived sale state after the change, whatever is
engaged; a code without a record is refused NOT_FOUND (R21).
SEL.RETIRE removes the record and answers the table size after it; NOT_FOUND and BUSY refuse it
(R13, R23). -/
def Obligations.SuspendResumeRetire : Prop :=
  (∀ (s : State) (code : Half), s.linkReady = true →
      (findSel s.selt.table code.toNat = none →
        ∃ body, exec (.selSuspend 2 code) s = .next (s.answer 0x14 .notFound body) ∧
        ∃ body, exec (.selResume 2 code) s = .next (s.answer 0x15 .notFound body)) ∧
      ∀ r, findSel s.selt.table code.toNat = some r →
        exec (.selSuspend 2 code) s = .next ((s.setTable (updateSel (fun x =>
          { x with admin := .suspended }) code.toNat s.selt.table)).answer 0x14 .ok [.byte 0]) ∧
        exec (.selResume 2 code) s = .next ((s.setTable (updateSel (fun x =>
          { x with admin := .enabled }) code.toNat s.selt.table)).answer 0x15 .ok
            [.byte (s.saleState { r with admin := .enabled }).ctorIdx])) ∧
  (∀ (s : State) (code : Half), s.linkReady = true →
      (findSel s.selt.table code.toNat = none →
        ∃ body, exec (.selRetire 2 code) s = .next (s.answer 0x17 .notFound body)) ∧
      ∀ r, findSel s.selt.table code.toNat = some r →
        (s.referenced code.toNat = true ∨ s.anyEngaged r = true →
          ∃ body, exec (.selRetire 2 code) s = .next (s.answer 0x17 .busy body)) ∧
        (s.referenced code.toNat = false → s.anyEngaged r = false →
          ∃ t, exec (.selRetire 2 code) s = .next t ∧
            findSel t.selt.table code.toNat = none ∧
            (∀ k, k ≠ code.toNat → findSel t.selt.table k = findSel s.selt.table k) ∧
            t.hli = { s.hli with slot := .answering ⟨0x97, .ok, [.byte t.selt.table.length]⟩ false } ∧
            t = { s with selt := { s.selt with table := t.selt.table }, hli := t.hli }))

/-- PRICE.SET writes a price of a set that is not in use, and is refused NOT_FOUND, RANGE or PRICE_IN_USE in
this order; PRICE.SWAP makes the other set active in every session phase (R11, R12). That the RANGE and
PRICE_IN_USE refusals carry the body is the model's reading (notes/assumptions/10.md). -/
def Obligations.PriceWrites : Prop :=
  ∀ s : State, s.linkReady = true →
    (∀ (code : Half) (set : Option PriceSet) (price : Half), findSel s.selt.table code.toNat = none →
      exec (.priceSet 5 code set price) s = .next (s.answer 0x18 .notFound [])) ∧
    (∀ (code : Half) (price : Half) (r : Selection), findSel s.selt.table code.toNat = some r →
      exec (.priceSet 5 code none price) s = .next (s.answer 0x18 .range
        [.full r.priceA, .full r.priceB, setField s.selt.active]) ∧
      ∀ x : PriceSet,
        (price.toNat = 0 ∨ 60000 < price.toNat → exec (.priceSet 5 code (some x) price) s =
          .next (s.answer 0x18 .range [.full r.priceA, .full r.priceB, setField s.selt.active])) ∧
        (1 ≤ price.toNat → price.toNat ≤ 60000 →
          (s.inUse x = true → exec (.priceSet 5 code (some x) price) s =
            .next (s.answer 0x18 .priceInUse
              [.full r.priceA, .full r.priceB, setField s.selt.active])) ∧
          (s.inUse x = false → exec (.priceSet 5 code (some x) price) s =
            .next ((s.setTable (updateSel (fun q => match x with
              | .a => { q with priceA := price.toNat }
              | .b => { q with priceB := price.toNat }) code.toNat s.selt.table)).answer 0x18 .ok
                (match x with
                  | .a => [.full price.toNat, .full r.priceB, setField s.selt.active]
                  | .b => [.full r.priceA, .full price.toNat, setField s.selt.active]))))) ∧
    exec (.priceSwap 0) s = .next ({ s with selt := { s.selt with
      active := match s.selt.active with
        | .a => .b
        | .b => .a } }.answer 0x19 .ok
          [.byte (match s.selt.active with
            | .a => 1
            | .b => 0)])

/-- The price law: a step that is no power-on and no power loss never changes a price of the active set or
of the open session's set of a selection that stays (R10). -/
def Obligations.PriceLaw : Prop :=
  ∀ (s t : State) (code : Nat) (r r' : Selection) (p : PriceSet), step s = .next t →
    t.power = .running → findSel s.selt.table code = some r → findSel t.selt.table code = some r' →
    s.selt.active = p ∨ (s.sesc.phase ≠ .idle ∧ s.sesc.sessionSet = p) → r'.price p = r.price p

/-- The draw rule: FIRST chooses the usable position of lowest index, ROTATE the first usable one met from
the cursor upward and around, and neither any when none is usable (R6).
What SELT does with an outcome: the updates of R8 on the pending vend's position with the cursor of R7,
and those of R9 on the position that owns a tested address; no other record changes. -/
def Obligations.DrawAndOutcomes : Prop :=
  (∀ r : Selection,
      (r.choose = none ↔ ∀ p ∈ r.positions, p.usable = false) ∧
      (∀ i p, r.choose = some (i, p) → r.positions[i]? = some p ∧ p.usable = true) ∧
      (r.draw = .first → ∀ i p, r.choose = some (i, p) →
        ∀ j q, j < i → r.positions[j]? = some q → q.usable = false) ∧
      (r.draw = .rotate → r.cursor < r.positions.length → ∀ i p, r.choose = some (i, p) →
        ∀ j q, r.positions[j]? = some q →
          (j + r.positions.length - r.cursor) % r.positions.length <
            (i + r.positions.length - r.cursor) % r.positions.length → q.usable = false)) ∧
  ((∀ (s : State) (code i : Nat) (r : Selection) (p : Position) (o : DriveOutcome),
      findSel s.selt.table code = some r → r.positions[i]? = some p →
      ∃ r', findSel (s.seltVend code i o).selt.table code = some r' ∧
        r'.positions[i]? = some (match o with
          | .delivered => { p with stock := p.stock - 1 }
          | .jammed => { p with fault := some .jammed }
          | .openMotor => { p with fault := some .openMotor }
          | .noDrop => { p with fault := some .noDrop }
          | .interrupted => { p with fault := some .interrupted }
          | .noPower => p) ∧
        r'.cursor = (if o = .delivered ∧ r.draw = .rotate then (i + 1) % r.positions.length
          else r.cursor) ∧
        (∀ j, j ≠ i → r'.positions[j]? = r.positions[j]?) ∧
        ∀ k, k ≠ code → findSel (s.seltVend code i o).selt.table k = findSel s.selt.table k) ∧
    (∀ (s : State) (row col : Nat) (o : DriveOutcome), ownerOf s.selt.table row col = none →
      s.seltTest row col o = s) ∧
    ∀ (s : State) (row col code i : Nat) (r : Selection) (p : Position) (o : DriveOutcome),
      ownerOf s.selt.table row col = some (code, i) → findSel s.selt.table code = some r →
      r.positions[i]? = some p →
      ∃ r', findSel (s.seltTest row col o).selt.table code = some r' ∧
        r'.positions[i]? = some (match o with
          | .delivered => { p with stock := p.stock - 1, fault := none }
          | .noDrop => { p with fault := none }
          | _ => p) ∧
        r'.cursor = r.cursor ∧ ∀ k, k ≠ code →
          findSel (s.seltTest row col o).selt.table k = findSel s.selt.table k)

/-! ### Sessions -/

/-- A VEND that passes its checks is accepted: the pending vend holds the draw rule's position and the
session-set price, the timer stops, and the session enters STACKING with the stack command handed, or
VENDING with the VEND entry on the list (R34, R35, R36, R38). The price takes four bytes, the model's
reading of R195 (notes/assumptions/10.md). -/
def Obligations.VendAccepted : Prop :=
  ∀ (s : State) (code : Half) (r : Selection), s.linkReady = true → s.hli.doorOpen = false →
    findSel s.selt.table code.toNat = some r →
    s.sesc.phase = .cashCredit ∨ s.sesc.phase = .cashlessReady → s.saleState r = .active →
    r.price s.sesc.sessionSet ≤ s.sesc.available → s.sdc.curtain ≠ .blocked →
    ∃ t i p, exec (.vend 2 code) s = .next t ∧ r.choose = some (i, p) ∧
      t.hli.slot = .answering ⟨0xA0, .accepted,
        [.half r.code, .byte i, .full (r.price s.sesc.sessionSet)]⟩ false ∧
      t.sesc.pendingVend =
        some ⟨r.code, i, p.unit, p.turns, r.price s.sesc.sessionSet, false⟩ ∧
      t.sesc.inactivity = none ∧ t.sesc.credit = s.sesc.credit ∧ t.sesc.escrow = s.sesc.escrow ∧
      t.selt = s.selt ∧ t.chu.totals = s.chu.totals ∧
      (s.sesc.kind = .cash → s.sesc.escrow.isSome = true → t.sesc.phase = .stacking ∧ t.sdc = s.sdc ∧
        ((s.periph .bill).link = .online → (t.periph .bill).pending.escrow = some .stack)) ∧
      (s.sesc.kind = .cashless ∨ s.sesc.escrow = none → t.sesc.phase = .vending ∧
        (∃ e ∈ t.sdc.list, e.origin = .vend r.code i ∧ e.unit = p.unit ∧ e.turns = p.turns ∧
          e.allowance = s.settings.extraTurns) ∧
        (s.sdc.list = [] → s.sdc.seq = .idle → t.sdc.seq = .awaitPower ∧
          t.sdc.powerTimer = some 5000))

/-- The refusals of VEND, in the order of R34, with their bodies; one answered in CASH_CREDIT or
CASHLESS_READY restarts a running inactivity timer, and nothing else changes (R34). The bodies are as
notes/assumptions/10.md reads R195. -/
def Obligations.VendRefused : Prop :=
  ∀ (s : State) (code : Half), s.linkReady = true →
    let u : State := if s.sesc.phase = .cashCredit ∨ s.sesc.phase = .cashlessReady then
      s.restartInactivity else s
    (s.hli.doorOpen = true → exec (.vend 2 code) s = .next (u.answer 0x20 .doorOpen [])) ∧
    (s.hli.doorOpen = false →
      (findSel s.selt.table code.toNat = none →
        exec (.vend 2 code) s = .next (u.answer 0x20 .notFound [])) ∧
      ∀ r, findSel s.selt.table code.toNat = some r →
        (s.sesc.phase = .idle → exec (.vend 2 code) s =
          .next (s.answer 0x20 .noSession [.full (r.price s.selt.active)])) ∧
        (s.sesc.phase = .stacking ∨ s.sesc.phase = .vending ∨ s.sesc.phase = .paying →
          exec (.vend 2 code) s = .next (s.answer 0x20 .busy [])) ∧
        (s.sesc.phase = .cashCredit ∨ s.sesc.phase = .cashlessReady →
          (s.saleState r ≠ .active → exec (.vend 2 code) s =
            .next (u.answer 0x20 .notAvailable [.byte (s.saleState r).ctorIdx])) ∧
          (s.saleState r = .active →
            (s.sesc.available < r.price s.sesc.sessionSet → exec (.vend 2 code) s =
              .next (u.answer 0x20 .creditLow [.full (r.price s.sesc.sessionSet)])) ∧
            (r.price s.sesc.sessionSet ≤ s.sesc.available → s.sdc.curtain = .blocked →
              exec (.vend 2 code) s = .next (u.answer 0x20 .binBlocked [])))))

/-- CANCEL and the inactivity expiry in CASH_CREDIT: an escrow is given up with its BILL notice, the credit
is paid out from PAYING, a session without credit closes, and SESSION is updated (R43, R47, R98). Credit of
which no coin can be paid is reported unpaid at once, and the session stands in CASH_CREDIT again (R98, R105).
CANCEL is refused NO_SESSION in IDLE and in CASHLESS_READY, there with a running inactivity timer restarted
(R46), and BUSY in the other phases. A SERVICE
payout in AWAIT_POWER ends at once for the change payout, one that is EJECTING is marked to end and the
amount of the credit at this moment waits for it (R32, R107; notes/assumptions/31.md). The time an expiry
lets pass is the model's choice (notes/assumptions/3.md). -/
def Obligations.CashSessionEnds : Prop :=
  (∀ (s : State) (c : Instr) (b : State) (reason : BillReason), s.sesc.phase = .cashCredit →
    (c = .cancel 0 ∧ s.linkReady = true ∧ b = s ∧ reason = .cancelled) ∨
      (c = .inactivityExpiry ∧ s.power ≠ .off ∧
        (∃ d, s.sesc.inactivity = some d ∧ b = s.elapse d) ∧ reason = .timedOut) →
    ∃ t, exec c s = .next t ∧ t.sesc.escrow = none ∧ t.sesc.pendingVend = none ∧
      (s.sesc.escrow.isSome = true → ∃ r, (Notice.bill reason, r) ∈ t.hli.notices) ∧
      (∃ r, (Notice.session t.sesc.phase t.sesc.credit 0, r) ∈ t.hli.notices) ∧
      (s.sesc.credit = 0 → t.sesc.phase = .idle ∧ t.chu.payout = b.chu.payout) ∧
      (s.sesc.credit ≠ 0 → s.chu.payout.state = .ejecting → t.sesc.phase = .paying ∧
        t.sesc.credit = s.sesc.credit ∧ t.chu.payout = { b.chu.payout with
          endMark := true, due := s.sesc.credit.toNat }) ∧
      (s.sesc.credit ≠ 0 → s.chu.payout.state ≠ .ejecting →
        (planFor s.chu.tubes [] s.sesc.credit.toNat s.settings.coinLimit).1 ≠ [] →
        t.sesc.phase = .paying ∧ t.sesc.credit = s.sesc.credit ∧ t.chu.payout.state = .awaitPower ∧
        t.chu.payout.kind = .change ∧ t.chu.payout.amount = s.sesc.credit.toNat ∧
        t.chu.payout.plan =
          (planFor s.chu.tubes [] s.sesc.credit.toNat s.settings.coinLimit).1) ∧
      (s.sesc.credit ≠ 0 → s.chu.payout.state ≠ .ejecting →
        (planFor s.chu.tubes [] s.sesc.credit.toNat s.settings.coinLimit).1 = [] →
        t.sesc.phase = .cashCredit ∧ t.sesc.credit = s.sesc.credit ∧ t.chu.payout.state = .idle ∧
        t.load .payout = .none ∧
        ∃ r, (Notice.payout 0 s.sesc.credit.toNat 0, r) ∈ t.hli.notices) ∧
      (c = .cancel 0 → t.hli.slot = .answering ⟨0xA1, .accepted, []⟩ false) ∧
      t.selt = s.selt ∧ t.sdc = b.sdc ∧ t.chu.totals = s.chu.totals) ∧
  ∀ s : State, s.linkReady = true →
    (s.sesc.phase = .idle → exec (.cancel 0) s = .next (s.answer 0x21 .noSession [])) ∧
    (s.sesc.phase = .cashlessReady →
      exec (.cancel 0) s = .next (s.restartInactivity.answer 0x21 .noSession [])) ∧
    (s.sesc.phase = .stacking ∨ s.sesc.phase = .vending ∨ s.sesc.phase = .paying →
      exec (.cancel 0) s = .next (s.answer 0x21 .busy []))

/-- CASHLESS.OPEN opens a session in IDLE with the amount and the active set; CASHLESS.CLOSE and the
inactivity expiry settle it for 0 (R44, R45, R47, R33). Cash credit in it is then paid out: from PAYING,
behind a SERVICE payout that is EJECTING (notes/assumptions/31.md), or, where no coin can be paid, at once
with its PAYOUT notice and the session in CASH_CREDIT (R32, R33, R98, R105). OPEN is refused RANGE outside
1-60000 and SESSION_OPEN outside IDLE, CLOSE BUSY while the session's vend runs and NO_SESSION in every
other phase but CASHLESS_READY. The time an expiry lets pass is the model's choice
(notes/assumptions/3.md). -/
def Obligations.CashlessSession : Prop :=
  ∀ s : State,
    (∀ amount : Half, s.linkReady = true → s.sesc.phase = .idle → 1 ≤ amount.toNat →
      amount.toNat ≤ 60000 → ∃ t, exec (.cashlessOpen 2 amount) s = .next t ∧
        t.sesc = { s.sesc with
          phase := .cashlessReady, kind := .cashless, authorized := some amount.toNat,
          sessionSet := s.selt.active,
          inactivity := if s.settings.inactivityTime = 0 then none
            else some (s.settings.inactivityTime * 1000) } ∧
        t.hli.slot = .answering ⟨0xA2, .ok, []⟩ false ∧
        t = { s with sesc := t.sesc, hli := t.hli, chu := t.chu, cbm := t.cbm }) ∧
    (∀ amount : Half, s.linkReady = true → s.sesc.phase ≠ .idle → 1 ≤ amount.toNat →
      amount.toNat ≤ 60000 →
      exec (.cashlessOpen 2 amount) s = .next (s.answer 0x22 .sessionOpen [])) ∧
    (∀ amount : Half, s.linkReady = true → amount.toNat = 0 ∨ 60000 < amount.toNat →
      exec (.cashlessOpen 2 amount) s = .next (s.answer 0x22 .range [])) ∧
    (s.linkReady = true → s.sesc.phase ≠ .cashlessReady →
      exec (.cashlessClose 0) s = .next (s.answer 0x23
        (if s.sesc.phase = .vending ∧ s.sesc.kind = .cashless then .busy else .noSession) [])) ∧
    (∀ c : Instr, s.sesc.phase = .cashlessReady →
      (c = .cashlessClose 0 ∧ s.linkReady = true) ∨
        (c = .inactivityExpiry ∧ s.power ≠ .off ∧ s.sesc.inactivity.isSome = true) →
      ∃ t, exec c s = .next t ∧ t.sesc.authorized = none ∧ t.sesc.credit = s.sesc.credit ∧
        (∃ r, (Notice.cashlessSettle 0, r) ∈ t.hli.notices) ∧
        (s.sesc.credit = 0 → t.sesc.phase = .idle) ∧
        (s.sesc.credit ≠ 0 → s.chu.payout.state = .ejecting → t.sesc.phase = .paying ∧
          t.chu.payout.state = .ejecting ∧ t.chu.payout.endMark = true ∧
          t.chu.payout.due = s.sesc.credit.toNat) ∧
        (s.sesc.credit ≠ 0 → s.chu.payout.state ≠ .ejecting →
          let plan := (planFor s.chu.tubes [] s.sesc.credit.toNat s.settings.coinLimit).1
          (plan ≠ [] → t.sesc.phase = .paying ∧ t.chu.payout.state = .awaitPower ∧
            t.chu.payout.kind = .change ∧ t.chu.payout.amount = s.sesc.credit.toNat ∧
            t.chu.payout.plan = plan) ∧
          (plan = [] → t.sesc.phase = .cashCredit ∧ t.chu.payout.state = .idle ∧
            ∃ r, (Notice.payout 0 s.sesc.credit.toNat 0, r) ∈ t.hli.notices)) ∧
        (c = .cashlessClose 0 → t.hli.slot = .answering ⟨0xA3, .ok, []⟩ false) ∧
        t.selt = s.selt ∧ t.chu.totals = s.chu.totals)

/-! ### Drive work -/

/-- DRIVE.TEST with the door open and room on the list adds a TEST entry at the tail, one turn with no
allowance, and answers the number of entries ahead; an IDLE sequencer takes it at once (R52, R56). Its drive
unit is that of the position that owns the address when that is a twin pair, and the single motor otherwise
(R52); at most one position owns it in a table that keeps its law (R4). An address out of range, a closed
door and a list with seven TEST entries refuse it, in this order (R52). -/
def Obligations.TestQueued : Prop :=
  (∀ (s : State) (row col : Byte), s.linkReady = true →
    (7 < row.toNat ∨ 9 < col.toNat →
      exec (.driveTest 2 row col) s = .next (s.answer 0x28 .range [])) ∧
    (row.toNat ≤ 7 → col.toNat ≤ 9 →
      (s.hli.doorOpen = false →
        exec (.driveTest 2 row col) s = .next (s.answer 0x28 .doorClosed [])) ∧
      (s.hli.doorOpen = true → 7 ≤ s.testCount →
        exec (.driveTest 2 row col) s = .next (s.answer 0x28 .queueFull [])))) ∧
  ∀ (s : State) (row col : Byte), s.linkReady = true → row.toNat ≤ 7 → col.toNat ≤ 9 →
    s.hli.doorOpen = true → s.testCount < 7 →
    ∃ t e, exec (.driveTest 2 row col) s = .next t ∧
      t.hli.slot = .answering ⟨0xA8, .accepted, [.byte s.sdc.list.length]⟩ false ∧
      e.origin = .test row.toNat col.toNat ∧ e.turns = 1 ∧ e.allowance = 0 ∧ e.delivered = false ∧
      ((∀ r ∈ s.selt.table, ∀ p ∈ r.positions, (row.toNat, col.toNat) ∉ p.unit.addrs) →
        e.unit = ⟨row.toNat, col.toNat, false⟩) ∧
      (TableLaw s.selt.table → ∀ r ∈ s.selt.table, ∀ p ∈ r.positions,
        (row.toNat, col.toNat) ∈ p.unit.addrs →
        e.unit = if p.unit.twin then p.unit else ⟨row.toNat, col.toNat, false⟩) ∧
      (s.sdc.seq ≠ .idle → e.running = false ∧ t.sdc = { s.sdc with list := s.sdc.list ++ [e] }) ∧
      (s.sdc.seq = .idle → s.sdc.list = [] → e.running = true ∧ t.sdc = { s.sdc with
        list := [e], seq := .awaitPower, powerTimer := some 5000 }) ∧
      t.selt = s.selt ∧ t.sesc = s.sesc ∧ t.chu = s.chu

/-- The grant of SPIRAL in AWAIT_POWER, taken in its turn (R142; notes/assumptions/14.md), energizes the unit
of the RUNNING entry; an open home switch leads to TURNING at once. The home switch opens and closes as R59
and R60 state, and with no revolution left the motor goes off into SETTLING (R57 to R62). A current sample
reads floor(code × 2500 / 4095) mA and is counted; it ends the turn only as the third in a row above the jam
limit or at an open-motor window wholly below the open limit (R62, R63, R157). The time an expiry lets pass is
the model's choice (notes/assumptions/3.md), and that an energizing leaves no last sample for MEAS.READ is the
model's reading of R159 (notes/assumptions/29.md). -/
def Obligations.TurnGoesOn : Prop :=
  (∀ (s : State) (e : DriveEntry) (rest : List DriveEntry), s.power ≠ .off →
      s.sdc.list = e :: rest →
      (∀ homeOpen, s.sdc.seq = .awaitPower → (s.load .spiral).isGranted = true →
        s.inTurn .spiral = true →
        exec (.spiralGrant homeOpen) s = .next { s.tookGrant .spiral with
          msc := { s.msc with lastSample := none, sampleLeft := 10 }
          sdc := { s.sdc with
            list := { e with revolutions := 0 } :: rest
            energized := some e.unit
            powerTimer := none
            sampleCount := 0
            overCount := 0
            windowBelow := true
            seq := if homeOpen then .turning else .leavingHome
            leaveTimer := if homeOpen then none else some 1000
            turnTimer := if homeOpen then some 6000 else none } }) ∧
      (s.sdc.seq = .leavingHome → exec .homeSwitchOpens s = .next { s with
        sdc := { s.sdc with seq := .turning, leaveTimer := none, turnTimer := some 6000 } }) ∧
      (s.sdc.seq = .turning → e.delivered = false → e.extra = false → e.revolutions + 1 < e.turns →
        exec .homeSwitchCloses s = .next { s with
          sdc := { s.sdc with
            list := { e with revolutions := e.revolutions + 1 } :: rest
            seq := .leavingHome
            turnTimer := none
            leaveTimer := some 1000 } }) ∧
      (s.sdc.seq = .turning → e.delivered = false → e.extra = true ∨ e.turns ≤ e.revolutions + 1 →
        ∃ t, exec .homeSwitchCloses s = .next t ∧ t.sdc.seq = .settling ∧ t.sdc.energized = none ∧
          t.sdc.settleTimer = some s.settings.settleWindow ∧ t.sdc.turnTimer = none ∧
          t.sdc.list = { e with revolutions := e.revolutions + 1 } :: rest ∧
          t.load .spiral = .none ∧ t.selt = s.selt ∧ t.sesc = s.sesc ∧ t.chu = s.chu) ∧
      (∀ d, s.sdc.settleTimer = some d → 0 < e.allowance →
        ∃ t, exec .settleWindowExpiry s = .next t ∧ t.sdc.seq = .awaitPower ∧
          t.sdc.powerTimer = some 5000 ∧ t.sdc.settleTimer = none ∧
          t.sdc.list = { e with allowance := e.allowance - 1, extra := true, delivered := false } :: rest
          ∧ t.selt = s.selt ∧ t.chu.totals = s.chu.totals)) ∧
  (∀ (s : State) (u : DriveUnit) (code : AdcCode), s.power ≠ .off → s.sdc.energized = some u →
      let i := code.toNat * 2500 / 4095
      let n := s.sdc.sampleCount + 1
      let jam := if u.twin then 2 * s.settings.overcurrent else s.settings.overcurrent
      let opn := if u.twin then 2 * s.settings.openThreshold else s.settings.openThreshold
      i ≤ jam ∨ s.sdc.overCount < 2 → n ≠ 30 ∨ s.sdc.windowBelow = false ∨ opn ≤ i →
      ∃ t, exec (.currentSample code) s = .next t ∧
        t.msc = { (s.elapse s.msc.sampleLeft).msc with lastSample := some i, sampleLeft := 10 } ∧
        t.sdc = { (s.elapse s.msc.sampleLeft).sdc with
          sampleCount := n
          overCount := if jam < i then s.sdc.overCount + 1 else 0
          windowBelow := s.sdc.windowBelow && !(decide (10 ≤ n) && decide (n ≤ 30) && decide (opn ≤ i)) } ∧
        t = { s.elapse s.msc.sampleLeft with msc := t.msc, sdc := t.sdc })

/-- The events that end a RUNNING TEST entry, but for the power-fail warning (R71, of which
WarningStopsWork speaks), and the outcome of each: the unit is
de-energized, SPIRAL given back, the owning position updated and TEST_OUTCOME raised. With no entry behind it
the sequencer is IDLE with an empty list; the entry that stands behind it becomes RUNNING in the same event,
with no mark, no revolution and no extra turn, and the sequencer is in AWAIT_POWER with its 5 s timer, SPIRAL
asked for with the weight of the entry's unit, granted or waiting (R9, R56, R57, R59 to R63, R65 to R68, R70).
The time an expiry lets pass is the model's
choice (notes/assumptions/3.md). That a sample which fits both ends the turn JAMMED is the model's choice
(notes/assumptions/17.md). -/
def Obligations.TestEntryEnds : Prop :=
  ∀ (s b : State) (e : DriveEntry) (rest : List DriveEntry) (row col : Nat) (c : Instr)
    (o : DriveOutcome), s.power ≠ .off →
    s.sdc.list = e :: rest → e.origin = .test row col →
    let failed (x : DriveOutcome) : DriveOutcome := if e.delivered then .delivered else x
    (c = .powerTimerExpiry ∧ (∃ d, s.sdc.powerTimer = some d ∧ b = s.elapse d) ∧ o = .noPower) ∨
      (c = .leaveTimerExpiry ∧ (∃ d, s.sdc.leaveTimer = some d ∧ b = s.elapse d) ∧
        o = failed .jammed) ∨
      (c = .turnTimerExpiry ∧ (∃ d, s.sdc.turnTimer = some d ∧ b = s.elapse d) ∧
        o = failed .jammed) ∨
      (c = .settleWindowExpiry ∧ (∃ d, s.sdc.settleTimer = some d ∧ b = s.elapse d) ∧
        e.allowance = 0 ∧ o = .noDrop) ∨
      (c = .homeSwitchCloses ∧ s.sdc.seq = .turning ∧ e.delivered = true ∧ b = s ∧ o = .delivered) ∨
      (c = .curtainInterruptionBegins ∧ s.sdc.seq = .settling ∧ s.sdc.curtain = .clear ∧ b = s ∧
        o = .delivered) ∨
      (∃ u code, c = .currentSample code ∧ s.sdc.energized = some u ∧ b = s.elapse s.msc.sampleLeft ∧
        ((s.jamLimit u < currentOf code ∧ 2 ≤ s.sdc.overCount ∧ o = failed .jammed) ∨
          (currentOf code ≤ s.jamLimit u ∧ s.sdc.sampleCount = 29 ∧ s.sdc.windowBelow = true ∧
            currentOf code < s.openLimit u ∧ o = failed .openMotor))) →
    ∃ t, exec c s = .next t ∧ t.sdc.energized = none ∧ t.sdc.leaveTimer = none ∧
      t.sdc.turnTimer = none ∧ t.sdc.settleTimer = none ∧
      (rest = [] → t.sdc.list = [] ∧ t.sdc.seq = .idle ∧ t.sdc.powerTimer = none ∧
        t.load .spiral = .none) ∧
      (∀ n more, rest = n :: more →
        let w := if n.unit.twin then 2 * s.settings.spiralWeight else s.settings.spiralWeight
        t.sdc.list = { n with
          running := true, delivered := false, revolutions := 0, extra := false } :: more ∧
        t.sdc.seq = .awaitPower ∧ t.sdc.powerTimer = some 5000 ∧
        (t.load .spiral = .granted w ∨ t.load .spiral = .waiting w 0 false)) ∧
      t.selt = (s.seltTest row col o).selt ∧
      (∃ r, (Notice.testOutcome row col o, r) ∈ t.hli.notices) ∧ t.sesc = b.sesc ∧ t.chu = b.chu ∧
      t.settings = s.settings ∧ t.rst = s.rst

/-- The events that end a RUNNING VEND entry alone on the list, but for the power-fail warning (R71, of which
WarningStopsWork speaks), with the outcome of each (R57 to R68), and what follows. DELIVERED: the position is
updated, the price leaves the credit and raises cash_sales, or is settled for a CASHLESS session and raises
cashless_sales, and the result is reported (R8, R39, R66, R70). JAMMED, OPEN_MOTOR and NO_DROP mark the
position and, with failover on, the flag clear and another usable position, the vend goes on at that position
(R8, R40). NO_POWER, or a failure without failover, is reported without a charge: a CASH session stands in
CASH_CREDIT again, a CASHLESS one settles for 0 (R33, R41, R42). Credit left after a charge keeps a CASH
session in CASH_CREDIT with multi-vend on; without it, and for the cash left in a CASHLESS session that
settles, the credit is paid out: from PAYING, behind a SERVICE payout that is EJECTING
(notes/assumptions/31.md), or, where no coin can be paid, at once with its PAYOUT notice (R32, R33, R39,
R98, R105). The time an expiry lets pass is the model's
choice (notes/assumptions/3.md). That a sample which fits both ends the turn JAMMED is the model's choice
(notes/assumptions/17.md). -/
def Obligations.VendEnds : Prop :=
  ∀ (s : State) (e : DriveEntry) (v : PendingVend) (code i : Nat) (c : Instr) (o : DriveOutcome),
    s.power ≠ .off → s.sdc.list = [e] → e.origin = .vend code i → s.sesc.pendingVend = some v →
    let failed (x : DriveOutcome) : DriveOutcome := if e.delivered then .delivered else x
    (c = .powerTimerExpiry ∧ s.sdc.powerTimer.isSome = true ∧ o = .noPower) ∨
      (c = .leaveTimerExpiry ∧ s.sdc.leaveTimer.isSome = true ∧ o = failed .jammed) ∨
      (c = .turnTimerExpiry ∧ s.sdc.turnTimer.isSome = true ∧ o = failed .jammed) ∨
      (c = .settleWindowExpiry ∧ s.sdc.settleTimer.isSome = true ∧ e.allowance = 0 ∧ o = .noDrop) ∨
      (c = .homeSwitchCloses ∧ s.sdc.seq = .turning ∧ e.delivered = true ∧ o = .delivered) ∨
      (c = .curtainInterruptionBegins ∧ s.sdc.seq = .settling ∧ s.sdc.curtain = .clear ∧
        o = .delivered) ∨
      (∃ u k, c = .currentSample k ∧ s.sdc.energized = some u ∧
        ((s.jamLimit u < currentOf k ∧ 2 ≤ s.sdc.overCount ∧ o = failed .jammed) ∨
          (currentOf k ≤ s.jamLimit u ∧ s.sdc.sampleCount = 29 ∧ s.sdc.windowBelow = true ∧
            currentOf k < s.openLimit u ∧ o = failed .openMotor))) →
    let u := s.seltVend v.code v.index o
    let found := (findSel u.selt.table v.code).bind Selection.choose
    let failover : Prop := (o = .jammed ∨ o = .openMotor ∨ o = .noDrop) ∧
      s.settings.failover = true ∧ v.failoverUsed = false ∧ found.isSome = true
    let paysOut (t : State) : Prop :=
      let amount := t.sesc.credit.toNat
      let plan := (planFor s.chu.tubes [] amount s.settings.coinLimit).1
      (s.chu.payout.state = .ejecting → t.sesc.phase = .paying ∧ t.chu.payout.state = .ejecting ∧
        t.chu.payout.endMark = true ∧ t.chu.payout.due = amount) ∧
      (s.chu.payout.state ≠ .ejecting →
        (plan ≠ [] → t.sesc.phase = .paying ∧ t.chu.payout.state = .awaitPower ∧
          t.chu.payout.kind = .change ∧ t.chu.payout.amount = amount ∧ t.chu.payout.plan = plan) ∧
        (plan = [] → t.sesc.phase = .cashCredit ∧ t.chu.payout.state = .idle ∧
          ∃ r, (Notice.payout 0 amount 0, r) ∈ t.hli.notices))
    ∃ t, exec c s = .next t ∧ t.selt = u.selt ∧
      (o = .delivered → t.sesc.pendingVend = none ∧ t.sdc.list = [] ∧ t.sdc.seq = .idle ∧
        t.sdc.energized = none ∧
        (∃ r, (Notice.vendOutcome v.code v.index (.drive .delivered) v.price, r) ∈ t.hli.notices) ∧
        (s.sesc.kind = .cash →
          t.sesc.credit = s.sesc.credit - money v.price ∧
          t.chu.totals = { s.chu.totals with cashSales := s.chu.totals.cashSales + money v.price } ∧
          (t.sesc.credit = 0 → t.sesc.phase = .idle) ∧
          (t.sesc.credit ≠ 0 → s.settings.multiVend = true → t.sesc.phase = .cashCredit) ∧
          (t.sesc.credit ≠ 0 → s.settings.multiVend = false → paysOut t)) ∧
        (s.sesc.kind = .cashless →
          t.sesc.credit = s.sesc.credit ∧ t.sesc.authorized = none ∧
          t.chu.totals = { s.chu.totals with
            cashlessSales := s.chu.totals.cashlessSales + money v.price } ∧
          (∃ r, (Notice.cashlessSettle v.price, r) ∈ t.hli.notices) ∧
          (t.sesc.credit = 0 → t.sesc.phase = .idle) ∧ (t.sesc.credit ≠ 0 → paysOut t))) ∧
      (o ≠ .delivered → t.sesc.credit = s.sesc.credit ∧ t.chu.totals = s.chu.totals ∧
        t.sdc.energized = none ∧
        (failover → ∀ k p, found = some (k, p) →
          t.sesc.pendingVend = some { v with
            index := k, unit := p.unit, turns := p.turns, failoverUsed := true } ∧
          t.sesc.phase = s.sesc.phase ∧ t.sdc.seq = .awaitPower ∧
          t.sdc.list =
            [⟨.vend v.code k, p.unit, p.turns, s.settings.extraTurns, true, false, 0, false⟩]) ∧
        (¬failover → t.sesc.pendingVend = none ∧ t.sdc.list = [] ∧ t.sdc.seq = .idle ∧
          (∃ r, (Notice.vendOutcome v.code v.index (.drive o) 0, r) ∈ t.hli.notices) ∧
          (s.sesc.kind = .cash → t.sesc.phase = .cashCredit) ∧
          (s.sesc.kind = .cashless → t.sesc.authorized = none ∧
            (∃ r, (Notice.cashlessSettle 0, r) ∈ t.hli.notices) ∧
            (s.sesc.credit = 0 → t.sesc.phase = .idle) ∧ (s.sesc.credit ≠ 0 → paysOut t))))

/-- The drop curtain: the moves of R64's table and the first reading of R72, and what a drop event does by
the sequencer's state (R64, R65, R69, R72). The time an expiry lets pass is the model's choice
(notes/assumptions/3.md). What stands before the first reading is as notes/assumptions/11.md. -/
def Obligations.CurtainMoves : Prop :=
  ∀ s : State, s.power ≠ .off →
    (s.sdc.curtain = .clear → s.sdc.seq = .idle ∨ s.sdc.seq = .awaitPower →
      exec .curtainInterruptionBegins s = .next ({ s with sdc := { s.sdc with
        curtain := .interrupted, curtainRead := true, blockTimer := some 500 } }.raise
          .dropUnattributed)) ∧
    (∀ e rest, s.sdc.curtain = .clear → s.sdc.seq = .leavingHome ∨ s.sdc.seq = .turning →
      s.sdc.list = e :: rest → exec .curtainInterruptionBegins s = .next { s with sdc := { s.sdc with
        curtain := .interrupted, curtainRead := true, blockTimer := some 500,
        list := { e with delivered := true } :: rest } }) ∧
    (s.sdc.curtain ≠ .clear → exec .curtainInterruptionBegins s = .next s ∧
      exec .curtainInterruptionEnds s = .next { s with sdc := { s.sdc with
        curtain := .clear, curtainRead := true, blockTimer := none } }) ∧
    (∀ d, s.sdc.blockTimer = some d → exec .blockTimerExpiry s = .next { s.elapse d with
      sdc := { (s.elapse d).sdc with
        curtain := .blocked, curtainRead := true, blockTimer := none } }) ∧
    (s.sdc.curtainRead = false →
      exec (.curtainFirstReading true) s = .next { s with sdc := { s.sdc with
        curtain := .interrupted, curtainRead := true, blockTimer := some 500 } } ∧
      exec (.curtainFirstReading false) s = .next { s with sdc := { s.sdc with
        curtain := .clear, curtainRead := true, blockTimer := none } })

/-! ### Coins and tubes -/

/-- TUBE.DEFINE, TUBE.SET_COUNT, TUBE.ENABLE and TUBE.DISABLE write the tube, then the route map and the
exact-change flag follow; no other tube, no total and no session record changes (R74, R75, R76, R84,
R96). Their refusals, in the order of the rules, change nothing. The answer's body, the tube's record without
its classes and with its optional fields, is the model's reading (notes/assumptions/10.md). A route map that
differs from the last one handed stands in the ROUTE_MAP slot of an ONLINE coin validator (R122); with none
handed since power-on it counts as differing, the model's choice (notes/assumptions/27.md). -/
def Obligations.TubeWrites : Prop :=
  (∀ (s : State) (i : Byte) (x : Tube), s.linkReady = true → s.tube i.toNat = some x →
    s.chu.payout.state = .idle →
    let wrote (t : State) (x' : Tube) (code : Nat) (st : Status) : Prop :=
      t.chu.tubes = modifyAt (fun _ => x') i.toNat s.chu.tubes ∧
      t.hli.slot = .answering ⟨code, st, x'.fields⟩ false ∧ t.chu.lastMap = some t.routeMap ∧
      t.chu.exactChange = exactFlag t.chu.tubes t.chu.probes t.settings.coinLimit ∧
      MapHanded s t ∧ OnlySlotsChange s t ∧
      (∀ p, (t.periph p).pending.acceptMask = (s.periph p).pending.acceptMask) ∧
      t.sesc = s.sesc ∧ t.chu.totals = s.chu.totals ∧ t.chu.bills = s.chu.bills ∧
      t.sdc = s.sdc ∧ t.selt = s.selt ∧ t.lba = s.lba
    (∀ (denom : Half) (capacity lowMark : Byte), denom.toNat ≤ 5000 →
      denom.toNat = 0 ∨ (1 ≤ capacity.toNat ∧ lowMark.toNat ≤ capacity.toNat) →
      x.count = 0 ∨ (∃ a, x.assign = some a ∧ a.denom = denom.toNat ∧ a.capacity = capacity.toNat ∧
        a.denom ≠ 0) →
      ∃ t, exec (.tubeDefine 5 i denom capacity lowMark) s = .next t ∧
        wrote t { x with
          assign := if denom.toNat = 0 then none
            else some ⟨denom.toNat, capacity.toNat, lowMark.toNat⟩
          state := if denom.toNat = 0 then .disabled
            else if x.assign = none then .ok else x.state } 0xB0 .ok ∧
        t.chu.coins = s.chu.coins.map fun c =>
          if c.tube = some i.toNat ∧ (c.value ≠ denom.toNat ∨ denom.toNat = 0) then
            { c with tube := none } else c) ∧
    ∀ a, x.assign = some a →
      (∀ n : Half, n.toNat ≤ 255 → s.hli.doorOpen = true →
        ∃ t, exec (.tubeSetCount 3 i n) s = .next t ∧
          wrote t { x with count := min n.toNat a.capacity } 0xB1
            (if n.toNat ≤ a.capacity then .ok else .clamped) ∧ t.chu.coins = s.chu.coins) ∧
      (∃ t, exec (.tubeEnable 1 i) s = .next t ∧ wrote t { x with state := .ok } 0xB2 .ok ∧
        t.chu.coins = s.chu.coins) ∧
      ∃ t, exec (.tubeDisable 1 i) s = .next t ∧ wrote t { x with state := .disabled } 0xB3 .ok ∧
        t.chu.coins = s.chu.coins) ∧
  ∀ (s : State) (i : Byte), s.linkReady = true →
    (∀ denom : Half, ∀ capacity lowMark : Byte,
      let asked : Option TubeAssign := if denom.toNat = 0 then none
        else some ⟨denom.toNat, capacity.toNat, lowMark.toNat⟩
      let inRange := denom.toNat ≤ 5000 ∧
        (denom.toNat = 0 ∨ (1 ≤ capacity.toNat ∧ lowMark.toNat ≤ capacity.toNat))
      (s.tube i.toNat = none ∨ ¬inRange →
        exec (.tubeDefine 5 i denom capacity lowMark) s = .next (s.answer 0x30 .range [])) ∧
      ∀ x, s.tube i.toNat = some x → inRange →
        (s.chu.payout.state ≠ .idle →
          exec (.tubeDefine 5 i denom capacity lowMark) s = .next (s.answer 0x30 .busy [])) ∧
        (s.chu.payout.state = .idle → 0 < x.count →
          x.assign.map TubeAssign.denom ≠ asked.map TubeAssign.denom ∨
            x.assign.map TubeAssign.capacity ≠ asked.map TubeAssign.capacity →
          exec (.tubeDefine 5 i denom capacity lowMark) s = .next (s.answer 0x30 .notEmpty []))) ∧
    (∀ n : Half, (s.tube i.toNat).bind Tube.assign = none ∨ 255 < n.toNat →
      exec (.tubeSetCount 3 i n) s = .next (s.answer 0x31 .range [])) ∧
    ((s.tube i.toNat).bind Tube.assign = none →
      exec (.tubeEnable 1 i) s = .next (s.answer 0x32 .range []) ∧
      exec (.tubeDisable 1 i) s = .next (s.answer 0x33 .range [])) ∧
    ((s.tube i.toNat).bind Tube.assign ≠ none →
      (∀ n : Half, n.toNat ≤ 255 →
        (s.hli.doorOpen = false →
          exec (.tubeSetCount 3 i n) s = .next (s.answer 0x31 .doorClosed [])) ∧
        (s.hli.doorOpen = true → s.chu.payout.state ≠ .idle →
          exec (.tubeSetCount 3 i n) s = .next (s.answer 0x31 .busy []))) ∧
      (s.chu.payout.state ≠ .idle →
        exec (.tubeEnable 1 i) s = .next (s.answer 0x32 .busy []) ∧
        exec (.tubeDisable 1 i) s = .next (s.answer 0x33 .busy [])))

/-- CLASS.SET and BILL.SET write a class and hand the route map and the masks of the new state. A class number
out of range, and for CLASS.SET a tube outside 0-5, one unassigned or one of another denomination than the
class's value, are refused RANGE and change nothing (R81, R82, R84, R85). A map or mask that differs from the
last one handed stands in its slot of an ONLINE validator (R122); with none handed since power-on it counts as
differing, the model's choice (notes/assumptions/27.md). -/
def Obligations.ClassWrites : Prop :=
  ∀ (s : State) (cls : Byte) (enabled : Bool), s.linkReady = true →
    (∀ (tube : Option Byte) (c : CoinClass), s.chu.coins[cls.toNat]? = some c →
      tube = none ∨ (∃ i x a, tube = some i ∧ s.tube i.toNat = some x ∧ x.assign = some a ∧
        a.denom = c.value) →
      ∃ t, exec (.classSet 3 cls enabled tube) s = .next t ∧
        t.chu = { s.chu with
          coins := modifyAt (fun _ => ⟨c.value, enabled, tube.map BitVec.toNat⟩) cls.toNat s.chu.coins
          lastMap := some t.routeMap
          lastCoinMask := some t.coinMask
          lastBillMask := some t.billMask } ∧
        MapHanded s t ∧ MasksHanded s t ∧ OnlySlotsChange s t ∧
        (∃ body, t.hli.slot = .answering ⟨0xB5, .ok, body⟩ false) ∧
        t = { s with chu := t.chu, cbm := t.cbm, hli := t.hli }) ∧
    (∀ (i : Byte) (c : CoinClass), s.chu.coins[cls.toNat]? = some c →
      s.tube i.toNat = none ∨ (∃ x, s.tube i.toNat = some x ∧ x.assign = none) ∨
        (∃ x a, s.tube i.toNat = some x ∧ x.assign = some a ∧ a.denom ≠ c.value) →
      exec (.classSet 3 cls enabled (some i)) s = .next (s.answer 0x35 .range [])) ∧
    (∀ tube : Option Byte, s.chu.coins[cls.toNat]? = none →
      exec (.classSet 3 cls enabled tube) s = .next (s.answer 0x35 .range [])) ∧
    (∀ b : BillClass, s.chu.bills[cls.toNat]? = some b →
      ∃ t, exec (.billSet 2 cls enabled) s = .next t ∧
        t.chu = { s.chu with
          bills := modifyAt (fun _ => ⟨b.value, enabled⟩) cls.toNat s.chu.bills
          lastCoinMask := some t.coinMask
          lastBillMask := some t.billMask } ∧
        MasksHanded s t ∧ OnlySlotsChange s t ∧
        (t.periph .coin).pending.routeMap = (s.periph .coin).pending.routeMap ∧
        t.hli.slot = .answering ⟨0xB6, .ok, [.full b.value, .flag enabled]⟩ false ∧
        t = { s with chu := t.chu, cbm := t.cbm, hli := t.hli }) ∧
    (s.chu.bills[cls.toNat]? = none →
      exec (.billSet 2 cls enabled) s = .next (s.answer 0x36 .range []))

/-- TOTALS.READ answers the seven totals and the credit and changes nothing; TOTALS.CLEAR sets all seven
to 0 in IDLE, and is refused SESSION_OPEN in every other phase (R89). -/
def Obligations.TotalsReadAndClear : Prop :=
  ∀ s : State, s.linkReady = true →
    exec (.totalsRead 0) s = .next (s.answer 0x38 .ok
      [.full s.chu.totals.coinsIn.toNat, .full s.chu.totals.billsIn.toNat,
        .full s.chu.totals.cashSales.toNat, .full s.chu.totals.changePaid.toNat,
        .full s.chu.totals.cashlessSales.toNat, .full s.chu.totals.overpaid.toNat,
        .full s.chu.totals.servicePaid.toNat, .full s.sesc.credit.toNat]) ∧
    (s.sesc.phase = .idle → exec (.totalsClear 0) s =
      .next ({ s with chu := { s.chu with totals := ⟨0, 0, 0, 0, 0, 0, 0⟩ } }.answer 0x39 .ok [])) ∧
    (s.sesc.phase ≠ .idle → ∃ body, exec (.totalsClear 0) s = .next (s.answer 0x39 .sessionOpen body))

/-- A level switch that reads anew sets its field; a full switch that becomes ACTIVE lifts a count below
the capacity to it, a low switch that becomes LOW brings a count above the low mark down to it, and a
correction raises TUBE with RECONCILED; an unassigned tube takes the field alone. The route map follows each
change, with or without a correction, also while a payout runs (R77, R78, R84); with none handed since
power-on it counts as differing from the last one handed, the model's choice (notes/assumptions/27.md). A
switch that reads as its field stands changes nothing. -/
def Obligations.LevelSwitches : Prop :=
  ∀ (s : State) (i : Fin 6) (x : Tube), s.power ≠ .off → s.tube i.val = some x →
    (∀ active : Bool, x.full = (if active then .active else .clear) →
      exec (.fullSwitchChange i active) s = .next s) ∧
    (∀ low : Bool, x.low = (if low then .low else .notLow) →
      exec (.lowSwitchChange i low) s = .next s) ∧
    (x.assign = none →
      (∀ active : Bool, x.full ≠ (if active then .active else .clear) →
        ∃ t, exec (.fullSwitchChange i active) s = .next t ∧
          t.chu.tubes = modifyAt (fun _ =>
            { x with full := if active then .active else .clear }) i.val s.chu.tubes ∧
          t.chu.lastMap = some t.routeMap ∧ MapHanded s t ∧ OnlySlotsChange s t ∧
          t = { s with chu := t.chu, cbm := t.cbm }) ∧
      (∀ low : Bool, x.low ≠ (if low then .low else .notLow) →
        ∃ t, exec (.lowSwitchChange i low) s = .next t ∧
          t.chu.tubes = modifyAt (fun _ =>
            { x with low := if low then .low else .notLow }) i.val s.chu.tubes ∧
          t.chu.lastMap = some t.routeMap ∧ MapHanded s t ∧ OnlySlotsChange s t ∧
          t = { s with chu := t.chu, cbm := t.cbm })) ∧
    ∀ a : TubeAssign, x.assign = some a →
    (∀ active : Bool, x.full ≠ (if active then .active else .clear) →
      ∃ t, exec (.fullSwitchChange i active) s = .next t ∧
        t.chu.tubes = modifyAt (fun _ => { x with
          full := if active then .active else .clear
          count := if active = true ∧ x.count < a.capacity then a.capacity else x.count }) i.val
            s.chu.tubes ∧
        (active = true → x.count < a.capacity → ∃ r,
          (Notice.tube i.val x.state a.capacity .reconciled none, r) ∈ t.hli.notices) ∧
        t.chu.lastMap = some t.routeMap ∧ MapHanded s t ∧ t.chu.payout = s.chu.payout ∧
        t.sesc = s.sesc ∧ t.chu.totals = s.chu.totals) ∧
    (∀ low : Bool, x.low ≠ (if low then .low else .notLow) →
      ∃ t, exec (.lowSwitchChange i low) s = .next t ∧
        t.chu.tubes = modifyAt (fun _ => { x with
          low := if low then .low else .notLow
          count := if low = true ∧ a.lowMark < x.count then a.lowMark else x.count }) i.val
            s.chu.tubes ∧
        (low = true → a.lowMark < x.count → ∃ r,
          (Notice.tube i.val x.state a.lowMark .reconciled none, r) ∈ t.hli.notices) ∧
        t.chu.lastMap = some t.routeMap ∧ MapHanded s t ∧ t.chu.payout = s.chu.payout ∧
        t.sesc = s.sesc ∧ t.chu.totals = s.chu.totals)

/-! ### Payouts -/

/-- A plan pays what the amount asks but for the shortfall, with no more coins than the limit, from usable
tubes not excluded and within their counts, and no tube twice (R91, R92, R93). Which plan it is: the usable
tubes stand by denomination, highest first, then by number; each gives in turn as many coins as fit the rest
of the amount, its count and the rest of the coin limit (R92). When that leaves a rest, the first tube that
gave a coin and whose candidate with one coin less leaves none gives the plan, the tubes after it giving
anew; with no such tube the first pass stands (R93). -/
def Obligations.PlansAreSound : Prop :=
  ∀ (tubes : List Tube) (excluded : List Nat) (d m : Nat),
    (∀ t ∈ tubes, ∀ a, t.assign = some a → 0 < a.denom) →
    let plan := planFor tubes excluded d m
    (planValue plan.1 + plan.2 = d ∧ (plan.1.map PlanEntry.remaining).sum ≤ m ∧
      (plan.1.map PlanEntry.tube).Nodup ∧
      ∀ e ∈ plan.1, 0 < e.remaining ∧ e.tube ∉ excluded ∧
        ∃ t a, tubes[e.tube]? = some t ∧ t.assign = some a ∧ t.state = .ok ∧ a.denom = e.denom ∧
          e.remaining ≤ t.count) ∧
    let xs := sourcesOf tubes excluded
    let paid (ks : List Nat) (j : Nat) : Nat := (((xs.take j).zip ks).map fun q => q.2 * q.1.denom).sum
    let greedyAt (ks : List Nat) (j : Nat) : Prop := ∀ x, xs[j]? = some x →
      ks[j]? = some (min (min ((d - paid ks j) / x.denom) x.count) (m - (ks.take j).sum))
    let entries (ks : List Nat) : List PlanEntry := (xs.zip ks).filterMap fun q =>
      if q.2 = 0 then none else some ⟨q.1.tube, q.1.denom, q.2⟩
    xs.Pairwise (fun x y => y.denom < x.denom ∨ (x.denom = y.denom ∧ x.tube < y.tube)) ∧
    (∀ x, x ∈ xs ↔ ∃ t a, tubes[x.tube]? = some t ∧ t.assign = some a ∧ t.state = .ok ∧
      0 < t.count ∧ x.tube ∉ excluded ∧ x.denom = a.denom ∧ x.count = t.count) ∧
    ∃ first : List Nat, first.length = xs.length ∧ (∀ j, greedyAt first j) ∧
      (paid first xs.length = d → plan = (entries first, 0)) ∧
      (paid first xs.length ≠ d →
        let candidate (j : Nat) (ks : List Nat) : Prop := ks.length = xs.length ∧
          (∀ i, i < j → ks[i]? = first[i]?) ∧ (∃ k, first[j]? = some (k + 1) ∧ ks[j]? = some k) ∧
          ∀ i, j < i → greedyAt ks i
        (∀ j ks, candidate j ks → paid ks xs.length = d →
          (∀ i ks', i < j → candidate i ks' → paid ks' xs.length ≠ d) → plan = (entries ks, 0)) ∧
        ((∀ j ks, candidate j ks → paid ks xs.length ≠ d) →
          plan = (entries first, d - paid first xs.length)))

/-- PAYOUT.TEST starts a SERVICE payout of one tube, or with no coin to pay ends it in its event with a
PAYOUT notice; a tube number above 5 or of an unassigned tube and a coin count outside 1-99 are refused RANGE,
a closed door DOOR_CLOSED and a running payout BUSY, in this order. PROBE.SET writes the four probes, each clamped to 60000, and evaluates the exact-change
flag (R95, R96, R99). -/
def Obligations.ServiceAndProbes : Prop :=
  (∀ (s : State) (i n : Byte), s.linkReady = true →
    let a := (s.tube i.toNat).bind Tube.assign
    (a = none ∨ n.toNat = 0 ∨ 99 < n.toNat →
      exec (.payoutTest 2 i n) s = .next (s.answer 0x40 .range [])) ∧
    (a ≠ none → 1 ≤ n.toNat → n.toNat ≤ 99 →
      (s.hli.doorOpen = false →
        exec (.payoutTest 2 i n) s = .next (s.answer 0x40 .doorClosed [])) ∧
      (s.hli.doorOpen = true → s.chu.payout.state ≠ .idle →
        exec (.payoutTest 2 i n) s = .next (s.answer 0x40 .busy [])))) ∧
  ∀ s : State, s.linkReady = true → s.chu.payout.state = .idle →
    (∀ (i n : Byte) (x : Tube) (a : TubeAssign), s.tube i.toNat = some x → x.assign = some a →
      1 ≤ n.toNat → n.toNat ≤ 99 → s.hli.doorOpen = true →
      let k := min (min n.toNat x.count) s.settings.coinLimit
      ∃ t, exec (.payoutTest 2 i n) s = .next t ∧
        t.hli.slot = .answering ⟨0xC0, .accepted, []⟩ false ∧ t.sesc = s.sesc ∧
        t.chu.tubes = s.chu.tubes ∧ t.chu.totals = s.chu.totals ∧
        (0 < k → t.chu.payout = { s.chu.payout with
          state := .awaitPower, kind := .service, amount := n.toNat * a.denom,
          plan := [⟨i.toNat, a.denom, k⟩], limit := s.settings.coinLimit, confirmed := 0, paid := 0,
          overpaid := 0, excluded := [], pulseNumber := 1, window := none, counted := false,
          pulse := none, endMark := false } ∧ t.load .payout ≠ .none) ∧
        (k = 0 → t.chu.payout.state = .idle ∧
          ∃ r, (Notice.payout 0 (n.toNat * a.denom) 0, r) ∈ t.hli.notices)) ∧
    ∀ p1 p2 p3 p4 : Half, ∃ t, exec (.probeSet 8 p1 p2 p3 p4) s = .next t ∧
      t.chu.probes = ⟨min p1.toNat 60000, min p2.toNat 60000, min p3.toNat 60000,
        min p4.toNat 60000⟩ ∧
      t.chu.exactChange = exactFlag s.chu.tubes t.chu.probes s.settings.coinLimit ∧
      t.hli.slot = .answering ⟨0xC1,
        if p1.toNat ≤ 60000 ∧ p2.toNat ≤ 60000 ∧ p3.toNat ≤ 60000 ∧ p4.toNat ≤ 60000 then .ok
          else .clamped,
        [.full t.chu.probes.p1, .full t.chu.probes.p2, .full t.chu.probes.p3, .full t.chu.probes.p4,
          .flag t.chu.exactChange]⟩ false ∧
      t = { s with chu := t.chu, hli := t.hli }

/-- The grant of PAYOUT, taken in its turn (R142; notes/assumptions/14.md), and the windows without a count: a
pulse of 40 ms opens a window of 400 ms, the next pulse of the coin follows at the window's end, and the third
window without a count marks the tube JAMMED and ends a SERVICE payout (R100, R101, R103, R105). A CHANGE
payout is planned anew then, for the value unpaid with the coins still allowed and without the jammed tube,
and goes on with the new plan's first pulse or ends (R104). With its last coin paid a payout ends at the
window's end, its load given back, PAYOUT updated and, for CHANGE, the session in CASH_CREDIT or IDLE (R105);
a coin paid with entries behind it is followed by the next entry's pulse (R101). A marked SERVICE payout hands
its grant to the change payout of the amount that waits for it (R107; notes/assumptions/31.md). The time an
expiry lets pass is the model's choice (notes/assumptions/3.md). -/
def Obligations.PayoutPulses : Prop :=
  ∀ (s : State) (e : PlanEntry) (rest : List PlanEntry), s.power ≠ .off →
    s.chu.payout.plan = e :: rest →
    (s.chu.payout.state = .awaitPower → (s.load .payout).isGranted = true → s.inTurn .payout = true →
      exec .payoutGrant s = .next { s.tookGrant .payout with chu := { s.chu with payout := { s.chu.payout with
        state := .ejecting, pulseNumber := 1, window := some ⟨e.tube, 400⟩, counted := false,
        pulse := some 40, lastPulsed := some e.tube } } }) ∧
    (∀ d, s.chu.payout.pulse = some d → exec .pulseEnd s = .next { s.elapse d with
      chu := { s.chu with payout := { (s.elapse d).chu.payout with pulse := none } } }) ∧
    (∀ w, s.chu.payout.window = some w → s.chu.payout.counted = false →
      (s.chu.payout.pulseNumber < 3 → s.chu.payout.endMark = false →
        exec .exitWindowExpiry s = .next { s.elapse w.left with
          chu := { s.chu with payout := { s.chu.payout with
            pulseNumber := s.chu.payout.pulseNumber + 1, window := some ⟨e.tube, 400⟩,
            counted := false, pulse := some 40, lastPulsed := some e.tube } } }) ∧
      (s.chu.payout.pulseNumber = 3 → s.chu.payout.kind = .service →
        s.chu.payout.endMark = false → ∃ t, exec .exitWindowExpiry s = .next t ∧
          t.chu.payout.state = .idle ∧ t.chu.payout.window = none ∧ t.load .payout = .none ∧
          t.chu.tubes = modifyAt (fun x => { x with state := .jammed }) w.tube s.chu.tubes ∧
          (∃ r, (Notice.payout s.chu.payout.paid (s.chu.payout.amount - s.chu.payout.paid)
            s.chu.payout.overpaid, r) ∈ t.hli.notices) ∧ t.chu.totals = s.chu.totals)) ∧
    (∀ w, s.chu.payout.window = some w → s.chu.payout.counted = true → 0 < e.remaining →
      s.chu.payout.endMark = false → exec .exitWindowExpiry s = .next { s.elapse w.left with
        chu := { s.chu with payout := { s.chu.payout with
          pulseNumber := 1, window := some ⟨e.tube, 400⟩, counted := false, pulse := some 40,
          lastPulsed := some e.tube } } }) ∧
    let p := s.chu.payout
    let ended (t : State) : Prop := t.chu.payout.state = .idle ∧ t.chu.payout.window = none ∧
      t.chu.payout.pulse = none ∧ t.chu.payout.lastPulsed = p.lastPulsed ∧ t.load .payout = .none ∧
      t.chu.exactChange = exactFlag t.chu.tubes t.chu.probes t.settings.coinLimit ∧
      ∃ r, (Notice.payout p.paid (p.amount - p.paid) p.overpaid, r) ∈ t.hli.notices
    let moved (t : State) : Prop :=
      t.sesc.phase = (if s.sesc.credit = 0 then .idle else .cashCredit) ∧
      t.sesc.credit = s.sesc.credit
    (∀ w, p.window = some w → p.counted = false → p.pulseNumber = 3 → p.kind = .change →
      let tubes := modifyAt (fun x => { x with state := .jammed }) w.tube s.chu.tubes
      let excluded := if p.excluded.contains w.tube then p.excluded else p.excluded ++ [w.tube]
      let plan := (planFor tubes excluded (planValue p.plan) (p.limit - p.confirmed)).1
      ∃ t, exec .exitWindowExpiry s = .next t ∧ t.chu.tubes = tubes ∧
        t.chu.totals = s.chu.totals ∧
        (∀ f more, plan = f :: more → t.sesc = (s.elapse w.left).sesc ∧ t.chu.payout = { p with
          plan := plan, excluded := excluded, pulseNumber := 1, window := some ⟨f.tube, 400⟩,
          counted := false, pulse := some 40, lastPulsed := some f.tube }) ∧
        (plan = [] → ended t ∧ moved t)) ∧
    (∀ w, p.window = some w → p.counted = true → e.remaining = 0 → p.endMark = false →
      (rest = [] → ∃ t, exec .exitWindowExpiry s = .next t ∧ ended t ∧
        t.chu.tubes = s.chu.tubes ∧ t.chu.totals = s.chu.totals ∧ (p.kind = .change → moved t) ∧
        (p.kind = .service → t.sesc = (s.elapse w.left).sesc)) ∧
      ∀ f more, rest = f :: more → exec .exitWindowExpiry s = .next { s.elapse w.left with
        chu := { s.chu with payout := { p with
          plan := rest, pulseNumber := 1, window := some ⟨f.tube, 400⟩, counted := false,
          pulse := some 40, lastPulsed := some f.tube } } }) ∧
    ∀ w h f more, p.window = some w → p.counted = true ∨ p.pulseNumber < 3 → p.kind = .service →
      p.endMark = true → s.load .payout = .granted h →
      (planFor s.chu.tubes [] p.due s.settings.coinLimit).1 = f :: more →
      ∃ t, exec .exitWindowExpiry s = .next t ∧ t.load .payout = .granted h ∧
        t.sesc = (s.elapse w.left).sesc ∧ t.chu.tubes = s.chu.tubes ∧
        t.chu.totals = s.chu.totals ∧
        (∃ r, (Notice.payout p.paid (p.amount - p.paid) p.overpaid, r) ∈ t.hli.notices) ∧
        t.chu.payout = { p with
          state := .ejecting, kind := .change, amount := p.due, plan := f :: more,
          limit := s.settings.coinLimit, confirmed := 0, paid := 0, overpaid := 0, excluded := [],
          pulseNumber := 1, window := some ⟨f.tube, 400⟩, counted := false, pulse := some 40,
          lastPulsed := some f.tube, endMark := false, due := 0 }

/-- An exit count in the window is a coin of the window's tube: with coins due it is confirmed and paid
from the credit, or counted as service_paid, and beyond the plan it is overpaid; a late count is overpaid
from the last-pulsed tube. The tube's count falls by one (R25, R102, R106). -/
def Obligations.ExitCounts : Prop :=
  ∀ (s : State), s.power ≠ .off →
    (∀ w e rest, s.chu.payout.window = some w → s.chu.payout.plan = e :: rest →
      ∃ t, exec .exitCount s = .next t ∧
        t.chu.tubes = modifyAt (fun x => { x with count := x.count - 1 }) w.tube s.chu.tubes ∧
        t.sdc = s.sdc ∧ t.selt = s.selt ∧ t.sesc.phase = s.sesc.phase ∧
        (0 < e.remaining →
          t.chu.payout = { s.chu.payout with
            plan := { e with remaining := e.remaining - 1 } :: rest
            confirmed := s.chu.payout.confirmed + 1
            paid := s.chu.payout.paid + e.denom
            counted := true } ∧
          (s.chu.payout.kind = .change → t.sesc.credit = s.sesc.credit - money e.denom ∧
            t.chu.totals = { s.chu.totals with
              changePaid := s.chu.totals.changePaid + money e.denom }) ∧
          (s.chu.payout.kind = .service → t.sesc = s.sesc ∧
            t.chu.totals = { s.chu.totals with
              servicePaid := s.chu.totals.servicePaid + money e.denom })) ∧
        (e.remaining = 0 → t.sesc = s.sesc ∧
          t.chu.payout = { s.chu.payout with
            overpaid := s.chu.payout.overpaid + e.denom, counted := true } ∧
          t.chu.totals = { s.chu.totals with
            overpaid := s.chu.totals.overpaid + money e.denom })) ∧
    ∀ i x a, s.chu.payout.window = none → s.chu.payout.lastPulsed = some i → s.tube i = some x →
      x.assign = some a → ∃ t, exec .exitCount s = .next t ∧
        t.chu.tubes = modifyAt (fun x => { x with count := x.count - 1 }) i s.chu.tubes ∧
        t.chu.totals = { s.chu.totals with overpaid := s.chu.totals.overpaid + money a.denom } ∧
        t.sesc = s.sesc ∧ t.chu.payout = s.chu.payout ∧ t.sdc = s.sdc ∧ t.selt = s.selt

/-! ### The Cash Bus -/

/-- A slot on an idle bus: an outstanding frame is sent again; with none the first command of the pending
set in the order of R122, or POLL, becomes the outstanding frame at attempt 1; a peripheral not ONLINE is
probed when its probe is due. The next slot is the other peripheral's, 50 ms on. A slot during an exchange
waits, and at the end of the exchange the first late slot that starts one is served as a slot on an idle bus
is (R113, R122, R123, R126). The end of a master frame opens a reply window of 10 ms (R115);
CASHBUS.RESET queues RESET for an ONLINE peripheral and makes the probe of another one due, as its probe
time running down does; an address other than 3 or 5 is refused RANGE (R125, R126). The time an expiry lets
pass is the model's choice (notes/assumptions/3.md). Slots that come during an exchange wait in order
(notes/assumptions/19.md). -/
def Obligations.SlotsServed : Prop :=
  (∀ (s : State) (p : Peripheral), s.power ≠ .off → s.cbm.nextSlot = p →
      let b := s.elapse s.cbm.slotLeft
      let q := (s.periph p).pending
      ∃ t, exec .serveSlot s = .next t ∧ t = { b with cbm := t.cbm } ∧ t.cbm.slotLeft = 50 ∧
        t.cbm.nextSlot = otherPeriph p ∧
        t.periph (otherPeriph p) = b.periph (otherPeriph p) ∧
        (s.cbm.bus ≠ .idle → t.cbm.bus = b.cbm.bus ∧ t.cbm.late = s.cbm.late ++ [p] ∧
          t.periph p = b.periph p) ∧
        (s.cbm.bus = .idle → t.cbm.late = s.cbm.late ∧
          ((s.periph p).link ≠ .online → t.periph p = b.periph p ∧
            t.cbm.bus = (if (s.periph p).probeTime ≤ s.cbm.slotLeft then .sending p .reset true
              else .idle)) ∧
          ((s.periph p).link = .online →
            (∀ o, (s.periph p).outstanding = some o → t.periph p = b.periph p ∧
              t.cbm.bus = .sending p o.message false) ∧
            ((s.periph p).outstanding = none →
              let m : Message :=
                if q.reset then .reset
                else if q.escrow = some .stack then .escrowStack
                else if q.escrow = some .giveBack then .escrowReturn
                else if q.setup then .setup
                else if q.routeMap.isSome then .routeMap (q.routeMap.getD 0)
                else if q.acceptMask.isSome then .acceptMask (q.acceptMask.getD 0)
                else .poll
              t.cbm.bus = .sending p m false ∧ (t.periph p).outstanding = some ⟨m, 1⟩ ∧
              (m = .poll → (t.periph p).pending = q) ∧
              (m = .reset → (t.periph p).pending = { q with reset := false }) ∧
              (m = .escrowStack → (t.periph p).pending = { q with escrow := none }) ∧
              (m = .escrowReturn → (t.periph p).pending = { q with escrow := none }) ∧
              (m = .setup → (t.periph p).pending = { q with setup := false }) ∧
              (∀ k, m = .routeMap k → (t.periph p).pending = { q with routeMap := none }) ∧
              (∀ k, m = .acceptMask k → (t.periph p).pending = { q with acceptMask := none }))))) ∧
  (∀ s : State,
      (∀ p m probe, s.power ≠ .off → s.cbm.bus = .sending p m probe →
        exec .masterFrameSent s =
          .next { s with cbm := { s.cbm with bus := .awaiting p m probe 10 [] } }) ∧
      (∀ p, s.linkReady = true → (s.periph p).link = .online →
        exec (.cashbusReset 1 (BitVec.ofNat 8 (addressOf p))) s = .next ((s.setPeriph p
          { s.periph p with pending := { (s.periph p).pending with reset := true } }).answer 0x48 .ok
            [])) ∧
      (∀ p, s.linkReady = true → (s.periph p).link ≠ .online →
        exec (.cashbusReset 1 (BitVec.ofNat 8 (addressOf p))) s = .next ((s.setPeriph p
          { s.periph p with probeTime := 0 }).answer 0x48 .ok [])) ∧
      (∀ a : Byte, s.linkReady = true → a.toNat ≠ 3 → a.toNat ≠ 5 →
        exec (.cashbusReset 1 a) s = .next (s.answer 0x48 .range [])) ∧
      (∀ p, s.power ≠ .off → (s.periph p).link ≠ .online → ∃ t,
        exec (.probeTimeExpiry p) s = .next t ∧ t = s.elapse (s.periph p).probeTime ∧
          (t.periph p).probeTime = 0) ∧
      (∀ p, s.power ≠ .off → s.cbm.bus = .confirming p → s.cbm.late = [] →
        exec .confirmationSent s = .next { s with cbm := { s.cbm with bus := .idle } }) ∧
      (∀ p q rest, s.power ≠ .off → s.cbm.bus = .confirming q → s.cbm.late = p :: rest →
        ((s.periph p).link = .online ∨ (s.periph p).probeTime = 0 →
          ∃ t v, exec .confirmationSent s = .next t ∧
            exec .serveSlot { s with cbm := { s.cbm with
              bus := .idle, late := [], nextSlot := p, slotLeft := 0 } } = .next v ∧
            t.cbm = { v.cbm with
              late := rest, nextSlot := s.cbm.nextSlot, slotLeft := s.cbm.slotLeft } ∧
            t = { s with cbm := t.cbm }) ∧
        ((s.periph p).link ≠ .online → (s.periph p).probeTime ≠ 0 →
          exec .confirmationSent s =
            exec .confirmationSent { s with cbm := { s.cbm with late := rest } })))

/-- A reply window without a reply, a reply cut off, NAK and a bad reply fail the attempt: the frame is sent
again until its third failure makes the peripheral OFFLINE, with what it held cleared and PERIPHERAL raised,
and for the bill validator a stack fails (R37); a failed probe starts the probe time anew (R115, R124, R126),
also behind a CASHBUS.RESET taken while it was on the bus, the model's choice (notes/assumptions/42.md). The
time an expiry lets pass is the model's choice (notes/assumptions/3.md). -/
def Obligations.AttemptsFail : Prop :=
  ∀ (s b : State) (c : Instr) (p : Peripheral) (m : Message) (probe : Bool) (left : Nat)
    (got : List (Option Byte)), s.power ≠ .off → s.cbm.bus = .awaiting p m probe left got → s.cbm.late = [] →
    (c = .replyWindowExpiry ∧ got = [] ∧ b = s.elapse left) ∨
      ((c = .replyGapExpiry ∨ c = .nak ∨ c = .badReply) ∧ b = s) →
    ∃ t, exec c s = .next t ∧ t.cbm.bus = .idle ∧ t.cbm.nextSlot = s.cbm.nextSlot ∧
      (∀ o, probe = false → (s.periph p).outstanding = some o → o.attempt < 3 →
        t.periph p = { b.periph p with outstanding := some { o with attempt := o.attempt + 1 } } ∧
        t = { b with cbm := t.cbm }) ∧
      (∀ o, probe = false → (s.periph p).outstanding = some o → 3 ≤ o.attempt →
        t.periph p = { b.periph p with
          link := .offline, outstanding := none, pending := PendingSet.empty, stackWatch := none,
          resetExpected := false, probeTime := 2000 } ∧
        (∃ r, (Notice.peripheral p false 0, r) ∈ t.hli.notices) ∧
        (p = .bill → s.sesc.phase = .stacking → t.sesc.escrow = none ∧ t.sesc.pendingVend = none ∧
          t.sesc.phase = (if s.sesc.credit = 0 then .idle else .cashCredit) ∧
          t.sesc.credit = s.sesc.credit ∧
          ∃ r, (Notice.bill .validatorLost, r) ∈ t.hli.notices)) ∧
      (probe = true → (s.periph p).link = .unknown →
        t.periph p = { b.periph p with link := .offline, probeTime := 2000 } ∧
        (∃ r, (Notice.peripheral p false 0, r) ∈ t.hli.notices)) ∧
      (probe = true → (s.periph p).link = .offline →
        t.periph p = { b.periph p with probeTime := 2000 } ∧ t = { b with cbm := t.cbm })

/-- ACK: of a probe the peripheral comes ONLINE with its set-up commands queued; of ESCROW_STACK the stack
watch starts; of a RESET the pending set is emptied and the set-up queued anew, and a stack or an escrow of
the bill validator is lost, a vend of it ending ESCROW_FAULT uncharged (R37); of another command the
frame ends alone; in answer to SETUP or POLL it is a bad reply (R115, R117, R121, R125, R126). -/
def Obligations.AckEffects : Prop :=
  ∀ (s : State) (p : Peripheral) (m : Message) (probe : Bool) (left : Nat)
    (got : List (Option Byte)), s.power ≠ .off → s.cbm.bus = .awaiting p m probe left got → s.cbm.late = [] →
    let setUp (t : State) : Prop := (t.periph p).pending.setup = true ∧
      (t.periph p).pending.acceptMask = some (t.maskOf p) ∧
      (p = .coin → (t.periph p).pending.routeMap = some t.routeMap) ∧
      (t.periph p).resetExpected = true
    (probe = true → ∃ t, exec .ack s = .next t ∧ (t.periph p).link = .online ∧ setUp t ∧
      t.cbm.bus = .idle ∧ (∃ r, (Notice.peripheral p true 0, r) ∈ t.hli.notices) ∧
      t.sesc = s.sesc ∧ t.sdc = s.sdc) ∧
    ∀ o, probe = false → (s.periph p).outstanding = some o →
      (m = .reset → (s.periph p).link = .online → ∃ t, exec .ack s = .next t ∧ setUp t ∧
        (t.periph p).outstanding = none ∧
        (t.periph p).pending.reset = false ∧ (t.periph p).pending.escrow = none ∧
        (t.periph p).stackWatch = none ∧ t.cbm.bus = .idle ∧ t.chu.totals = s.chu.totals ∧
        (p = .coin → t.sesc = s.sesc) ∧
        (p = .bill →
          (s.sesc.phase = .stacking ∨ s.sesc.phase = .cashCredit ∧ s.sesc.escrow.isSome = true →
            t.sesc.escrow = none ∧ t.sesc.credit = s.sesc.credit ∧
            t.sesc.phase = (if s.sesc.credit = 0 then .idle else .cashCredit) ∧
            ∃ r, (Notice.bill .validatorLost, r) ∈ t.hli.notices) ∧
          (s.sesc.phase = .stacking → t.sesc.pendingVend = none ∧ t.selt = s.selt ∧
            ∀ v, s.sesc.pendingVend = some v →
              ∃ r, (Notice.vendOutcome v.code v.index .escrowFault 0, r) ∈ t.hli.notices) ∧
          (s.sesc.phase ≠ .stacking → s.sesc.phase ≠ .cashCredit ∨ s.sesc.escrow = none →
            t.sesc = s.sesc))) ∧
      (m = .escrowStack → exec .ack s = .next { s with cbm := { (s.cbm.set p
        { s.periph p with outstanding := none, stackWatch := some 10000 }) with bus := .idle } }) ∧
      (m = .escrowReturn ∨ (∃ k, m = .routeMap k) ∨ (∃ k, m = .acceptMask k) →
        exec .ack s = .next { s with cbm := { (s.cbm.set p
          { s.periph p with outstanding := none }) with bus := .idle } }) ∧
      (m = .setup ∨ m = .poll → exec .ack s = exec .badReply s)

/-- A SETUP reply taken as good writes the class values and is confirmed; a POLL reply taken as good has its
frame ended and its events done one after another, and is confirmed; a reply that is not good fails as a bad
reply does (R116, R118, R119, R124). BILL_RETURNED, DEVICE_FAULT and JUST_RESET: the stack watch stops; a
stack under way fails with its BILL and VEND_OUTCOME notices and the vend ends without a charge; an escrow
held in CASH_CREDIT is lost to a bill returned or a validator restarted; an unasked restart queues the
set-up anew, an expected one changes nothing (R31, R37, R121, R127, R128). The expiry of the stack watch takes
the bill validator OFFLINE with the same loss (R121, R124). The time an expiry lets pass is the model's choice
(notes/assumptions/3.md). The reply's event does its work before the confirmation is sent
(notes/assumptions/20.md), and a map or a mask counts as differing with none handed since power-on
(notes/assumptions/27.md). -/
def Obligations.RepliesTaken : Prop :=
  (∀ (s : State) (p : Peripheral) (left : Nat) (got : List (Option Byte)) (o : Outstanding)
    (chars : List Byte), s.power ≠ .off →
    (s.periph p).outstanding = some o →
    (s.cbm.bus = .awaiting p .setup false left got →
      (∀ vs, setupValuesOf chars = some vs → ∃ t, exec (.setupReply chars) s = .next t ∧
        t.cbm.bus = .confirming p ∧ (t.periph p).outstanding = none ∧
        (p = .bill → t.chu.bills = writeBillValues s.chu.bills vs ∧ t.chu.coins = s.chu.coins) ∧
        (p = .coin → t.chu.coins.map CoinClass.value =
          (writeCoinValues s.chu.coins vs).map CoinClass.value ∧ t.chu.bills = s.chu.bills) ∧
        t.chu.lastCoinMask = some t.coinMask ∧ t.chu.lastBillMask = some t.billMask ∧
        t.chu.lastMap = some t.routeMap ∧ t.sesc = s.sesc ∧ t.chu.totals = s.chu.totals) ∧
      (setupValuesOf chars = none → exec (.setupReply chars) s = exec .badReply s)) ∧
    (s.cbm.bus = .awaiting p .poll false left got →
      (pollEventsOf chars = some [] → exec (.pollReply chars) s = .next { s with
        cbm := { (s.cbm.set p { s.periph p with outstanding := none, resetExpected := false }) with
          bus := .confirming p } }) ∧
      (∀ es, pollEventsOf chars = some es → ∃ t, exec (.pollReply chars) s = .next t ∧
        (let begun : State := { s with
          cbm := { (s.cbm.set p { s.periph p with outstanding := none }) with bus := .confirming p } }
        let done := busEvents p es begun
        t = done.setPeriph p { done.periph p with resetExpected := false }) ∧
        t.cbm.bus = .confirming p ∧ (t.periph p).outstanding = none ∧
        (t.periph p).resetExpected = false) ∧
      (pollEventsOf chars = none → exec (.pollReply chars) s = exec .badReply s))) ∧
  let stackLost (s t : State) (why : BillReason) : Prop := s.sesc.phase = .stacking →
    t.sesc.escrow = none ∧ t.sesc.pendingVend = none ∧ t.sesc.credit = s.sesc.credit ∧
    t.sesc.phase = (if s.sesc.credit = 0 then .idle else .cashCredit) ∧
    (∃ r, (Notice.bill why, r) ∈ t.hli.notices) ∧
    ∀ v, s.sesc.pendingVend = some v →
      ∃ r, (Notice.vendOutcome v.code v.index .escrowFault 0, r) ∈ t.hli.notices
  let escrowLost (s t : State) (why : BillReason) : Prop :=
    s.sesc.phase = .cashCredit → s.sesc.escrow.isSome = true →
    t.sesc.escrow = none ∧ t.sesc.credit = s.sesc.credit ∧
    t.sesc.phase = (if s.sesc.credit = 0 then .idle else .cashCredit) ∧
    ∃ r, (Notice.bill why, r) ∈ t.hli.notices
  let kept (s t : State) : Prop :=
    t.chu.totals = s.chu.totals ∧ t.selt = s.selt ∧ t.sdc.list = s.sdc.list ∧
    (s.sesc.phase ≠ .stacking → s.sesc.phase ≠ .cashCredit ∨ s.sesc.escrow = none →
      t.sesc = { s.sesc with inactivity := t.sesc.inactivity })
  (∀ (s : State) (p : Peripheral) (left : Nat) (got : List (Option Byte)) (o : Outstanding)
    (chars : List Byte), s.power ≠ .off →
    (s.periph p).outstanding = some o → s.cbm.bus = .awaiting p .poll false left got →
    (p = .bill → pollEventsOf chars = some [.billReturned] →
      ∃ t, exec (.pollReply chars) s = .next t ∧ (t.periph .bill).stackWatch = none ∧
        stackLost s t .validatorReturned ∧ escrowLost s t .validatorReturned ∧ kept s t) ∧
    (∀ code, pollEventsOf chars = some [.deviceFault code] →
      ∃ t, exec (.pollReply chars) s = .next t ∧ (t.periph p).lastFault = code ∧
        (t.periph p).stackWatch = none ∧ (t.periph p).link = (s.periph p).link ∧
        (∃ r, (Notice.peripheral p true code, r) ∈ t.hli.notices) ∧
        (p = .bill → stackLost s t .validatorLost) ∧
        (p = .coin ∨ s.sesc.phase ≠ .stacking → t.sesc = s.sesc) ∧ kept s t) ∧
    (pollEventsOf chars = some [.justReset] →
      ((s.periph p).resetExpected = true → exec (.pollReply chars) s = .next { s with
        cbm := { (s.cbm.set p { s.periph p with outstanding := none, resetExpected := false }) with
          bus := .confirming p } }) ∧
      ((s.periph p).resetExpected = false → (s.periph p).link = .online →
        ∃ t, exec (.pollReply chars) s = .next t ∧ (t.periph p).pending.setup = true ∧
          (t.periph p).pending.acceptMask = some (t.maskOf p) ∧
          (t.periph p).pending.escrow = none ∧ (t.periph p).stackWatch = none ∧
          (p = .coin → (t.periph p).pending.routeMap = some t.routeMap ∧ t.sesc = s.sesc) ∧
          (∃ r, (Notice.peripheral p true 0, r) ∈ t.hli.notices) ∧
          (p = .bill → stackLost s t .validatorLost ∧ escrowLost s t .validatorLost) ∧ kept s t))) ∧
  ∀ (s : State) (d : Nat), s.power ≠ .off → (s.periph .bill).stackWatch = some d →
    ∃ t, exec .stackWatchExpiry s = .next t ∧
      (t.periph .bill).link = .offline ∧ (t.periph .bill).stackWatch = none ∧
      (t.periph .bill).pending = PendingSet.empty ∧ (t.periph .bill).outstanding = none ∧
      (∃ r, (Notice.peripheral .bill false 0, r) ∈ t.hli.notices) ∧
      stackLost s t .validatorLost ∧ escrowLost s t .validatorLost ∧ kept s t

/-- Money arriving by POLL replies: a coin of a used class raises coins_in and the credit and opens a
session in IDLE with the active set; a bill is kept or sent back with its reason; a stacked bill raises
bills_in and the credit and the vend goes on (R29, R30, R36, R86, R87, R119). Each event of a reply is done
in its turn (notes/assumptions/6.md). -/
def Obligations.MoneyArrives : Prop :=
  ∀ (s : State) (left : Nat) (got : List (Option Byte)) (o : Outstanding)
    (chars : List Byte), s.power ≠ .off →
    (∀ k toTube c, (s.periph .coin).outstanding = some o →
      s.cbm.bus = .awaiting .coin .poll false left got →
      pollEventsOf chars = some [.coinAccepted k toTube] → s.chu.coins[k]? = some c → c.value ≠ 0 →
      ∃ t, exec (.pollReply chars) s = .next t ∧ t.sesc.credit = s.sesc.credit + money c.value ∧
        t.chu.totals = { s.chu.totals with coinsIn := s.chu.totals.coinsIn + money c.value } ∧
        (s.sesc.phase = .idle → t.sesc.phase = .cashCredit ∧ t.sesc.kind = .cash ∧
          t.sesc.sessionSet = s.selt.active) ∧
        (s.sesc.phase ≠ .idle → t.sesc.phase = s.sesc.phase) ∧
        (∀ i x a, toTube = true → c.tube = some i → s.tube i = some x → x.assign = some a →
          x.count < a.capacity → t.tube i = some { x with count := x.count + 1 }) ∧
        (toTube = false ∨ c.tube = none → t.chu.tubes = s.chu.tubes)) ∧
    (∀ k b, (s.periph .bill).outstanding = some o → s.cbm.bus = .awaiting .bill .poll false left got →
      pollEventsOf chars = some [.billEscrowed k] → s.chu.bills[k]? = some b →
      ∃ t, exec (.pollReply chars) s = .next t ∧ t.sesc.credit = s.sesc.credit ∧
        t.chu.totals = s.chu.totals ∧
        (s.billRefusal b = none → t.sesc.escrow = some ⟨k, b.value⟩ ∧ t.sesc.phase = .cashCredit) ∧
        (∀ why, s.billRefusal b = some why → t.sesc.escrow = s.sesc.escrow ∧
          t.sesc.phase = s.sesc.phase ∧ (∃ r, (Notice.bill why, r) ∈ t.hli.notices) ∧
          ((s.periph .bill).link = .online → (s.periph .bill).pending.escrow ≠ some .stack →
            (t.periph .bill).pending.escrow = some .giveBack))) ∧
    (∀ e v, (s.periph .bill).outstanding = some o → s.cbm.bus = .awaiting .bill .poll false left got →
      pollEventsOf chars = some [.billStacked] → s.sesc.phase = .stacking →
      s.sesc.escrow = some e → s.sesc.pendingVend = some v →
      ∃ t, exec (.pollReply chars) s = .next t ∧ t.sesc.credit = s.sesc.credit + money e.value ∧
        t.chu.totals = { s.chu.totals with billsIn := s.chu.totals.billsIn + money e.value } ∧
        t.sesc.phase = .vending ∧ t.sesc.escrow = none ∧
        (∃ d ∈ t.sdc.list, d.origin = .vend v.code v.index ∧ d.unit = v.unit))

/-! ### The load budget -/

/-- A grant pass never takes a grant from SPIRAL, PAYOUT or DAMPER, gives no load that did not ask, and
leaves the sum held within the effective budget or no grant to revoke (R142, R143); a pass that ends over the
budget has granted nothing. The wait order holds the waiting loads, HIGH and promoted ones first, each level
by load number (R140). A waiting load is granted exactly when it fits what the loads before it in that order
have left of the budget and no promoted load before it was left waiting (R142). The grants of one pass are
handed in the order made: they stand as one list behind those of earlier passes, a grant is in its turn when
no grant made before it in its pass is untaken, taking it takes it off its list, and a grant command whose
turn has not come changes nothing. That grants of different passes are taken in either order, and what a
command out of its turn does, is the model's choice (notes/assumptions/14.md). -/
def Obligations.GrantPass : Prop :=
  (∀ s : State, BudgetLaw s.grantPass ∧
    (∀ l, s.load l = .none → s.grantPass.load l = .none) ∧
    (∀ l w, l ≠ .compressor → l ≠ .defrost → s.load l = .granted w →
      s.grantPass.load l = .granted w) ∧
    (∀ l w x p, s.load l = .waiting w x p →
      s.grantPass.load l = .granted w ∨ s.grantPass.load l = .waiting w x p) ∧
    (s.grantPass.budget < s.grantPass.sumHeld → ∀ l w, s.grantPass.load l = .granted w →
      s.load l = .granted w)) ∧
  (∀ s : State, s.sumHeld ≤ s.budget →
    let first (l : Load) : Prop :=
      s.settings.priority l = .high ∨ ∃ w x, s.load l = .waiting w x true
    let order := waitOrder s.settings s.lba.loads
    (∀ l, l ∈ order ↔ ∃ w x p, s.load l = .waiting w x p) ∧
    order.Pairwise (fun l k =>
      (first l ∧ ¬first k) ∨ ((first l ↔ first k) ∧ l.ctorIdx < k.ctorIdx)) ∧
    (∀ before l after w x p, order = before ++ l :: after → s.load l = .waiting w x p →
      (s.grantPass.load l = .granted w ↔
        (∀ k ∈ before, ∀ w' x', s.load k = .waiting w' x' true →
          (s.grantPass.load k).isGranted = true) ∧
        s.sumHeld + (before.map fun k => (s.grantPass.load k).held).sum + w ≤ s.budget)) ∧
    (HandingLaw s →
      let made := order.filter fun l => (s.grantPass.load l).isGranted
      s.grantPass.lba.untaken = s.lba.untaken ++ (if made = [] then [] else [made]))) ∧
  ∀ (s : State) (l : Load),
    (s.inTurn l = true ↔ ∀ pass ∈ s.lba.untaken, l ∈ pass → pass.head? = some l) ∧
    (s.tookGrant l).lba.untaken =
      (s.lba.untaken.map fun pass => pass.filter (· ≠ l)).filter (· ≠ []) ∧
    (s.inTurn l = false →
      (l = .spiral → ∀ homeOpen, exec (.spiralGrant homeOpen) s = .next s) ∧
      (l = .payout → exec .payoutGrant s = .next s) ∧
      (l = .compressor → exec .compressorGrant s = .next s) ∧
      (l = .defrost → exec .defrostGrant s = .next s) ∧
      (l = .damper → exec .damperGrant s = .next s))

/-- A VDRIVE value sets the band by the edges and rise thresholds of R134 while the warning is not asserted,
with SUPPLY raised on a change, and is only recorded while it is (R134, R135). A load that has waited the
promote time is promoted or granted (R141). The time an expiry lets pass is the model's choice
(notes/assumptions/3.md). A value handed waits for its owner (notes/assumptions/23.md). -/
def Obligations.BandAndPromotion : Prop :=
  (∀ (s : State) (mv : Nat), s.power ≠ .off → s.msc.handedVdrive = some mv →
    ∃ t, exec .vdriveValue s = .next t ∧ t.lba.vdrive = some mv ∧ t.msc.handedVdrive = none ∧
      (s.lba.pfw = true → t.lba = { s.lba with vdrive := some mv }) ∧
      (s.lba.pfw = false → t.lba.band =
        (if mv < 18000 then .zero
        else if mv < 20400 then (if s.lba.band = .zero ∧ mv < 18300 then .zero else .half)
        else if mv < 21600 then
          (if (s.lba.band = .zero ∨ s.lba.band = .half) ∧ mv < 20700 then .half else .reduced)
        else if s.lba.band = .full ∨ 21900 ≤ mv then .full else .reduced) ∧
        (t.lba.band ≠ s.lba.band → ∃ r, (Notice.supply t.lba.band, r) ∈ t.hli.notices)) ∧
      t.sesc = s.sesc ∧ t.sdc = s.sdc ∧ t.chu = s.chu ∧ t.selt = s.selt) ∧
  ∀ (s : State) (l : Load) (w x : Nat), s.power ≠ .off → s.load l = .waiting w x false →
    s.settings.priority l = .normal → ∃ t, exec (.promotion l) s = .next t ∧
      (t.load l = .granted w ∨ t.load l = .waiting w (max x (s.settings.promoteTime * 1000)) true) ∧
      t.sesc = (s.elapse (s.settings.promoteTime * 1000 - x)).sesc ∧ t.selt = s.selt

/-! ### Measurement -/

/-- Thermistor codes are sorted by the bounds of R151, converted between the breakpoints of the table by
the interpolation of R152, and a higher code never reads warmer.
Filing: the first good sample makes a channel VALID at its value; a later one takes the place of the oldest of
the ring, whose average, rounded toward warm, is the value; a fault sample makes it SENSOR_FAULT
without a value, its ring kept; the fourth good sample in a row makes it VALID again, at the average of
the four rounded toward warm (R153, R154). -/
def Obligations.SamplesFiled : Prop :=
  ((∀ c : AdcCode, (4056 ≤ c.toNat → sampleOf c = .fault .opened) ∧
      (c.toNat < 40 → sampleOf c = .fault .short) ∧
      (40 ≤ c.toNat → c.toNat < 4056 → ∃ t, sampleOf c = .good t ∧ -400 ≤ t ∧ t ≤ 600)) ∧
    (∀ (k : Fin 16) (c : AdcCode) (ck tk cn tn : Int), thermistorTable[k.val]? = some (ck, tk) →
      thermistorTable[k.val + 1]? = some (cn, tn) → cn ≤ c.toNat → (c.toNat : Int) < ck →
      sampleOf c = .good (tk + ((ck - c.toNat) * (tn - tk)) / (ck - cn))) ∧
    ∀ (c d : AdcCode) (t u : Int), c.toNat ≤ d.toNat → sampleOf c = .good t → sampleOf d = .good u →
      u ≤ t) ∧
  ((∀ (c : Channel) (k : AdcCode) (t : Int), sampleOf k = .good t → c.state = .notMeasured →
      (c.file k).state = .valid ∧ (c.file k).value = some t) ∧
    (∀ (c : Channel) (r : Ring) (k : AdcCode) (t : Int), sampleOf k = .good t → c.state = .valid →
      c.ring = some r → ∃ v, c.file k = ⟨.valid, some ⟨r.r1, r.r2, r.r3, t⟩, some v, none, 0, some k⟩ ∧
        r.r1 + r.r2 + r.r3 + t ≤ 4 * v ∧ 4 * v < r.r1 + r.r2 + r.r3 + t + 4) ∧
    (∀ (c : Channel) (k : AdcCode) (f : SensorFault), sampleOf k = .fault f →
      c.file k = { c with
        state := .sensorFault, fault := some f, goodCount := 0, value := none, lastCode := some k }) ∧
    ∀ (c : Channel) (k1 k2 k3 k4 : AdcCode) (t1 t2 t3 t4 : Int), c.state = .sensorFault →
      c.value = none → c.goodCount = 0 → sampleOf k1 = .good t1 → sampleOf k2 = .good t2 → sampleOf k3 = .good t3 →
      sampleOf k4 = .good t4 →
      let three := ((c.file k1).file k2).file k3
      three.state = .sensorFault ∧ three.value = none ∧ (three.file k4).state = .valid ∧
      ∃ v, (three.file k4).value = some v ∧ t1 + t2 + t3 + t4 ≤ 4 * v ∧ 4 * v < t1 + t2 + t3 + t4 + 4)

/-- A pass whose VREF code lies in 1950-2146 is used: every channel's code is filed, VDRIVE converted as
floor(code × 30000 / 4095) and handed, and every channel hands its value or its fault. Another one is
discarded: it counts toward the reference fault and neither files nor hands, but that the 120th in a row
faults every channel and hands the faults. A fault of the evaporator channel raises REFRIG (R148 to R150, R155,
R158). The time an
expiry lets pass is the model's choice (notes/assumptions/3.md). The codes come with the command, and a
value handed waits for its owner (notes/assumptions/13.md, 23.md). -/
def Obligations.PassEnds : Prop :=
  let handed (c : Channel) (h : Option Handed) : Prop :=
    (c.state = .valid → ∃ v, c.value = some v ∧ h = some (.value v)) ∧
    (c.state = .sensorFault → h = some .fault) ∧ c.state ≠ .notMeasured
  let handedAll (m : Msc) : Prop :=
    handed m.channels.th1 m.handed.th1 ∧ handed m.channels.th2 m.handed.th2 ∧
    handed m.channels.th3 m.handed.th3 ∧ handed m.channels.thEvap m.handed.thEvap ∧
    handed m.channels.thAmb m.handed.thAmb
  ∀ (s : State) (p : PassCodes), s.power ≠ .off → ∃ t, exec (.passEnd p) s = .next t ∧
    t.msc.vrefCode = p.vref ∧ t.msc.passLeft = 500 ∧ t.msc.buffer = none ∧
    (1950 ≤ p.vref.toNat ∧ p.vref.toNat ≤ 2146 →
      t.msc.refFault = false ∧ t.msc.failCount = 0 ∧
      t.msc.vdrive = some (p.vdrive.toNat * 30000 / 4095) ∧
      t.msc.handedVdrive = some (p.vdrive.toNat * 30000 / 4095) ∧
      t.msc.channels = ⟨s.msc.channels.th1.file p.th1, s.msc.channels.th2.file p.th2,
        s.msc.channels.th3.file p.th3, s.msc.channels.thEvap.file p.thEvap,
        s.msc.channels.thAmb.file p.thAmb⟩ ∧
      handedAll t.msc ∧
      (s.msc.refFault = true → s.msc.channels.thEvap.state = t.msc.channels.thEvap.state →
        ∃ r, (Notice.refrig .measClear none, r) ∈ t.hli.notices)) ∧
    (p.vref.toNat < 1950 ∨ 2146 < p.vref.toNat →
      t.msc.refFault = true ∧ t.msc.failCount = min 120 (s.msc.failCount + 1) ∧
      t.msc.vdrive = s.msc.vdrive ∧ t.msc.handedVdrive = s.msc.handedVdrive ∧
      (s.msc.failCount ≠ 119 → t.msc.channels = s.msc.channels ∧ t.msc.handed = s.msc.handed) ∧
      (s.msc.failCount = 119 → t.msc.channels.th1.state = .sensorFault ∧
        t.msc.channels.th2.state = .sensorFault ∧ t.msc.channels.th3.state = .sensorFault ∧
        t.msc.channels.thEvap.state = .sensorFault ∧ t.msc.channels.thAmb.state = .sensorFault ∧
        handedAll t.msc)) ∧
    (s.msc.channels.thEvap.state ≠ .sensorFault → t.msc.channels.thEvap.state = .sensorFault →
      ∃ k r, t.msc.channels.thEvap.fault = some k ∧
        (Notice.refrig .evapFault (some k), r) ∈ t.hli.notices) ∧
    t = { s.elapse s.msc.passLeft with msc := t.msc, hli := t.hli }

/-! ### Zones -/

/-- ZONE.SET writes the six fields, each clamped to its range; turning a zone OFF clears its exposure and
closes its damper target, and a held zone is not turned OFF; CLAMPED says that a value lay outside its range.
That the two-byte fields but the threshold are signed is the model's reading (notes/assumptions/9.md), and so
is CLAMPED where the clamped values leave every field as it was (notes/assumptions/38.md). A zone turned
CHILLED starts on its temperature as it stands, and one that stays CHILLED with a value computes its target
afresh on a write of setpoint or differential. The two bytes of each setting in the answers are the model's
choice (notes/assumptions/10.md). ZONE.CLEAR_HOLD ends a hold and the exposure with the door open and the zone
cool enough. The refusals of both change nothing (R161, R162, R163, R165, R170, R172). -/
def Obligations.ZoneWrites : Prop :=
  ∀ (s : State) (z : ZoneNo), s.linkReady = true →
    (∀ (q : ZoneReq) (m : ZoneMode), zoneNoOf q.zone.toNat = some z → q.mode = some m →
      ((s.zone z).hold.isSome = true → m = .off →
        exec (.zoneSet 12 q) s = .next (s.answer 0x60 .held [])) ∧
      ((s.zone z).hold = none ∨ m = .chilled → ∃ t, exec (.zoneSet 12 q) s = .next t ∧
        (t.zone z).cfg = ⟨m, clampInt (-20) 120 q.setpoint.toInt, clampInt 5 50 q.differential.toInt,
          clampInt 30 150 q.safetyLimit.toInt, (clampInt 1 65535 q.holdThreshold.toNat).toNat,
          clampInt 0 50 q.allowance.toInt⟩ ∧
        (t.zone z).temp = (s.zone z).temp ∧
        t.hli.slot = .answering ⟨0xE0,
          if (-20 ≤ q.setpoint.toInt ∧ q.setpoint.toInt ≤ 120) ∧
            (5 ≤ q.differential.toInt ∧ q.differential.toInt ≤ 50) ∧
            (30 ≤ q.safetyLimit.toInt ∧ q.safetyLimit.toInt ≤ 150) ∧ 1 ≤ q.holdThreshold.toNat ∧
            0 ≤ q.allowance.toInt ∧ q.allowance.toInt ≤ 50 then .ok else .clamped,
          (t.zone z).fields⟩ false ∧
        ((s.zone z).cfg.mode = .chilled → m = .off → (t.zone z).exposure = 0 ∧
          (t.zone z).target = .closed ∧ (t.zone z).hold = none) ∧
        (m = .chilled → (t.zone z).cfg.holdThreshold ≤ (t.zone z).exposure →
          (t.zone z).hold.isSome = true) ∧
        (m = .chilled → (t.zone z).exposure = (s.zone z).exposure ∧
          let x := t.zone z
          let computed (v : Int) : Target :=
            if x.cfg.setpoint + x.cfg.differential ≤ v then .opened
            else if v ≤ x.cfg.setpoint then .closed else (s.zone z).target
          ((s.zone z).cfg.mode = .off → x.restorePending = false ∧
            match x.temp with
            | .sensorFault => x.target = .opened ∧ x.hold.isSome = true ∧
                ((s.zone z).hold = none → x.hold = some .sensor ∧
                  ∃ r, (Notice.zone z (some .sensor), r) ∈ t.hli.notices)
            | .value v => x.target = computed v
            | .notYet => x.target = (s.zone z).target) ∧
          ((s.zone z).cfg.mode = .chilled →
            x.restorePending = (s.zone z).restorePending ∧
            ∀ v, x.temp = .value v → x.target =
              if x.cfg.setpoint = (s.zone z).cfg.setpoint ∧
                x.cfg.differential = (s.zone z).cfg.differential then (s.zone z).target
              else computed v)) ∧
        (∀ y, y ≠ z → t.zone y = s.zone y) ∧ t.sesc = s.sesc ∧ t.chu = s.chu ∧ t.sdc = s.sdc ∧
        t.selt = s.selt ∧ t.msc = s.msc)) ∧
    (∀ q : ZoneReq, zoneNoOf q.zone.toNat = none ∨ q.mode = none →
      exec (.zoneSet 12 q) s = .next (s.answer 0x60 .range [])) ∧
    (∀ n : Byte, (zoneNoOf n.toNat = none →
        exec (.zoneClearHold 1 n) s = .next (s.answer 0x62 .range [])) ∧
      (zoneNoOf n.toNat = some z →
        ((s.zone z).cfg.mode = .off →
          exec (.zoneClearHold 1 n) s = .next (s.answer 0x62 .range [])) ∧
        ((s.zone z).cfg.mode = .chilled → s.hli.doorOpen = false →
          exec (.zoneClearHold 1 n) s = .next (s.answer 0x62 .doorClosed [])) ∧
        ((s.zone z).cfg.mode = .chilled → s.hli.doorOpen = true →
          ((s.zone z).temp = .notYet →
            exec (.zoneClearHold 1 n) s = .next (s.answer 0x62 .tooWarm [.byte 1])) ∧
          ((s.zone z).temp = .sensorFault →
            exec (.zoneClearHold 1 n) s = .next (s.answer 0x62 .tooWarm [.byte 2]))))) ∧
    ∀ (n : Byte) (v : Int), zoneNoOf n.toNat = some z → (s.zone z).cfg.mode = .chilled →
      s.hli.doorOpen = true → (s.zone z).temp = .value v →
      ((s.zone z).cfg.safetyLimit < v →
        exec (.zoneClearHold 1 n) s = .next (s.answer 0x62 .tooWarm [.byte 0, .half v])) ∧
      (v ≤ (s.zone z).cfg.safetyLimit → ∃ t, exec (.zoneClearHold 1 n) s = .next t ∧
        t.zone z = { s.zone z with hold := none, exposure := 0 } ∧
        (∀ y, y ≠ z → t.zone y = s.zone y) ∧
        t.hli.slot = .answering ⟨0xE2, .ok, (t.zone z).fields⟩ false ∧
        ((s.zone z).hold.isSome = true → ∃ r, (Notice.zone z none, r) ∈ t.hli.notices) ∧
        t = { s with ztc := t.ztc, hli := t.hli })

/-- A zone takes what its channel hands: a CHILLED zone with a value moves its damper target by setpoint and
differential and finds a pending restore check; a faulted sensor holds it and opens the damper; zone 0
records alone (R164, R165, R170, R171). The minute mark: a CHILLED zone above its effective limit gains the
tenths of a degree by which it is above, up to 65535, and is held from its threshold on; another zone stays
as it was (R169, R170). The time an expiry lets pass is the model's choice (notes/assumptions/3.md). A value
handed waits for its owner (notes/assumptions/23.md). -/
def Obligations.ZonesMeasure : Prop :=
  (∀ s : State, s.power ≠ .off →
      (∀ h, s.msc.handed.thAmb = some h → exec (.zoneTemperature 0) s = .next { s with
        msc := { s.msc with handed := { s.msc.handed with thAmb := none } }
        ztc := { s.ztc with ambient := match h with
          | .value t => .value t
          | .fault => .sensorFault } }) ∧
      ∀ (i : Fin 4) (z : ZoneNo), zoneNoOf i.val = some z →
        (∀ v, s.msc.handed.ofZone i = some (.value v) → (s.zone z).cfg.mode = .chilled →
          ∃ t, exec (.zoneTemperature i) s = .next t ∧ t.msc.handed.ofZone i = none ∧
            (t.zone z).temp = .value v ∧ (t.zone z).exposure = (s.zone z).exposure ∧
            (t.zone z).target =
              (if (s.zone z).cfg.setpoint + (s.zone z).cfg.differential ≤ v then .opened
              else if v ≤ (s.zone z).cfg.setpoint then .closed else (s.zone z).target) ∧
            (t.zone z).restorePending = false ∧
            (t.zone z).hold = (match (s.zone z).hold with
              | some c => some c
              | none =>
                if (s.zone z).restorePending = true ∧ (s.zone z).cfg.safetyLimit < v then some .restore
                else none) ∧
            (∀ y, y ≠ z → t.zone y = s.zone y) ∧ t.sesc = s.sesc ∧ t.chu = s.chu) ∧
        (s.msc.handed.ofZone i = some .fault → (s.zone z).cfg.mode = .chilled →
          ∃ t, exec (.zoneTemperature i) s = .next t ∧ (t.zone z).temp = .sensorFault ∧
            (t.zone z).target = .opened ∧ (t.zone z).hold.isSome = true ∧
            ((s.zone z).hold = none → (t.zone z).hold = some .sensor ∧
              ∃ r, (Notice.zone z (some .sensor), r) ∈ t.hli.notices) ∧
            (∀ y, y ≠ z → t.zone y = s.zone y) ∧ t.sesc = s.sesc ∧ t.chu = s.chu)) ∧
  (∀ s : State, s.power ≠ .off → ∃ t, exec .minuteMark s = .next t ∧ t.ztc.minuteLeft = 60000 ∧
      (∀ z v, (s.zone z).cfg.mode = .chilled → (s.zone z).temp = .value v →
        let limit := (s.zone z).cfg.safetyLimit +
          (if s.ztc.allowance then (s.zone z).cfg.allowance else 0)
        (t.zone z).exposure =
          (if limit < v then min 65535 ((s.zone z).exposure + (v - limit).toNat)
          else (s.zone z).exposure) ∧
        (t.zone z).hold = (match (s.zone z).hold with
          | some c => some c
          | none => if (s.zone z).cfg.holdThreshold ≤ (t.zone z).exposure then some .exposure
            else none)) ∧
      (∀ z, (s.zone z).cfg.mode = .off ∨ (∀ v, (s.zone z).temp ≠ .value v) → t.zone z = s.zone z) ∧
      (∀ z, (t.zone z).cfg = (s.zone z).cfg ∧ (t.zone z).target = (s.zone z).target ∧
        (t.zone z).damper = (s.zone z).damper) ∧
      t.sesc = (s.elapse s.ztc.minuteLeft).sesc ∧ t.chu = (s.elapse s.ztc.minuteLeft).chu)

/-- The grant of DAMPER, taken in its turn (R142; notes/assumptions/14.md), starts the move at the head of the
queue, 4 s long; the end of a move leaves its damper at the target and gives the grant back, asking again
while moves wait (R166, R167). The time an expiry lets pass is the model's choice (notes/assumptions/3.md). -/
def Obligations.DamperMoves : Prop :=
  ∀ s : State, s.power ≠ .off →
    (∀ z x rest, (s.load .damper).isGranted = true → s.inTurn .damper = true → s.ztc.running = none →
      s.ztc.queue = (z, x) :: rest → ∃ t, exec .damperGrant s = .next t ∧
        t.ztc.running = some ⟨z, x, 4000⟩ ∧ t.ztc.queue = rest ∧ (t.zone z).damper = .moving ∧
        (t.zone z).cfg = (s.zone z).cfg ∧ (∀ y, y ≠ z → t.zone y = s.zone y) ∧
        t.sesc = s.sesc ∧ t.chu = s.chu ∧ t.sdc = s.sdc) ∧
    ∀ m, s.ztc.running = some m → ∃ t, exec .damperMoveEnd s = .next t ∧
      (t.zone m.zone).damper = (if m.target = .opened then .opened else .closed) ∧
      t.ztc.running = none ∧ t.ztc.queue = s.ztc.queue ∧
      (s.ztc.queue = [] → t.load .damper = .none) ∧
      (s.ztc.queue ≠ [] → t.load .damper ≠ .none) ∧
      (∀ y, y ≠ m.zone → t.zone y = s.zone y) ∧ t.selt = s.selt

/-! ### Refrigeration -/

/-- The compressor: its grant starts it with a start window of 3 s, whose end reduces the load to the run
weight; LOCKOUT ends at the min-off time into DEFROST, WAIT_POWER or READY; at the min run time a compressor
without demand stops into LOCKOUT with its load released (R179 to R181). A demand raised by an event of the
zones takes READY to WAIT_POWER unless the evaporator is below the cutout; one dropped takes WAIT_POWER to
READY with its request withdrawn, and RUNNING into LOCKOUT once the min run time has passed; other states
record it alone (R168, R179 to R181, R185). A grant is taken in its turn (R142; notes/assumptions/14.md). The
time an expiry lets pass is the model's choice (notes/assumptions/3.md), and so is that a damper MOVING to
CLOSED counts no more toward the demand (notes/assumptions/43.md). -/
def Obligations.CompressorRuns : Prop :=
  (∀ (s : State) (c : Instr), s.power ≠ .off → DemandLaw s → s.sumHeld ≤ s.budget →
    c = .damperMoveEnd ∨ c = .damperGrant ∨ (∃ i, c = .zoneTemperature i) ∨
      (∃ len q, c = .zoneSet len q) →
    ∃ t, exec c s = .next t ∧ DemandLaw t ∧
      (s.rfc.demand = t.rfc.demand → t.rfc.state = s.rfc.state) ∧
      (s.rfc.demand = false → t.rfc.demand = true → s.rfc.state = .ready →
        t.rfc.state = (if s.belowCutout then .ready else .waitPower) ∧
        (s.belowCutout = false → t.load .compressor ≠ .none)) ∧
      (s.rfc.demand = true → t.rfc.demand = false →
        (s.rfc.state = .waitPower → t.rfc.state = .ready ∧ t.load .compressor = .none) ∧
        (s.rfc.state = .running →
          (s.settings.minRun * 1000 ≤ t.rfc.runTime → t.rfc.state = .lockout ∧
            t.rfc.offTime = 0 ∧ t.load .compressor = .none) ∧
          (t.rfc.runTime < s.settings.minRun * 1000 → t.rfc.state = .running))) ∧
      (s.rfc.state ≠ .ready → s.rfc.state ≠ .waitPower → s.rfc.state ≠ .running →
        t.rfc.state = s.rfc.state)) ∧
  ∀ s : State, s.power ≠ .off →
    (s.rfc.state = .waitPower → (s.load .compressor).isGranted = true → s.inTurn .compressor = true →
      exec .compressorGrant s = .next { s.tookGrant .compressor with rfc := { s.rfc with
        state := .starting, runTime := 0, startWindow := some 3000 } }) ∧
    (∀ d h, s.rfc.startWindow = some d → s.load .compressor = .granted h →
      s.settings.runWeight < h → s.sumHeld ≤ s.budget → ∃ t, exec .startWindowEnd s = .next t ∧
        t.rfc.state = .running ∧ t.rfc.startWindow = none ∧
        t.load .compressor = .granted s.settings.runWeight ∧ t.sesc.phase = s.sesc.phase) ∧
    (s.rfc.state = .lockout → ∃ t, exec .lockoutExpiry s = .next t ∧
      s.settings.minOff * 1000 ≤ t.rfc.offTime ∧
      t.rfc.state = (if s.rfc.defrostPending then .defrost
        else if s.rfc.demand && !s.belowCutout then .waitPower else .ready) ∧
      (t.rfc.state = .waitPower → t.load .compressor ≠ .none)) ∧
    (s.rfc.state = .running → s.rfc.demand = false → ∃ t, exec .minRunExpiry s = .next t ∧
      t.rfc.state = .lockout ∧ t.rfc.offTime = 0 ∧ t.load .compressor = .none) ∧
    (s.rfc.state = .running → s.rfc.demand = true → exec .minRunExpiry s =
      .next (s.elapse (s.settings.minRun * 1000 - s.rfc.runTime)))

/-- Defrosts: REFRIG.DEFROST and the two intervals make one due, which starts at once but from LOCKOUT, where
it waits; an interval reached is due with the compressor off too, where a stop of the same moment is taken
first; its grant, taken in its turn (R142; notes/assumptions/14.md), turns the heater on; the heater limit,
reached also while a revocation has paused the heater, the wall time and the termination temperature end it
into DRIP, and the drip time ends that with the recovery window (R183 to R187, R189). That the termination
temperature ends a DEFROST before its first grant too is the model's choice (notes/assumptions/39.md), and so
are the time an expiry lets pass (notes/assumptions/3.md) and that a value handed waits for its owner
(notes/assumptions/23.md). -/
def Obligations.DefrostRuns : Prop :=
  ∀ s : State,
    let starts (t : State) : Prop := t.rfc.state = .defrost ∧ t.rfc.heaterOn = false ∧
      t.rfc.accumulator = 0 ∧ t.rfc.defrostPending = false ∧ t.rfc.wallTime = 0 ∧
      t.rfc.heaterTime = 0 ∧ t.ztc.allowance = true ∧ t.load .defrost ≠ .none
    let ends (t : State) : Prop := t.rfc.heaterOn = false ∧ t.load .defrost = .none ∧
      (s.settings.dripTime ≠ 0 → t.rfc.state = .drip ∧ t.rfc.dripTime = 0)
    (s.linkReady = true →
      (s.rfc.state = .defrost ∨ s.rfc.state = .drip →
        exec (.refrigDefrost 0) s = .next (s.answer 0x68 .busy [])) ∧
      (s.rfc.state = .lockout → exec (.refrigDefrost 0) s =
        .next ({ s with rfc := { s.rfc with defrostPending := true } }.answer 0x68 .accepted [])) ∧
      (s.rfc.state = .ready ∨ s.rfc.state = .waitPower ∨ s.rfc.state = .starting ∨
        s.rfc.state = .running → ∃ t, exec (.refrigDefrost 0) s = .next t ∧ starts t ∧
          t.hli.slot = .answering ⟨0xE8, .accepted, []⟩ false)) ∧
    (s.power ≠ .off →
      (s.rfc.state = .defrost → (s.load .defrost).isGranted = true → s.inTurn .defrost = true →
        exec .defrostGrant s =
          .next { s.tookGrant .defrost with rfc := { s.rfc with heaterOn := true } }) ∧
      (s.rfc.state = .running → ∃ t, exec .maxContinuousRunExpiry s = .next t ∧ starts t) ∧
      (s.rfc.state.compressorOn = true → ∃ t, exec .defrostIntervalExpiry s = .next t ∧ starts t) ∧
      (s.settings.defrostInterval * 3600000 ≤ s.rfc.accumulator →
        (s.rfc.state = .lockout → exec .defrostIntervalExpiry s =
          .next { s with rfc := { s.rfc with defrostPending := true } }) ∧
        (s.rfc.state = .ready ∨ s.rfc.state = .waitPower →
          ∃ t, exec .defrostIntervalExpiry s = .next t ∧ starts t) ∧
        (s.rfc.state = .defrost ∨ s.rfc.state = .drip →
          exec .defrostIntervalExpiry s = .next s)) ∧
      (s.rfc.state = .defrost →
        s.rfc.heaterOn = true ∨ s.settings.heaterLimit * 60000 ≤ s.rfc.heaterTime →
        ∃ t, exec .heaterTimeLimitExpiry s = .next t ∧ ends t) ∧
      (s.rfc.state = .defrost → ∃ t, exec .defrostWallTimeExpiry s = .next t ∧ ends t) ∧
      (∀ v, s.msc.handed.thEvap = some (.value v) → ∃ t, exec .evaporatorValue s = .next t ∧
        t.rfc.evap = some v ∧ t.msc.handed.thEvap = none ∧
        (s.rfc.state = .defrost → s.settings.termination ≤ v → ends t) ∧
        (s.rfc.state = .defrost → v < s.settings.termination → t.rfc.state = .defrost) ∧
        (s.rfc.state = .running → v < s.settings.cutout → t.rfc.state = .lockout)) ∧
      (s.rfc.state = .drip → ∃ t, exec .dripTimeExpiry s = .next t ∧
        t.rfc.recovery = some 600000 ∧
        (s.rfc.offTime + (s.settings.dripTime * 60000 - s.rfc.dripTime) < s.settings.minOff * 1000 →
          t.rfc.state = .lockout) ∧
        (s.settings.minOff * 1000 ≤ s.rfc.offTime + (s.settings.dripTime * 60000 - s.rfc.dripTime) →
          t.rfc.state = .ready ∨ t.rfc.state = .waitPower)) ∧
      (∀ d, s.rfc.recovery = some d → ∃ t, exec .recoveryWindowExpiry s = .next t ∧
        t.rfc.recovery = none ∧ t.ztc.allowance = (s.rfc.state == .defrost || s.rfc.state == .drip)))

/-! ### What every step keeps -/

/-- The money balance of R88 and the empty credit of IDLE of R25, in states whose session keeps its law: only
in those is a change payout the PAYING session's. -/
def Obligations.BalanceKept : Prop :=
  ∀ s t : State, SessionLaw s → BalanceLaw s → step s = .next t → BalanceLaw t

/-- The table, position and ownership laws of R1 to R4. -/
def Obligations.TablesKept : Prop :=
  ∀ s t : State, TablesLaw s → step s = .next t → TablesLaw t

/-- The count law and the mapping bound of R73 and R79. -/
def Obligations.CoinsKept : Prop :=
  ∀ s t : State, CoinLaw s → step s = .next t → CoinLaw t

/-- The exposure law of R161 and the hold of a faulted sensor of R170. -/
def Obligations.HoldsKept : Prop :=
  ∀ s t : State, HoldLaw s → step s = .next t → HoldLaw t

/-- The budget law of R142; the untaken grants, which the model holds pass by pass (notes/assumptions/14.md),
are of loads that are GRANTED, each once (R137, R142). -/
def Obligations.BudgetKept : Prop :=
  (∀ s t : State, BudgetLaw s → step s = .next t → BudgetLaw t) ∧
  ∀ s t : State, HandingLaw s → step s = .next t → HandingLaw t

/-- What draws power holds its grant (R58, R100, R167, R176), and the off-time law of R179. In every state that
keeps the first, the output lines follow the records: a row and the unit's columns for an energized spiral, the
tube of a running pulse, the zone of a running damper move, compressor and condenser fan in STARTING and RUNNING,
the heater, and the evaporator fan without it (R58, R101, R167, R177, R185); each line that draws power has the
grant of its load, and compressor and heater are never on together. That the lines follow the records during
the restore too, and are released without supply, is the model's choice (notes/assumptions/35.md). -/
def Obligations.GrantsAndOffTimeKept : Prop :=
  (∀ s t : State, GrantLaw s → step s = .next t → GrantLaw t) ∧
  (∀ s t : State, OffTimeLaw s → step s = .next t → OffTimeLaw t) ∧
  ∀ s : State, GrantLaw s →
    (s.power = .off → s.rowLine = none ∧ s.columnLines = [] ∧ s.payLine = none ∧
      s.damperLine = none ∧ s.comp = false ∧ s.cfan = false ∧ s.heat = false ∧ s.efan = false) ∧
    (s.power ≠ .off → s.rowLine = s.sdc.energized.map DriveUnit.row ∧
      (s.sdc.energized = none → s.columnLines = []) ∧
      (∀ u, s.sdc.energized = some u →
        s.columnLines = if u.twin then [u.col, u.col + 1] else [u.col]) ∧
      (∀ i, s.payLine = some i ↔ s.chu.payout.pulse.isSome = true ∧
        ∃ left, s.chu.payout.window = some ⟨i, left⟩) ∧
      s.damperLine = s.ztc.running.map Move.zone ∧
      (s.comp = true ↔ s.rfc.state = .starting ∨ s.rfc.state = .running) ∧ s.cfan = s.comp ∧
      s.heat = s.rfc.heaterOn ∧ s.efan = !s.rfc.heaterOn) ∧
    (s.rowLine.isSome = true → (s.load .spiral).isGranted = true) ∧
    (s.payLine.isSome = true → (s.load .payout).isGranted = true) ∧
    (s.damperLine.isSome = true → (s.load .damper).isGranted = true) ∧
    (s.comp = true → (s.load .compressor).isGranted = true) ∧
    (s.heat = true → (s.load .defrost).isGranted = true) ∧ ¬(s.comp = true ∧ s.heat = true)

/-- The session's phases and what each holds, with the payout of PAYING (R25, R26, R98, R107). -/
def Obligations.SessionKept : Prop :=
  ∀ s t : State, SessionLaw s → step s = .next t → SessionLaw t

/-- The drive work list of R50, in states whose session keeps its law. -/
def Obligations.WorkListKept : Prop :=
  ∀ s t : State, SessionLaw s → WorkListLaw s → step s = .next t → WorkListLaw t

/-- The damper move queue of R166; the channel records and the reference state of R149 and R153; the cooling
demand of R168, which is what the zones want and what the Refrigeration Controller holds; that a damper MOVING
to CLOSED does not count is the model's choice (notes/assumptions/43.md). -/
def Obligations.DampersAndMeasureKept : Prop :=
  (∀ s t : State, DamperLaw s → step s = .next t → DamperLaw t) ∧
  (∀ s t : State, MeasureLaw s → step s = .next t → MeasureLaw t) ∧
  (∀ s t : State, DemandLaw s → step s = .next t → DemandLaw t)

/-- The peripheral records of R122 and R124 and the late slots of R123; the notice set of R198, and the image
that a save leaves INVALID until it ends (R202). -/
def Obligations.BusNoticesStoreKept : Prop :=
  (∀ s t : State, BusLaw s → step s = .next t → BusLaw t) ∧
  (∀ s t : State, NoticeLaw s → StoreLaw s → step s = .next t → NoticeLaw t ∧ StoreLaw t)

end
end

