-- ==== Sys2Proof/Laws/State.lean ====
section
/-! SUPPORT. One lemma per field of `State` per named update, so that no proof unfolds a record update. -/

namespace Sys2Proof.Machine

variable (s : State)

/-! ### `withPending` -/

@[simp] theorem State.withPending_pending (q : List Instr) : (s.withPending q).pending = q := rfl
@[simp] theorem State.withPending_power (q : List Instr) : (s.withPending q).power = s.power := rfl
@[simp] theorem State.withPending_settings (q : List Instr) :
    (s.withPending q).settings = s.settings := rfl
@[simp] theorem State.withPending_selt (q : List Instr) : (s.withPending q).selt = s.selt := rfl
@[simp] theorem State.withPending_sesc (q : List Instr) : (s.withPending q).sesc = s.sesc := rfl
@[simp] theorem State.withPending_sdc (q : List Instr) : (s.withPending q).sdc = s.sdc := rfl
@[simp] theorem State.withPending_chu (q : List Instr) : (s.withPending q).chu = s.chu := rfl
@[simp] theorem State.withPending_cbm (q : List Instr) : (s.withPending q).cbm = s.cbm := rfl
@[simp] theorem State.withPending_lba (q : List Instr) : (s.withPending q).lba = s.lba := rfl
@[simp] theorem State.withPending_msc (q : List Instr) : (s.withPending q).msc = s.msc := rfl
@[simp] theorem State.withPending_ztc (q : List Instr) : (s.withPending q).ztc = s.ztc := rfl
@[simp] theorem State.withPending_rfc (q : List Instr) : (s.withPending q).rfc = s.rfc := rfl
@[simp] theorem State.withPending_hli (q : List Instr) : (s.withPending q).hli = s.hli := rfl
@[simp] theorem State.withPending_rst (q : List Instr) : (s.withPending q).rst = s.rst := rfl

/-! ### `setLoad` -/

@[simp] theorem State.setLoad_pending (l : Load) (r : LoadRec) :
    (s.setLoad l r).pending = s.pending := rfl
@[simp] theorem State.setLoad_power (l : Load) (r : LoadRec) :
    (s.setLoad l r).power = s.power := rfl
@[simp] theorem State.setLoad_settings (l : Load) (r : LoadRec) :
    (s.setLoad l r).settings = s.settings := rfl
@[simp] theorem State.setLoad_selt (l : Load) (r : LoadRec) : (s.setLoad l r).selt = s.selt := rfl
@[simp] theorem State.setLoad_sesc (l : Load) (r : LoadRec) : (s.setLoad l r).sesc = s.sesc := rfl
@[simp] theorem State.setLoad_sdc (l : Load) (r : LoadRec) : (s.setLoad l r).sdc = s.sdc := rfl
@[simp] theorem State.setLoad_chu (l : Load) (r : LoadRec) : (s.setLoad l r).chu = s.chu := rfl
@[simp] theorem State.setLoad_cbm (l : Load) (r : LoadRec) : (s.setLoad l r).cbm = s.cbm := rfl
@[simp] theorem State.setLoad_lba (l : Load) (r : LoadRec) :
    (s.setLoad l r).lba = { s.lba with loads := s.lba.loads.set l r } := rfl
@[simp] theorem State.setLoad_msc (l : Load) (r : LoadRec) : (s.setLoad l r).msc = s.msc := rfl
@[simp] theorem State.setLoad_ztc (l : Load) (r : LoadRec) : (s.setLoad l r).ztc = s.ztc := rfl
@[simp] theorem State.setLoad_rfc (l : Load) (r : LoadRec) : (s.setLoad l r).rfc = s.rfc := rfl
@[simp] theorem State.setLoad_hli (l : Load) (r : LoadRec) : (s.setLoad l r).hli = s.hli := rfl
@[simp] theorem State.setLoad_rst (l : Load) (r : LoadRec) : (s.setLoad l r).rst = s.rst := rfl

/-! ### `setPeriph` -/

@[simp] theorem State.setPeriph_pending (p : Peripheral) (r : PeriphRec) :
    (s.setPeriph p r).pending = s.pending := rfl
@[simp] theorem State.setPeriph_power (p : Peripheral) (r : PeriphRec) :
    (s.setPeriph p r).power = s.power := rfl
@[simp] theorem State.setPeriph_settings (p : Peripheral) (r : PeriphRec) :
    (s.setPeriph p r).settings = s.settings := rfl
@[simp] theorem State.setPeriph_selt (p : Peripheral) (r : PeriphRec) :
    (s.setPeriph p r).selt = s.selt := rfl
@[simp] theorem State.setPeriph_sesc (p : Peripheral) (r : PeriphRec) :
    (s.setPeriph p r).sesc = s.sesc := rfl
@[simp] theorem State.setPeriph_sdc (p : Peripheral) (r : PeriphRec) :
    (s.setPeriph p r).sdc = s.sdc := rfl
@[simp] theorem State.setPeriph_chu (p : Peripheral) (r : PeriphRec) :
    (s.setPeriph p r).chu = s.chu := rfl
@[simp] theorem State.setPeriph_cbm (p : Peripheral) (r : PeriphRec) :
    (s.setPeriph p r).cbm = s.cbm.set p r := rfl
@[simp] theorem State.setPeriph_lba (p : Peripheral) (r : PeriphRec) :
    (s.setPeriph p r).lba = s.lba := rfl
@[simp] theorem State.setPeriph_msc (p : Peripheral) (r : PeriphRec) :
    (s.setPeriph p r).msc = s.msc := rfl
@[simp] theorem State.setPeriph_ztc (p : Peripheral) (r : PeriphRec) :
    (s.setPeriph p r).ztc = s.ztc := rfl
@[simp] theorem State.setPeriph_rfc (p : Peripheral) (r : PeriphRec) :
    (s.setPeriph p r).rfc = s.rfc := rfl
@[simp] theorem State.setPeriph_hli (p : Peripheral) (r : PeriphRec) :
    (s.setPeriph p r).hli = s.hli := rfl
@[simp] theorem State.setPeriph_rst (p : Peripheral) (r : PeriphRec) :
    (s.setPeriph p r).rst = s.rst := rfl

/-! ### `setZone` -/

@[simp] theorem State.setZone_pending (z : ZoneNo) (r : Zone) :
    (s.setZone z r).pending = s.pending := rfl
@[simp] theorem State.setZone_power (z : ZoneNo) (r : Zone) : (s.setZone z r).power = s.power := rfl
@[simp] theorem State.setZone_settings (z : ZoneNo) (r : Zone) :
    (s.setZone z r).settings = s.settings := rfl
@[simp] theorem State.setZone_selt (z : ZoneNo) (r : Zone) : (s.setZone z r).selt = s.selt := rfl
@[simp] theorem State.setZone_sesc (z : ZoneNo) (r : Zone) : (s.setZone z r).sesc = s.sesc := rfl
@[simp] theorem State.setZone_sdc (z : ZoneNo) (r : Zone) : (s.setZone z r).sdc = s.sdc := rfl
@[simp] theorem State.setZone_chu (z : ZoneNo) (r : Zone) : (s.setZone z r).chu = s.chu := rfl
@[simp] theorem State.setZone_cbm (z : ZoneNo) (r : Zone) : (s.setZone z r).cbm = s.cbm := rfl
@[simp] theorem State.setZone_lba (z : ZoneNo) (r : Zone) : (s.setZone z r).lba = s.lba := rfl
@[simp] theorem State.setZone_msc (z : ZoneNo) (r : Zone) : (s.setZone z r).msc = s.msc := rfl
@[simp] theorem State.setZone_ztc (z : ZoneNo) (r : Zone) :
    (s.setZone z r).ztc = s.ztc.set z r := rfl
@[simp] theorem State.setZone_rfc (z : ZoneNo) (r : Zone) : (s.setZone z r).rfc = s.rfc := rfl
@[simp] theorem State.setZone_hli (z : ZoneNo) (r : Zone) : (s.setZone z r).hli = s.hli := rfl
@[simp] theorem State.setZone_rst (z : ZoneNo) (r : Zone) : (s.setZone z r).rst = s.rst := rfl

/-! ### `raise` -/

@[simp] theorem State.raise_pending (n : Notice) : (s.raise n).pending = s.pending := rfl
@[simp] theorem State.raise_power (n : Notice) : (s.raise n).power = s.power := rfl
@[simp] theorem State.raise_settings (n : Notice) : (s.raise n).settings = s.settings := rfl
@[simp] theorem State.raise_selt (n : Notice) : (s.raise n).selt = s.selt := rfl
@[simp] theorem State.raise_sesc (n : Notice) : (s.raise n).sesc = s.sesc := rfl
@[simp] theorem State.raise_sdc (n : Notice) : (s.raise n).sdc = s.sdc := rfl
@[simp] theorem State.raise_chu (n : Notice) : (s.raise n).chu = s.chu := rfl
@[simp] theorem State.raise_cbm (n : Notice) : (s.raise n).cbm = s.cbm := rfl
@[simp] theorem State.raise_lba (n : Notice) : (s.raise n).lba = s.lba := rfl
@[simp] theorem State.raise_msc (n : Notice) : (s.raise n).msc = s.msc := rfl
@[simp] theorem State.raise_ztc (n : Notice) : (s.raise n).ztc = s.ztc := rfl
@[simp] theorem State.raise_rfc (n : Notice) : (s.raise n).rfc = s.rfc := rfl
@[simp] theorem State.raise_hli (n : Notice) :
    (s.raise n).hli = { s.hli with notices := insertNotice n s.hli.notices } := rfl
@[simp] theorem State.raise_rst (n : Notice) : (s.raise n).rst = s.rst := rfl

/-! ### `setSlot` -/

@[simp] theorem State.setSlot_pending (x : Slot) : (s.setSlot x).pending = s.pending := rfl
@[simp] theorem State.setSlot_power (x : Slot) : (s.setSlot x).power = s.power := rfl
@[simp] theorem State.setSlot_settings (x : Slot) : (s.setSlot x).settings = s.settings := rfl
@[simp] theorem State.setSlot_selt (x : Slot) : (s.setSlot x).selt = s.selt := rfl
@[simp] theorem State.setSlot_sesc (x : Slot) : (s.setSlot x).sesc = s.sesc := rfl
@[simp] theorem State.setSlot_sdc (x : Slot) : (s.setSlot x).sdc = s.sdc := rfl
@[simp] theorem State.setSlot_chu (x : Slot) : (s.setSlot x).chu = s.chu := rfl
@[simp] theorem State.setSlot_cbm (x : Slot) : (s.setSlot x).cbm = s.cbm := rfl
@[simp] theorem State.setSlot_lba (x : Slot) : (s.setSlot x).lba = s.lba := rfl
@[simp] theorem State.setSlot_msc (x : Slot) : (s.setSlot x).msc = s.msc := rfl
@[simp] theorem State.setSlot_ztc (x : Slot) : (s.setSlot x).ztc = s.ztc := rfl
@[simp] theorem State.setSlot_rfc (x : Slot) : (s.setSlot x).rfc = s.rfc := rfl
@[simp] theorem State.setSlot_hli (x : Slot) : (s.setSlot x).hli = { s.hli with slot := x } := rfl
@[simp] theorem State.setSlot_rst (x : Slot) : (s.setSlot x).rst = s.rst := rfl

/-! ### `answer` -/

@[simp] theorem State.answer_pending (k : Nat) (st : Status) (b : List Field) :
    (s.answer k st b).pending = s.pending := rfl
@[simp] theorem State.answer_power (k : Nat) (st : Status) (b : List Field) :
    (s.answer k st b).power = s.power := rfl
@[simp] theorem State.answer_settings (k : Nat) (st : Status) (b : List Field) :
    (s.answer k st b).settings = s.settings := rfl
@[simp] theorem State.answer_selt (k : Nat) (st : Status) (b : List Field) :
    (s.answer k st b).selt = s.selt := rfl
@[simp] theorem State.answer_sesc (k : Nat) (st : Status) (b : List Field) :
    (s.answer k st b).sesc = s.sesc := rfl
@[simp] theorem State.answer_sdc (k : Nat) (st : Status) (b : List Field) :
    (s.answer k st b).sdc = s.sdc := rfl
@[simp] theorem State.answer_chu (k : Nat) (st : Status) (b : List Field) :
    (s.answer k st b).chu = s.chu := rfl
@[simp] theorem State.answer_cbm (k : Nat) (st : Status) (b : List Field) :
    (s.answer k st b).cbm = s.cbm := rfl
@[simp] theorem State.answer_lba (k : Nat) (st : Status) (b : List Field) :
    (s.answer k st b).lba = s.lba := rfl
@[simp] theorem State.answer_msc (k : Nat) (st : Status) (b : List Field) :
    (s.answer k st b).msc = s.msc := rfl
@[simp] theorem State.answer_ztc (k : Nat) (st : Status) (b : List Field) :
    (s.answer k st b).ztc = s.ztc := rfl
@[simp] theorem State.answer_rfc (k : Nat) (st : Status) (b : List Field) :
    (s.answer k st b).rfc = s.rfc := rfl
@[simp] theorem State.answer_hli (k : Nat) (st : Status) (b : List Field) :
    (s.answer k st b).hli = { s.hli with slot := .answering ⟨k + 0x80, st, b⟩ false } := rfl
@[simp] theorem State.answer_rst (k : Nat) (st : Status) (b : List Field) :
    (s.answer k st b).rst = s.rst := rfl

/-! ### `setTable` -/

@[simp] theorem State.setTable_pending (t : List Selection) :
    (s.setTable t).pending = s.pending := rfl
@[simp] theorem State.setTable_power (t : List Selection) : (s.setTable t).power = s.power := rfl
@[simp] theorem State.setTable_settings (t : List Selection) :
    (s.setTable t).settings = s.settings := rfl
@[simp] theorem State.setTable_selt (t : List Selection) :
    (s.setTable t).selt = { s.selt with table := t } := rfl
@[simp] theorem State.setTable_sesc (t : List Selection) : (s.setTable t).sesc = s.sesc := rfl
@[simp] theorem State.setTable_sdc (t : List Selection) : (s.setTable t).sdc = s.sdc := rfl
@[simp] theorem State.setTable_chu (t : List Selection) : (s.setTable t).chu = s.chu := rfl
@[simp] theorem State.setTable_cbm (t : List Selection) : (s.setTable t).cbm = s.cbm := rfl
@[simp] theorem State.setTable_lba (t : List Selection) : (s.setTable t).lba = s.lba := rfl
@[simp] theorem State.setTable_msc (t : List Selection) : (s.setTable t).msc = s.msc := rfl
@[simp] theorem State.setTable_ztc (t : List Selection) : (s.setTable t).ztc = s.ztc := rfl
@[simp] theorem State.setTable_rfc (t : List Selection) : (s.setTable t).rfc = s.rfc := rfl
@[simp] theorem State.setTable_hli (t : List Selection) : (s.setTable t).hli = s.hli := rfl
@[simp] theorem State.setTable_rst (t : List Selection) : (s.setTable t).rst = s.rst := rfl

/-! ### `setSesc` -/

@[simp] theorem State.setSesc_pending (x : Session) : (s.setSesc x).pending = s.pending := rfl
@[simp] theorem State.setSesc_power (x : Session) : (s.setSesc x).power = s.power := rfl
@[simp] theorem State.setSesc_settings (x : Session) : (s.setSesc x).settings = s.settings := rfl
@[simp] theorem State.setSesc_selt (x : Session) : (s.setSesc x).selt = s.selt := rfl
@[simp] theorem State.setSesc_sesc (x : Session) : (s.setSesc x).sesc = x := rfl
@[simp] theorem State.setSesc_sdc (x : Session) : (s.setSesc x).sdc = s.sdc := rfl
@[simp] theorem State.setSesc_chu (x : Session) : (s.setSesc x).chu = s.chu := rfl
@[simp] theorem State.setSesc_cbm (x : Session) : (s.setSesc x).cbm = s.cbm := rfl
@[simp] theorem State.setSesc_lba (x : Session) : (s.setSesc x).lba = s.lba := rfl
@[simp] theorem State.setSesc_msc (x : Session) : (s.setSesc x).msc = s.msc := rfl
@[simp] theorem State.setSesc_ztc (x : Session) : (s.setSesc x).ztc = s.ztc := rfl
@[simp] theorem State.setSesc_rfc (x : Session) : (s.setSesc x).rfc = s.rfc := rfl
@[simp] theorem State.setSesc_hli (x : Session) : (s.setSesc x).hli = s.hli := rfl
@[simp] theorem State.setSesc_rst (x : Session) : (s.setSesc x).rst = s.rst := rfl

/-! ### `setPayout` -/

@[simp] theorem State.setPayout_pending (x : Payout) : (s.setPayout x).pending = s.pending := rfl
@[simp] theorem State.setPayout_power (x : Payout) : (s.setPayout x).power = s.power := rfl
@[simp] theorem State.setPayout_settings (x : Payout) : (s.setPayout x).settings = s.settings := rfl
@[simp] theorem State.setPayout_selt (x : Payout) : (s.setPayout x).selt = s.selt := rfl
@[simp] theorem State.setPayout_sesc (x : Payout) : (s.setPayout x).sesc = s.sesc := rfl
@[simp] theorem State.setPayout_sdc (x : Payout) : (s.setPayout x).sdc = s.sdc := rfl
@[simp] theorem State.setPayout_chu (x : Payout) :
    (s.setPayout x).chu = { s.chu with payout := x } := rfl
@[simp] theorem State.setPayout_cbm (x : Payout) : (s.setPayout x).cbm = s.cbm := rfl
@[simp] theorem State.setPayout_lba (x : Payout) : (s.setPayout x).lba = s.lba := rfl
@[simp] theorem State.setPayout_msc (x : Payout) : (s.setPayout x).msc = s.msc := rfl
@[simp] theorem State.setPayout_ztc (x : Payout) : (s.setPayout x).ztc = s.ztc := rfl
@[simp] theorem State.setPayout_rfc (x : Payout) : (s.setPayout x).rfc = s.rfc := rfl
@[simp] theorem State.setPayout_hli (x : Payout) : (s.setPayout x).hli = s.hli := rfl
@[simp] theorem State.setPayout_rst (x : Payout) : (s.setPayout x).rst = s.rst := rfl

/-! ### `setTubes` -/

@[simp] theorem State.setTubes_pending (x : List Tube) : (s.setTubes x).pending = s.pending := rfl
@[simp] theorem State.setTubes_power (x : List Tube) : (s.setTubes x).power = s.power := rfl
@[simp] theorem State.setTubes_settings (x : List Tube) :
    (s.setTubes x).settings = s.settings := rfl
@[simp] theorem State.setTubes_selt (x : List Tube) : (s.setTubes x).selt = s.selt := rfl
@[simp] theorem State.setTubes_sesc (x : List Tube) : (s.setTubes x).sesc = s.sesc := rfl
@[simp] theorem State.setTubes_sdc (x : List Tube) : (s.setTubes x).sdc = s.sdc := rfl
@[simp] theorem State.setTubes_chu (x : List Tube) :
    (s.setTubes x).chu = { s.chu with tubes := x } := rfl
@[simp] theorem State.setTubes_cbm (x : List Tube) : (s.setTubes x).cbm = s.cbm := rfl
@[simp] theorem State.setTubes_lba (x : List Tube) : (s.setTubes x).lba = s.lba := rfl
@[simp] theorem State.setTubes_msc (x : List Tube) : (s.setTubes x).msc = s.msc := rfl
@[simp] theorem State.setTubes_ztc (x : List Tube) : (s.setTubes x).ztc = s.ztc := rfl
@[simp] theorem State.setTubes_rfc (x : List Tube) : (s.setTubes x).rfc = s.rfc := rfl
@[simp] theorem State.setTubes_hli (x : List Tube) : (s.setTubes x).hli = s.hli := rfl
@[simp] theorem State.setTubes_rst (x : List Tube) : (s.setTubes x).rst = s.rst := rfl

/-! ### `setTotals` -/

@[simp] theorem State.setTotals_pending (x : Totals) : (s.setTotals x).pending = s.pending := rfl
@[simp] theorem State.setTotals_power (x : Totals) : (s.setTotals x).power = s.power := rfl
@[simp] theorem State.setTotals_settings (x : Totals) : (s.setTotals x).settings = s.settings := rfl
@[simp] theorem State.setTotals_selt (x : Totals) : (s.setTotals x).selt = s.selt := rfl
@[simp] theorem State.setTotals_sesc (x : Totals) : (s.setTotals x).sesc = s.sesc := rfl
@[simp] theorem State.setTotals_sdc (x : Totals) : (s.setTotals x).sdc = s.sdc := rfl
@[simp] theorem State.setTotals_chu (x : Totals) :
    (s.setTotals x).chu = { s.chu with totals := x } := rfl
@[simp] theorem State.setTotals_cbm (x : Totals) : (s.setTotals x).cbm = s.cbm := rfl
@[simp] theorem State.setTotals_lba (x : Totals) : (s.setTotals x).lba = s.lba := rfl
@[simp] theorem State.setTotals_msc (x : Totals) : (s.setTotals x).msc = s.msc := rfl
@[simp] theorem State.setTotals_ztc (x : Totals) : (s.setTotals x).ztc = s.ztc := rfl
@[simp] theorem State.setTotals_rfc (x : Totals) : (s.setTotals x).rfc = s.rfc := rfl
@[simp] theorem State.setTotals_hli (x : Totals) : (s.setTotals x).hli = s.hli := rfl
@[simp] theorem State.setTotals_rst (x : Totals) : (s.setTotals x).rst = s.rst := rfl

/-! ### `setSdc` -/

@[simp] theorem State.setSdc_pending (x : Sdc) : (s.setSdc x).pending = s.pending := rfl
@[simp] theorem State.setSdc_power (x : Sdc) : (s.setSdc x).power = s.power := rfl
@[simp] theorem State.setSdc_settings (x : Sdc) : (s.setSdc x).settings = s.settings := rfl
@[simp] theorem State.setSdc_selt (x : Sdc) : (s.setSdc x).selt = s.selt := rfl
@[simp] theorem State.setSdc_sesc (x : Sdc) : (s.setSdc x).sesc = s.sesc := rfl
@[simp] theorem State.setSdc_sdc (x : Sdc) : (s.setSdc x).sdc = x := rfl
@[simp] theorem State.setSdc_chu (x : Sdc) : (s.setSdc x).chu = s.chu := rfl
@[simp] theorem State.setSdc_cbm (x : Sdc) : (s.setSdc x).cbm = s.cbm := rfl
@[simp] theorem State.setSdc_lba (x : Sdc) : (s.setSdc x).lba = s.lba := rfl
@[simp] theorem State.setSdc_msc (x : Sdc) : (s.setSdc x).msc = s.msc := rfl
@[simp] theorem State.setSdc_ztc (x : Sdc) : (s.setSdc x).ztc = s.ztc := rfl
@[simp] theorem State.setSdc_rfc (x : Sdc) : (s.setSdc x).rfc = s.rfc := rfl
@[simp] theorem State.setSdc_hli (x : Sdc) : (s.setSdc x).hli = s.hli := rfl
@[simp] theorem State.setSdc_rst (x : Sdc) : (s.setSdc x).rst = s.rst := rfl

/-! ### `setList` -/

@[simp] theorem State.setList_pending (x : List DriveEntry) :
    (s.setList x).pending = s.pending := rfl
@[simp] theorem State.setList_power (x : List DriveEntry) : (s.setList x).power = s.power := rfl
@[simp] theorem State.setList_settings (x : List DriveEntry) :
    (s.setList x).settings = s.settings := rfl
@[simp] theorem State.setList_selt (x : List DriveEntry) : (s.setList x).selt = s.selt := rfl
@[simp] theorem State.setList_sesc (x : List DriveEntry) : (s.setList x).sesc = s.sesc := rfl
@[simp] theorem State.setList_sdc (x : List DriveEntry) :
    (s.setList x).sdc = { s.sdc with list := x } := rfl
@[simp] theorem State.setList_chu (x : List DriveEntry) : (s.setList x).chu = s.chu := rfl
@[simp] theorem State.setList_cbm (x : List DriveEntry) : (s.setList x).cbm = s.cbm := rfl
@[simp] theorem State.setList_lba (x : List DriveEntry) : (s.setList x).lba = s.lba := rfl
@[simp] theorem State.setList_msc (x : List DriveEntry) : (s.setList x).msc = s.msc := rfl
@[simp] theorem State.setList_ztc (x : List DriveEntry) : (s.setList x).ztc = s.ztc := rfl
@[simp] theorem State.setList_rfc (x : List DriveEntry) : (s.setList x).rfc = s.rfc := rfl
@[simp] theorem State.setList_hli (x : List DriveEntry) : (s.setList x).hli = s.hli := rfl
@[simp] theorem State.setList_rst (x : List DriveEntry) : (s.setList x).rst = s.rst := rfl

/-! ### `setMsc` -/

@[simp] theorem State.setMsc_pending (x : Msc) : (s.setMsc x).pending = s.pending := rfl
@[simp] theorem State.setMsc_power (x : Msc) : (s.setMsc x).power = s.power := rfl
@[simp] theorem State.setMsc_settings (x : Msc) : (s.setMsc x).settings = s.settings := rfl
@[simp] theorem State.setMsc_selt (x : Msc) : (s.setMsc x).selt = s.selt := rfl
@[simp] theorem State.setMsc_sesc (x : Msc) : (s.setMsc x).sesc = s.sesc := rfl
@[simp] theorem State.setMsc_sdc (x : Msc) : (s.setMsc x).sdc = s.sdc := rfl
@[simp] theorem State.setMsc_chu (x : Msc) : (s.setMsc x).chu = s.chu := rfl
@[simp] theorem State.setMsc_cbm (x : Msc) : (s.setMsc x).cbm = s.cbm := rfl
@[simp] theorem State.setMsc_lba (x : Msc) : (s.setMsc x).lba = s.lba := rfl
@[simp] theorem State.setMsc_msc (x : Msc) : (s.setMsc x).msc = x := rfl
@[simp] theorem State.setMsc_ztc (x : Msc) : (s.setMsc x).ztc = s.ztc := rfl
@[simp] theorem State.setMsc_rfc (x : Msc) : (s.setMsc x).rfc = s.rfc := rfl
@[simp] theorem State.setMsc_hli (x : Msc) : (s.setMsc x).hli = s.hli := rfl
@[simp] theorem State.setMsc_rst (x : Msc) : (s.setMsc x).rst = s.rst := rfl

/-! ### `setRst` -/

@[simp] theorem State.setRst_pending (x : Rst) : (s.setRst x).pending = s.pending := rfl
@[simp] theorem State.setRst_power (x : Rst) : (s.setRst x).power = s.power := rfl
@[simp] theorem State.setRst_settings (x : Rst) : (s.setRst x).settings = s.settings := rfl
@[simp] theorem State.setRst_selt (x : Rst) : (s.setRst x).selt = s.selt := rfl
@[simp] theorem State.setRst_sesc (x : Rst) : (s.setRst x).sesc = s.sesc := rfl
@[simp] theorem State.setRst_sdc (x : Rst) : (s.setRst x).sdc = s.sdc := rfl
@[simp] theorem State.setRst_chu (x : Rst) : (s.setRst x).chu = s.chu := rfl
@[simp] theorem State.setRst_cbm (x : Rst) : (s.setRst x).cbm = s.cbm := rfl
@[simp] theorem State.setRst_lba (x : Rst) : (s.setRst x).lba = s.lba := rfl
@[simp] theorem State.setRst_msc (x : Rst) : (s.setRst x).msc = s.msc := rfl
@[simp] theorem State.setRst_ztc (x : Rst) : (s.setRst x).ztc = s.ztc := rfl
@[simp] theorem State.setRst_rfc (x : Rst) : (s.setRst x).rfc = s.rfc := rfl
@[simp] theorem State.setRst_hli (x : Rst) : (s.setRst x).hli = s.hli := rfl
@[simp] theorem State.setRst_rst (x : Rst) : (s.setRst x).rst = x := rfl

/-! ### `setBus` -/

@[simp] theorem State.setBus_pending (b : Bus) : (s.setBus b).pending = s.pending := rfl
@[simp] theorem State.setBus_power (b : Bus) : (s.setBus b).power = s.power := rfl
@[simp] theorem State.setBus_settings (b : Bus) : (s.setBus b).settings = s.settings := rfl
@[simp] theorem State.setBus_selt (b : Bus) : (s.setBus b).selt = s.selt := rfl
@[simp] theorem State.setBus_sesc (b : Bus) : (s.setBus b).sesc = s.sesc := rfl
@[simp] theorem State.setBus_sdc (b : Bus) : (s.setBus b).sdc = s.sdc := rfl
@[simp] theorem State.setBus_chu (b : Bus) : (s.setBus b).chu = s.chu := rfl
@[simp] theorem State.setBus_cbm (b : Bus) : (s.setBus b).cbm = { s.cbm with bus := b } := rfl
@[simp] theorem State.setBus_lba (b : Bus) : (s.setBus b).lba = s.lba := rfl
@[simp] theorem State.setBus_msc (b : Bus) : (s.setBus b).msc = s.msc := rfl
@[simp] theorem State.setBus_ztc (b : Bus) : (s.setBus b).ztc = s.ztc := rfl
@[simp] theorem State.setBus_rfc (b : Bus) : (s.setBus b).rfc = s.rfc := rfl
@[simp] theorem State.setBus_hli (b : Bus) : (s.setBus b).hli = s.hli := rfl
@[simp] theorem State.setBus_rst (b : Bus) : (s.setBus b).rst = s.rst := rfl

/-! ### `setQueue` -/

@[simp] theorem State.setQueue_pending (q : List (ZoneNo × Target)) :
    (s.setQueue q).pending = s.pending := rfl
@[simp] theorem State.setQueue_power (q : List (ZoneNo × Target)) :
    (s.setQueue q).power = s.power := rfl
@[simp] theorem State.setQueue_settings (q : List (ZoneNo × Target)) :
    (s.setQueue q).settings = s.settings := rfl
@[simp] theorem State.setQueue_selt (q : List (ZoneNo × Target)) :
    (s.setQueue q).selt = s.selt := rfl
@[simp] theorem State.setQueue_sesc (q : List (ZoneNo × Target)) :
    (s.setQueue q).sesc = s.sesc := rfl
@[simp] theorem State.setQueue_sdc (q : List (ZoneNo × Target)) : (s.setQueue q).sdc = s.sdc := rfl
@[simp] theorem State.setQueue_chu (q : List (ZoneNo × Target)) : (s.setQueue q).chu = s.chu := rfl
@[simp] theorem State.setQueue_cbm (q : List (ZoneNo × Target)) : (s.setQueue q).cbm = s.cbm := rfl
@[simp] theorem State.setQueue_lba (q : List (ZoneNo × Target)) : (s.setQueue q).lba = s.lba := rfl
@[simp] theorem State.setQueue_msc (q : List (ZoneNo × Target)) : (s.setQueue q).msc = s.msc := rfl
@[simp] theorem State.setQueue_ztc (q : List (ZoneNo × Target)) :
    (s.setQueue q).ztc = { s.ztc with queue := q } := rfl
@[simp] theorem State.setQueue_rfc (q : List (ZoneNo × Target)) : (s.setQueue q).rfc = s.rfc := rfl
@[simp] theorem State.setQueue_hli (q : List (ZoneNo × Target)) : (s.setQueue q).hli = s.hli := rfl
@[simp] theorem State.setQueue_rst (q : List (ZoneNo × Target)) : (s.setQueue q).rst = s.rst := rfl

/-! ### `setRfc` -/

@[simp] theorem State.setRfc_pending (x : RfcState) : (s.setRfc x).pending = s.pending := rfl
@[simp] theorem State.setRfc_power (x : RfcState) : (s.setRfc x).power = s.power := rfl
@[simp] theorem State.setRfc_settings (x : RfcState) : (s.setRfc x).settings = s.settings := rfl
@[simp] theorem State.setRfc_selt (x : RfcState) : (s.setRfc x).selt = s.selt := rfl
@[simp] theorem State.setRfc_sesc (x : RfcState) : (s.setRfc x).sesc = s.sesc := rfl
@[simp] theorem State.setRfc_sdc (x : RfcState) : (s.setRfc x).sdc = s.sdc := rfl
@[simp] theorem State.setRfc_chu (x : RfcState) : (s.setRfc x).chu = s.chu := rfl
@[simp] theorem State.setRfc_cbm (x : RfcState) : (s.setRfc x).cbm = s.cbm := rfl
@[simp] theorem State.setRfc_lba (x : RfcState) : (s.setRfc x).lba = s.lba := rfl
@[simp] theorem State.setRfc_msc (x : RfcState) : (s.setRfc x).msc = s.msc := rfl
@[simp] theorem State.setRfc_ztc (x : RfcState) : (s.setRfc x).ztc = s.ztc := rfl
@[simp] theorem State.setRfc_rfc (x : RfcState) :
    (s.setRfc x).rfc = { s.rfc with state := x } := rfl
@[simp] theorem State.setRfc_hli (x : RfcState) : (s.setRfc x).hli = s.hli := rfl
@[simp] theorem State.setRfc_rst (x : RfcState) : (s.setRfc x).rst = s.rst := rfl

/-! ### `noteMap` -/

@[simp] theorem State.noteMap_pending (m : BitVec 16) : (s.noteMap m).pending = s.pending := rfl
@[simp] theorem State.noteMap_power (m : BitVec 16) : (s.noteMap m).power = s.power := rfl
@[simp] theorem State.noteMap_settings (m : BitVec 16) : (s.noteMap m).settings = s.settings := rfl
@[simp] theorem State.noteMap_selt (m : BitVec 16) : (s.noteMap m).selt = s.selt := rfl
@[simp] theorem State.noteMap_sesc (m : BitVec 16) : (s.noteMap m).sesc = s.sesc := rfl
@[simp] theorem State.noteMap_sdc (m : BitVec 16) : (s.noteMap m).sdc = s.sdc := rfl
@[simp] theorem State.noteMap_chu (m : BitVec 16) :
    (s.noteMap m).chu = { s.chu with lastMap := some m } := rfl
@[simp] theorem State.noteMap_cbm (m : BitVec 16) : (s.noteMap m).cbm = s.cbm := rfl
@[simp] theorem State.noteMap_lba (m : BitVec 16) : (s.noteMap m).lba = s.lba := rfl
@[simp] theorem State.noteMap_msc (m : BitVec 16) : (s.noteMap m).msc = s.msc := rfl
@[simp] theorem State.noteMap_ztc (m : BitVec 16) : (s.noteMap m).ztc = s.ztc := rfl
@[simp] theorem State.noteMap_rfc (m : BitVec 16) : (s.noteMap m).rfc = s.rfc := rfl
@[simp] theorem State.noteMap_hli (m : BitVec 16) : (s.noteMap m).hli = s.hli := rfl
@[simp] theorem State.noteMap_rst (m : BitVec 16) : (s.noteMap m).rst = s.rst := rfl

/-! ### `editTube` -/

@[simp] theorem State.editTube_pending (i : Nat) (f : Tube → Tube) :
    (s.editTube i f).pending = s.pending := rfl
@[simp] theorem State.editTube_power (i : Nat) (f : Tube → Tube) :
    (s.editTube i f).power = s.power := rfl
@[simp] theorem State.editTube_settings (i : Nat) (f : Tube → Tube) :
    (s.editTube i f).settings = s.settings := rfl
@[simp] theorem State.editTube_selt (i : Nat) (f : Tube → Tube) :
    (s.editTube i f).selt = s.selt := rfl
@[simp] theorem State.editTube_sesc (i : Nat) (f : Tube → Tube) :
    (s.editTube i f).sesc = s.sesc := rfl
@[simp] theorem State.editTube_sdc (i : Nat) (f : Tube → Tube) : (s.editTube i f).sdc = s.sdc := rfl
@[simp] theorem State.editTube_chu (i : Nat) (f : Tube → Tube) :
    (s.editTube i f).chu = { s.chu with tubes := modifyAt f i s.chu.tubes } := rfl
@[simp] theorem State.editTube_cbm (i : Nat) (f : Tube → Tube) : (s.editTube i f).cbm = s.cbm := rfl
@[simp] theorem State.editTube_lba (i : Nat) (f : Tube → Tube) : (s.editTube i f).lba = s.lba := rfl
@[simp] theorem State.editTube_msc (i : Nat) (f : Tube → Tube) : (s.editTube i f).msc = s.msc := rfl
@[simp] theorem State.editTube_ztc (i : Nat) (f : Tube → Tube) : (s.editTube i f).ztc = s.ztc := rfl
@[simp] theorem State.editTube_rfc (i : Nat) (f : Tube → Tube) : (s.editTube i f).rfc = s.rfc := rfl
@[simp] theorem State.editTube_hli (i : Nat) (f : Tube → Tube) : (s.editTube i f).hli = s.hli := rfl
@[simp] theorem State.editTube_rst (i : Nat) (f : Tube → Tube) : (s.editTube i f).rst = s.rst := rfl

/-! ### `editHead` -/

@[simp] theorem State.editHead_pending (f : DriveEntry → DriveEntry) :
    (s.editHead f).pending = s.pending := rfl
@[simp] theorem State.editHead_power (f : DriveEntry → DriveEntry) :
    (s.editHead f).power = s.power := rfl
@[simp] theorem State.editHead_settings (f : DriveEntry → DriveEntry) :
    (s.editHead f).settings = s.settings := rfl
@[simp] theorem State.editHead_selt (f : DriveEntry → DriveEntry) :
    (s.editHead f).selt = s.selt := rfl
@[simp] theorem State.editHead_sesc (f : DriveEntry → DriveEntry) :
    (s.editHead f).sesc = s.sesc := rfl
@[simp] theorem State.editHead_sdc (f : DriveEntry → DriveEntry) :
    (s.editHead f).sdc = { s.sdc with list := modifyAt f 0 s.sdc.list } := rfl
@[simp] theorem State.editHead_chu (f : DriveEntry → DriveEntry) : (s.editHead f).chu = s.chu := rfl
@[simp] theorem State.editHead_cbm (f : DriveEntry → DriveEntry) : (s.editHead f).cbm = s.cbm := rfl
@[simp] theorem State.editHead_lba (f : DriveEntry → DriveEntry) : (s.editHead f).lba = s.lba := rfl
@[simp] theorem State.editHead_msc (f : DriveEntry → DriveEntry) : (s.editHead f).msc = s.msc := rfl
@[simp] theorem State.editHead_ztc (f : DriveEntry → DriveEntry) : (s.editHead f).ztc = s.ztc := rfl
@[simp] theorem State.editHead_rfc (f : DriveEntry → DriveEntry) : (s.editHead f).rfc = s.rfc := rfl
@[simp] theorem State.editHead_hli (f : DriveEntry → DriveEntry) : (s.editHead f).hli = s.hli := rfl
@[simp] theorem State.editHead_rst (f : DriveEntry → DriveEntry) : (s.editHead f).rst = s.rst := rfl

/-! ### `editPeriph` -/

@[simp] theorem State.editPeriph_pending (p : Peripheral) (f : PeriphRec → PeriphRec) :
    (s.editPeriph p f).pending = s.pending := rfl
@[simp] theorem State.editPeriph_power (p : Peripheral) (f : PeriphRec → PeriphRec) :
    (s.editPeriph p f).power = s.power := rfl
@[simp] theorem State.editPeriph_settings (p : Peripheral) (f : PeriphRec → PeriphRec) :
    (s.editPeriph p f).settings = s.settings := rfl
@[simp] theorem State.editPeriph_selt (p : Peripheral) (f : PeriphRec → PeriphRec) :
    (s.editPeriph p f).selt = s.selt := rfl
@[simp] theorem State.editPeriph_sesc (p : Peripheral) (f : PeriphRec → PeriphRec) :
    (s.editPeriph p f).sesc = s.sesc := rfl
@[simp] theorem State.editPeriph_sdc (p : Peripheral) (f : PeriphRec → PeriphRec) :
    (s.editPeriph p f).sdc = s.sdc := rfl
@[simp] theorem State.editPeriph_chu (p : Peripheral) (f : PeriphRec → PeriphRec) :
    (s.editPeriph p f).chu = s.chu := rfl
@[simp] theorem State.editPeriph_cbm (p : Peripheral) (f : PeriphRec → PeriphRec) :
    (s.editPeriph p f).cbm = s.cbm.set p (f (s.cbm.get p)) := rfl
@[simp] theorem State.editPeriph_lba (p : Peripheral) (f : PeriphRec → PeriphRec) :
    (s.editPeriph p f).lba = s.lba := rfl
@[simp] theorem State.editPeriph_msc (p : Peripheral) (f : PeriphRec → PeriphRec) :
    (s.editPeriph p f).msc = s.msc := rfl
@[simp] theorem State.editPeriph_ztc (p : Peripheral) (f : PeriphRec → PeriphRec) :
    (s.editPeriph p f).ztc = s.ztc := rfl
@[simp] theorem State.editPeriph_rfc (p : Peripheral) (f : PeriphRec → PeriphRec) :
    (s.editPeriph p f).rfc = s.rfc := rfl
@[simp] theorem State.editPeriph_hli (p : Peripheral) (f : PeriphRec → PeriphRec) :
    (s.editPeriph p f).hli = s.hli := rfl
@[simp] theorem State.editPeriph_rst (p : Peripheral) (f : PeriphRec → PeriphRec) :
    (s.editPeriph p f).rst = s.rst := rfl

/-! ### `editPending` -/

@[simp] theorem State.editPending_pending (p : Peripheral) (f : PendingSet → PendingSet) :
    (s.editPending p f).pending = s.pending := rfl
@[simp] theorem State.editPending_power (p : Peripheral) (f : PendingSet → PendingSet) :
    (s.editPending p f).power = s.power := rfl
@[simp] theorem State.editPending_settings (p : Peripheral) (f : PendingSet → PendingSet) :
    (s.editPending p f).settings = s.settings := rfl
@[simp] theorem State.editPending_selt (p : Peripheral) (f : PendingSet → PendingSet) :
    (s.editPending p f).selt = s.selt := rfl
@[simp] theorem State.editPending_sesc (p : Peripheral) (f : PendingSet → PendingSet) :
    (s.editPending p f).sesc = s.sesc := rfl
@[simp] theorem State.editPending_sdc (p : Peripheral) (f : PendingSet → PendingSet) :
    (s.editPending p f).sdc = s.sdc := rfl
@[simp] theorem State.editPending_chu (p : Peripheral) (f : PendingSet → PendingSet) :
    (s.editPending p f).chu = s.chu := rfl
@[simp] theorem State.editPending_cbm (p : Peripheral) (f : PendingSet → PendingSet) :
    (s.editPending p f).cbm = s.cbm.set p { s.cbm.get p with pending := f (s.cbm.get p).pending } := rfl
@[simp] theorem State.editPending_lba (p : Peripheral) (f : PendingSet → PendingSet) :
    (s.editPending p f).lba = s.lba := rfl
@[simp] theorem State.editPending_msc (p : Peripheral) (f : PendingSet → PendingSet) :
    (s.editPending p f).msc = s.msc := rfl
@[simp] theorem State.editPending_ztc (p : Peripheral) (f : PendingSet → PendingSet) :
    (s.editPending p f).ztc = s.ztc := rfl
@[simp] theorem State.editPending_rfc (p : Peripheral) (f : PendingSet → PendingSet) :
    (s.editPending p f).rfc = s.rfc := rfl
@[simp] theorem State.editPending_hli (p : Peripheral) (f : PendingSet → PendingSet) :
    (s.editPending p f).hli = s.hli := rfl
@[simp] theorem State.editPending_rst (p : Peripheral) (f : PendingSet → PendingSet) :
    (s.editPending p f).rst = s.rst := rfl

/-! ### `setCurtain` -/

@[simp] theorem State.setCurtain_pending (c : Curtain) (t : Option Nat) :
    (s.setCurtain c t).pending = s.pending := rfl
@[simp] theorem State.setCurtain_power (c : Curtain) (t : Option Nat) :
    (s.setCurtain c t).power = s.power := rfl
@[simp] theorem State.setCurtain_settings (c : Curtain) (t : Option Nat) :
    (s.setCurtain c t).settings = s.settings := rfl
@[simp] theorem State.setCurtain_selt (c : Curtain) (t : Option Nat) :
    (s.setCurtain c t).selt = s.selt := rfl
@[simp] theorem State.setCurtain_sesc (c : Curtain) (t : Option Nat) :
    (s.setCurtain c t).sesc = s.sesc := rfl
@[simp] theorem State.setCurtain_sdc (c : Curtain) (t : Option Nat) :
    (s.setCurtain c t).sdc = { s.sdc with curtain := c, curtainRead := true, blockTimer := t } := rfl
@[simp] theorem State.setCurtain_chu (c : Curtain) (t : Option Nat) :
    (s.setCurtain c t).chu = s.chu := rfl
@[simp] theorem State.setCurtain_cbm (c : Curtain) (t : Option Nat) :
    (s.setCurtain c t).cbm = s.cbm := rfl
@[simp] theorem State.setCurtain_lba (c : Curtain) (t : Option Nat) :
    (s.setCurtain c t).lba = s.lba := rfl
@[simp] theorem State.setCurtain_msc (c : Curtain) (t : Option Nat) :
    (s.setCurtain c t).msc = s.msc := rfl
@[simp] theorem State.setCurtain_ztc (c : Curtain) (t : Option Nat) :
    (s.setCurtain c t).ztc = s.ztc := rfl
@[simp] theorem State.setCurtain_rfc (c : Curtain) (t : Option Nat) :
    (s.setCurtain c t).rfc = s.rfc := rfl
@[simp] theorem State.setCurtain_hli (c : Curtain) (t : Option Nat) :
    (s.setCurtain c t).hli = s.hli := rfl
@[simp] theorem State.setCurtain_rst (c : Curtain) (t : Option Nat) :
    (s.setCurtain c t).rst = s.rst := rfl

/-! ### `elapse` -/

@[simp] theorem State.elapse_pending (d : Nat) : (s.elapse d).pending = s.pending := rfl
@[simp] theorem State.elapse_power (d : Nat) : (s.elapse d).power = s.power := rfl
@[simp] theorem State.elapse_settings (d : Nat) : (s.elapse d).settings = s.settings := rfl
@[simp] theorem State.elapse_selt (d : Nat) : (s.elapse d).selt = s.selt := rfl
@[simp] theorem State.elapse_sesc (d : Nat) :
    (s.elapse d).sesc = { s.sesc with inactivity := runDown s.sesc.inactivity d } := rfl
@[simp] theorem State.elapse_sdc (d : Nat) : (s.elapse d).sdc = s.sdc.elapse d := rfl
@[simp] theorem State.elapse_chu (d : Nat) :
    (s.elapse d).chu = { s.chu with payout := s.chu.payout.elapse d } := rfl
@[simp] theorem State.elapse_cbm (d : Nat) : (s.elapse d).cbm = s.cbm.elapse d := rfl
@[simp] theorem State.elapse_lba (d : Nat) : (s.elapse d).lba = s.lba.elapse d := rfl
@[simp] theorem State.elapse_msc (d : Nat) : (s.elapse d).msc = s.msc.elapse d := rfl
@[simp] theorem State.elapse_ztc (d : Nat) : (s.elapse d).ztc = s.ztc.elapse d := rfl
@[simp] theorem State.elapse_rfc (d : Nat) : (s.elapse d).rfc = s.rfc.elapse d := rfl
@[simp] theorem State.elapse_hli (d : Nat) : (s.elapse d).hli = s.hli := rfl
@[simp] theorem State.elapse_rst (d : Nat) : (s.elapse d).rst = s.rst := rfl

/-! ### `creditCoin` -/

@[simp] theorem State.creditCoin_pending (v : Nat) : (s.creditCoin v).pending = s.pending := rfl
@[simp] theorem State.creditCoin_power (v : Nat) : (s.creditCoin v).power = s.power := rfl
@[simp] theorem State.creditCoin_settings (v : Nat) : (s.creditCoin v).settings = s.settings := rfl
@[simp] theorem State.creditCoin_selt (v : Nat) : (s.creditCoin v).selt = s.selt := rfl
@[simp] theorem State.creditCoin_sesc (v : Nat) :
    (s.creditCoin v).sesc = { s.sesc with credit := s.sesc.credit + money v } := rfl
@[simp] theorem State.creditCoin_sdc (v : Nat) : (s.creditCoin v).sdc = s.sdc := rfl
@[simp] theorem State.creditCoin_chu (v : Nat) :
    (s.creditCoin v).chu = { s.chu with totals := { s.chu.totals with coinsIn := s.chu.totals.coinsIn + money v } } := rfl
@[simp] theorem State.creditCoin_cbm (v : Nat) : (s.creditCoin v).cbm = s.cbm := rfl
@[simp] theorem State.creditCoin_lba (v : Nat) : (s.creditCoin v).lba = s.lba := rfl
@[simp] theorem State.creditCoin_msc (v : Nat) : (s.creditCoin v).msc = s.msc := rfl
@[simp] theorem State.creditCoin_ztc (v : Nat) : (s.creditCoin v).ztc = s.ztc := rfl
@[simp] theorem State.creditCoin_rfc (v : Nat) : (s.creditCoin v).rfc = s.rfc := rfl
@[simp] theorem State.creditCoin_hli (v : Nat) : (s.creditCoin v).hli = s.hli := rfl
@[simp] theorem State.creditCoin_rst (v : Nat) : (s.creditCoin v).rst = s.rst := rfl

/-! ### `creditBill` -/

@[simp] theorem State.creditBill_pending (v : Nat) : (s.creditBill v).pending = s.pending := rfl
@[simp] theorem State.creditBill_power (v : Nat) : (s.creditBill v).power = s.power := rfl
@[simp] theorem State.creditBill_settings (v : Nat) : (s.creditBill v).settings = s.settings := rfl
@[simp] theorem State.creditBill_selt (v : Nat) : (s.creditBill v).selt = s.selt := rfl
@[simp] theorem State.creditBill_sesc (v : Nat) :
    (s.creditBill v).sesc = { s.sesc with credit := s.sesc.credit + money v } := rfl
@[simp] theorem State.creditBill_sdc (v : Nat) : (s.creditBill v).sdc = s.sdc := rfl
@[simp] theorem State.creditBill_chu (v : Nat) :
    (s.creditBill v).chu = { s.chu with totals := { s.chu.totals with billsIn := s.chu.totals.billsIn + money v } } := rfl
@[simp] theorem State.creditBill_cbm (v : Nat) : (s.creditBill v).cbm = s.cbm := rfl
@[simp] theorem State.creditBill_lba (v : Nat) : (s.creditBill v).lba = s.lba := rfl
@[simp] theorem State.creditBill_msc (v : Nat) : (s.creditBill v).msc = s.msc := rfl
@[simp] theorem State.creditBill_ztc (v : Nat) : (s.creditBill v).ztc = s.ztc := rfl
@[simp] theorem State.creditBill_rfc (v : Nat) : (s.creditBill v).rfc = s.rfc := rfl
@[simp] theorem State.creditBill_hli (v : Nat) : (s.creditBill v).hli = s.hli := rfl
@[simp] theorem State.creditBill_rst (v : Nat) : (s.creditBill v).rst = s.rst := rfl

/-! ### `chargeCash` -/

@[simp] theorem State.chargeCash_pending (v : Nat) : (s.chargeCash v).pending = s.pending := rfl
@[simp] theorem State.chargeCash_power (v : Nat) : (s.chargeCash v).power = s.power := rfl
@[simp] theorem State.chargeCash_settings (v : Nat) : (s.chargeCash v).settings = s.settings := rfl
@[simp] theorem State.chargeCash_selt (v : Nat) : (s.chargeCash v).selt = s.selt := rfl
@[simp] theorem State.chargeCash_sesc (v : Nat) :
    (s.chargeCash v).sesc = { s.sesc with credit := s.sesc.credit - money v } := rfl
@[simp] theorem State.chargeCash_sdc (v : Nat) : (s.chargeCash v).sdc = s.sdc := rfl
@[simp] theorem State.chargeCash_chu (v : Nat) :
    (s.chargeCash v).chu = { s.chu with totals := { s.chu.totals with cashSales := s.chu.totals.cashSales + money v } } := rfl
@[simp] theorem State.chargeCash_cbm (v : Nat) : (s.chargeCash v).cbm = s.cbm := rfl
@[simp] theorem State.chargeCash_lba (v : Nat) : (s.chargeCash v).lba = s.lba := rfl
@[simp] theorem State.chargeCash_msc (v : Nat) : (s.chargeCash v).msc = s.msc := rfl
@[simp] theorem State.chargeCash_ztc (v : Nat) : (s.chargeCash v).ztc = s.ztc := rfl
@[simp] theorem State.chargeCash_rfc (v : Nat) : (s.chargeCash v).rfc = s.rfc := rfl
@[simp] theorem State.chargeCash_hli (v : Nat) : (s.chargeCash v).hli = s.hli := rfl
@[simp] theorem State.chargeCash_rst (v : Nat) : (s.chargeCash v).rst = s.rst := rfl

/-! ### `payChange` -/

@[simp] theorem State.payChange_pending (v : Nat) : (s.payChange v).pending = s.pending := rfl
@[simp] theorem State.payChange_power (v : Nat) : (s.payChange v).power = s.power := rfl
@[simp] theorem State.payChange_settings (v : Nat) : (s.payChange v).settings = s.settings := rfl
@[simp] theorem State.payChange_selt (v : Nat) : (s.payChange v).selt = s.selt := rfl
@[simp] theorem State.payChange_sesc (v : Nat) :
    (s.payChange v).sesc = { s.sesc with credit := s.sesc.credit - money v } := rfl
@[simp] theorem State.payChange_sdc (v : Nat) : (s.payChange v).sdc = s.sdc := rfl
@[simp] theorem State.payChange_chu (v : Nat) :
    (s.payChange v).chu = { s.chu with totals := { s.chu.totals with changePaid := s.chu.totals.changePaid + money v } } := rfl
@[simp] theorem State.payChange_cbm (v : Nat) : (s.payChange v).cbm = s.cbm := rfl
@[simp] theorem State.payChange_lba (v : Nat) : (s.payChange v).lba = s.lba := rfl
@[simp] theorem State.payChange_msc (v : Nat) : (s.payChange v).msc = s.msc := rfl
@[simp] theorem State.payChange_ztc (v : Nat) : (s.payChange v).ztc = s.ztc := rfl
@[simp] theorem State.payChange_rfc (v : Nat) : (s.payChange v).rfc = s.rfc := rfl
@[simp] theorem State.payChange_hli (v : Nat) : (s.payChange v).hli = s.hli := rfl
@[simp] theorem State.payChange_rst (v : Nat) : (s.payChange v).rst = s.rst := rfl

/-! ### `tookGrant` and `takeGrant` -/

@[simp] theorem State.tookGrant_pending (l : Load) : (s.tookGrant l).pending = s.pending := rfl
@[simp] theorem State.tookGrant_power (l : Load) : (s.tookGrant l).power = s.power := rfl
@[simp] theorem State.tookGrant_settings (l : Load) : (s.tookGrant l).settings = s.settings := rfl
@[simp] theorem State.tookGrant_selt (l : Load) : (s.tookGrant l).selt = s.selt := rfl
@[simp] theorem State.tookGrant_sesc (l : Load) : (s.tookGrant l).sesc = s.sesc := rfl
@[simp] theorem State.tookGrant_sdc (l : Load) : (s.tookGrant l).sdc = s.sdc := rfl
@[simp] theorem State.tookGrant_chu (l : Load) : (s.tookGrant l).chu = s.chu := rfl
@[simp] theorem State.tookGrant_cbm (l : Load) : (s.tookGrant l).cbm = s.cbm := rfl
@[simp] theorem State.tookGrant_msc (l : Load) : (s.tookGrant l).msc = s.msc := rfl
@[simp] theorem State.tookGrant_ztc (l : Load) : (s.tookGrant l).ztc = s.ztc := rfl
@[simp] theorem State.tookGrant_rfc (l : Load) : (s.tookGrant l).rfc = s.rfc := rfl
@[simp] theorem State.tookGrant_hli (l : Load) : (s.tookGrant l).hli = s.hli := rfl
@[simp] theorem State.tookGrant_rst (l : Load) : (s.tookGrant l).rst = s.rst := rfl
@[simp] theorem State.tookGrant_loads (l : Load) : (s.tookGrant l).lba.loads = s.lba.loads := rfl
@[simp] theorem State.tookGrant_band (l : Load) : (s.tookGrant l).lba.band = s.lba.band := rfl
@[simp] theorem State.tookGrant_load (l k : Load) : (s.tookGrant l).load k = s.load k := rfl
@[simp] theorem State.tookGrant_sumHeld (l : Load) : (s.tookGrant l).sumHeld = s.sumHeld := rfl
@[simp] theorem State.tookGrant_budget (l : Load) : (s.tookGrant l).budget = s.budget := rfl

/-- All a grant command can do: its effect on a GRANTED load in its turn, or nothing. -/
theorem State.takeGrant_cases (l : Load) (f : State → State) :
    ((s.load l).isGranted = true ∧ s.inTurn l = true ∧ s.takeGrant l f = f (s.tookGrant l)) ∨
    (((s.load l).isGranted = false ∨ s.inTurn l = false) ∧ s.takeGrant l f = s) := by
  unfold State.takeGrant
  cases (s.load l).isGranted <;> cases s.inTurn l <;> simp

/-- The loads of the untaken grants that satisfy `keep`. -/
theorem mem_keepUntaken {keep : Load → Bool} {u : List (List Load)} {pass : List Load}
    (h : pass ∈ keepUntaken keep u) : pass ≠ [] ∧ ∀ l ∈ pass, keep l = true ∧ ∃ p ∈ u, l ∈ p := by
  simp only [keepUntaken, List.mem_filter, List.mem_map] at h
  obtain ⟨⟨p, hp, rfl⟩, h⟩ := h
  refine ⟨fun e => by simp [e] at h, fun l hl => ?_⟩
  exact ⟨(List.mem_filter.1 hl).2, p, hp, (List.mem_filter.1 hl).1⟩

/-! ### Optional fields of a body (R195) -/

theorem fieldWhen_present {present : Prop} [Decidable present] (h : present) (fs : List Field) :
    fieldWhen present fs = .byte 1 :: fs := by simp [fieldWhen, optField, h]

theorem fieldWhen_absent {present : Prop} [Decidable present] (h : ¬present) (fs : List Field) :
    fieldWhen present fs = [.byte 0] := by simp [fieldWhen, optField, h]

end Sys2Proof.Machine
end

