-- ==== Sys2Proof/Laws/Frames.lean ====
section
/-! SUPPORT. What each shared operation can change: the operation's result as the state with the records
it may write. -/

namespace Sys2Proof.Machine

variable (s : State)

/-! ### LBA -/

theorem State.revokeDefrost_frame : ∃ ls x,
    s.revokeDefrost = { s with lba := { s.lba with loads := ls }, rfc := x } := by
  unfold State.revokeDefrost
  split
  · split <;> exact ⟨_, _, rfl⟩
  · exact ⟨_, _, rfl⟩

theorem State.revokeCompressor_frame : ∃ ls x,
    s.revokeCompressor = { s with lba := { s.lba with loads := ls }, rfc := x } := by
  unfold State.revokeCompressor
  split
  · split
    · split
      · exact ⟨_, _, rfl⟩
      · split <;> exact ⟨_, _, rfl⟩
    · exact ⟨_, _, rfl⟩
  · exact ⟨_, _, rfl⟩

/-- A grant pass changes load records and, by a revocation, RFC. -/
theorem State.grantPass_frame : ∃ ls us x,
    s.grantPass = { s with lba := { s.lba with loads := ls, untaken := us }, rfc := x } := by
  obtain ⟨a, x, h⟩ := s.revokeDefrost_frame
  obtain ⟨b, y, k⟩ := s.revokeDefrost.revokeCompressor_frame
  rw [h] at k
  unfold State.grantPass
  rw [h]
  simp only [k]
  split <;> exact ⟨_, _, _, rfl⟩

/-- A grant pass from a state that differs only in load records. -/
theorem State.setLoad_grantPass_frame (l : Load) (r : LoadRec) : ∃ ls us x,
    (s.setLoad l r).grantPass = { s with lba := { s.lba with loads := ls, untaken := us }, rfc := x } := by
  obtain ⟨ls, us, x, h⟩ := (s.setLoad l r).grantPass_frame
  exact ⟨ls, us, x, h⟩

theorem State.request_frame (l : Load) (w : Nat) : ∃ ls us x,
    s.request l w = { s with lba := { s.lba with loads := ls, untaken := us }, rfc := x } := by
  unfold State.request
  split
  · exact s.setLoad_grantPass_frame _ _
  · exact s.setLoad_grantPass_frame _ _
  · exact ⟨_, _, _, rfl⟩

theorem State.release_frame (l : Load) : ∃ ls us x,
    s.release l = { s with lba := { s.lba with loads := ls, untaken := us }, rfc := x } := by
  unfold State.release
  split
  · exact ⟨_, _, _, rfl⟩
  · exact s.setLoad_grantPass_frame _ _

theorem State.reduceWeight_frame (l : Load) (w : Nat) : ∃ ls us x,
    s.reduceWeight l w = { s with lba := { s.lba with loads := ls, untaken := us }, rfc := x } := by
  unfold State.reduceWeight
  split
  · split
    · exact s.setLoad_grantPass_frame _ _
    · exact ⟨_, _, _, rfl⟩
  · exact ⟨_, _, _, rfl⟩

theorem State.setBand_frame (b : Band) : ∃ ns,
    s.setBand b = { s with
      lba := { s.lba with band := b }, hli := { s.hli with notices := ns } } := by
  unfold State.setBand
  split
  · next h => subst h; exact ⟨_, rfl⟩
  · exact ⟨_, rfl⟩

/-! ### CBM and CHU -/

theorem State.hand_frame (p : Peripheral) (f : PendingSet → PendingSet) : ∃ c,
    s.hand p f = { s with cbm := c } := by
  unfold State.hand
  split <;> exact ⟨_, rfl⟩

/-- The route map's recomputation changes the map last handed and the pending set. -/
theorem State.updateRoute_frame : ∃ m c,
    s.updateRoute = { s with chu := { s.chu with lastMap := m }, cbm := c } := by
  unfold State.updateRoute
  simp only
  split
  · exact ⟨_, _, rfl⟩
  · obtain ⟨c, h⟩ := (s.noteMap s.routeMap).hand_frame .coin
      fun q => { q with routeMap := some s.routeMap }
    exact ⟨_, _, h⟩

theorem State.updateMask_frame (p : Peripheral) : ∃ a b c,
    s.updateMask p = { s with
      chu := { s.chu with lastCoinMask := a, lastBillMask := b }, cbm := c } := by
  unfold State.updateMask
  simp only
  split
  · exact ⟨_, _, _, rfl⟩
  · obtain ⟨c, h⟩ := (s.noteMask p (s.maskOf p)).hand_frame p
      fun q => { q with acceptMask := some (s.maskOf p) }
    cases p <;> exact ⟨_, _, _, h⟩

/-- The masks' recomputation changes the masks last handed and the pending sets. -/
theorem State.updateMasks_frame : ∃ a b c,
    s.updateMasks = { s with
      chu := { s.chu with lastCoinMask := a, lastBillMask := b }, cbm := c } := by
  obtain ⟨a, b, c, h⟩ := s.updateMask_frame .coin
  obtain ⟨a', b', c', k⟩ := (s.updateMask .coin).updateMask_frame .bill
  rw [h] at k
  unfold State.updateMasks
  rw [h, k]
  exact ⟨_, _, _, rfl⟩

/-- The evaluation of the exact-change flag changes the flag and the notices. -/
theorem State.evalExact_frame : ∃ f ns,
    s.evalExact = { s with
      chu := { s.chu with exactChange := f }, hli := { s.hli with notices := ns } } := by
  unfold State.evalExact
  simp only
  split
  · split <;> exact ⟨_, _, rfl⟩
  · exact ⟨_, _, rfl⟩

/-- What follows a change of a tube. -/
theorem State.tubesChanged_frame : ∃ m f c ns,
    s.tubesChanged = { s with
      chu := { s.chu with lastMap := m, exactChange := f }
      cbm := c
      hli := { s.hli with notices := ns } } := by
  obtain ⟨m, c, h⟩ := s.updateRoute_frame
  obtain ⟨f, ns, k⟩ := s.updateRoute.evalExact_frame
  rw [h] at k
  unfold State.tubesChanged
  rw [h, k]
  exact ⟨_, _, _, _, rfl⟩

/-- The end of an event changes the SESSION notice, the masks last handed and the pending sets. -/
theorem State.closeEvent_frame (before : Session) : ∃ a b c ns,
    s.closeEvent before = { s with
      chu := { s.chu with lastCoinMask := a, lastBillMask := b }
      cbm := c
      hli := { s.hli with notices := ns } } := by
  unfold State.closeEvent
  split
  · exact ⟨_, _, _, _, rfl⟩
  · obtain ⟨a, b, c, h⟩ :=
      (s.raise (.session s.sesc.phase s.sesc.credit s.sesc.escrowValue)).updateMasks_frame
    exact ⟨_, _, _, _, h⟩

/-! ### SDC -/

theorem State.enterAwaitPower_frame (u : DriveUnit) : ∃ x ls us r,
    s.enterAwaitPower u = { s with
      sdc := x, lba := { s.lba with loads := ls, untaken := us }, rfc := r } := by
  unfold State.enterAwaitPower
  obtain ⟨ls, us, r, h⟩ := (s.setSdc
    { s.sdc with seq := .awaitPower, powerTimer := some powerTimerMs }).request_frame .spiral
    (s.spiralWeightOf u)
  exact ⟨_, _, _, _, h⟩

theorem State.takeHead_frame : ∃ x ls us r,
    s.takeHead = { s with sdc := x, lba := { s.lba with loads := ls, untaken := us }, rfc := r } := by
  unfold State.takeHead
  split
  · split
    · next e _ _ =>
      obtain ⟨x, ls, us, r, h⟩ := (s.editHead fun e => { e with
        running := true, delivered := false, revolutions := 0, extra := false }).enterAwaitPower_frame
        e.unit
      exact ⟨_, _, _, _, h⟩
    · exact ⟨_, _, _, _, rfl⟩
  · exact ⟨_, _, _, _, rfl⟩

theorem State.deenergize_frame : ∃ x m ls us r,
    s.deenergize = { s with
      sdc := x, msc := m, lba := { s.lba with loads := ls, untaken := us }, rfc := r } := by
  unfold State.deenergize
  obtain ⟨ls, us, r, h⟩ := (({ s with msc := { s.msc with lastSample := none, sampleLeft := 0 } } :
    State).setSdc { s.sdc with
      energized := none, powerTimer := none, leaveTimer := none, turnTimer := none,
      settleTimer := none }).release_frame .spiral
  exact ⟨_, _, _, _, _, h⟩

/-! ### The payout executor and the session -/

theorem State.endPayout_frame (k : Bool) : ∃ p f ls us r ns,
    s.endPayout k = { s with
      chu := { s.chu with payout := p, exactChange := f }
      lba := { s.lba with loads := ls, untaken := us }
      rfc := r
      hli := { s.hli with notices := ns } } := by
  unfold State.endPayout
  simp only
  split
  · obtain ⟨f, ns, h⟩ := State.evalExact_frame _
    rw [h]
    exact ⟨_, _, _, _, _, _, rfl⟩
  · obtain ⟨ls, us, r, h⟩ := State.release_frame _ .payout
    rw [h]
    obtain ⟨f, ns, h⟩ := State.evalExact_frame _
    rw [h]
    exact ⟨_, _, _, _, _, _, rfl⟩

theorem State.creditOrIdle_frame : ∃ x, s.creditOrIdle = { s with sesc := x } := by
  unfold State.creditOrIdle
  split <;> exact ⟨_, rfl⟩

theorem State.pulse_frame : ∃ p, s.pulse = { s with chu := { s.chu with payout := p } } := by
  unfold State.pulse
  split <;> exact ⟨_, rfl⟩

theorem State.endChange_frame : ∃ p f ls us r ns x,
    s.endChange = { s with
      chu := { s.chu with payout := p, exactChange := f }
      lba := { s.lba with loads := ls, untaken := us }
      rfc := r
      hli := { s.hli with notices := ns }
      sesc := x } := by
  unfold State.endChange
  obtain ⟨p, f, ls, us, r, ns, h⟩ := s.endPayout_frame false
  rw [h]
  obtain ⟨x, h⟩ := State.creditOrIdle_frame _
  rw [h]
  exact ⟨_, _, _, _, _, _, _, rfl⟩

theorem State.startChange_frame (n : Nat) (g : Bool) : ∃ p f ls us r ns x,
    s.startChange n g = { s with
      chu := { s.chu with payout := p, exactChange := f }
      lba := { s.lba with loads := ls, untaken := us }
      rfc := r
      hli := { s.hli with notices := ns }
      sesc := x } := by
  unfold State.startChange
  simp only
  split
  · obtain ⟨p, f, ls, us, r, ns, x, h⟩ := State.endChange_frame _
    rw [h]
    exact ⟨_, _, _, _, _, _, _, rfl⟩
  · split
    · unfold State.startEjecting
      obtain ⟨p, h⟩ := State.pulse_frame _
      rw [h]
      exact ⟨_, _, _, _, _, _, _, rfl⟩
    · obtain ⟨ls, us, r, h⟩ := State.request_frame _ .payout s.settings.payoutWeight
      exact ⟨_, _, _, _, _, _, _, h⟩

theorem State.payCredit_frame : ∃ p f ls us r ns x,
    s.payCredit = { s with
      chu := { s.chu with payout := p, exactChange := f }
      lba := { s.lba with loads := ls, untaken := us }
      rfc := r
      hli := { s.hli with notices := ns }
      sesc := x } := by
  unfold State.payCredit
  simp only
  split
  · exact s.startChange_frame _ false
  · obtain ⟨p, f, ls, us, r, ns, h⟩ := s.endPayout_frame false
    rw [h]
    obtain ⟨p, f, ls, us, r, ns, x, h⟩ := State.startChange_frame _ _ false
    rw [h]
    exact ⟨_, _, _, _, _, _, _, rfl⟩
  · exact ⟨_, _, _, _, _, _, _, rfl⟩

/-- PAYING or IDLE: the session, the executor and what its grants draw. -/
theorem State.payOrIdle_frame : ∃ p f ls us r ns x,
    s.payOrIdle = { s with
      chu := { s.chu with payout := p, exactChange := f }
      lba := { s.lba with loads := ls, untaken := us }
      rfc := r
      hli := { s.hli with notices := ns }
      sesc := x } := by
  unfold State.payOrIdle
  split
  · exact ⟨_, _, _, _, _, _, _, rfl⟩
  · unfold State.enterPaying
    obtain ⟨p, f, ls, us, r, ns, x, h⟩ := State.payCredit_frame _
    rw [h]
    exact ⟨_, _, _, _, _, _, _, rfl⟩

theorem State.settle_frame (c : Nat) : ∃ p f ls us r ns x,
    s.settle c = { s with
      chu := { s.chu with payout := p, exactChange := f }
      lba := { s.lba with loads := ls, untaken := us }
      rfc := r
      hli := { s.hli with notices := ns }
      sesc := x } := by
  unfold State.settle
  obtain ⟨p, f, ls, us, r, ns, x, h⟩ := State.payOrIdle_frame _
  rw [h]
  exact ⟨_, _, _, _, _, _, _, rfl⟩

/-! ### RFC and ZTC -/

theorem State.stopCompressor_frame : ∃ ls us r,
    s.stopCompressor = { s with lba := { s.lba with loads := ls, untaken := us }, rfc := r } := by
  unfold State.stopCompressor
  obtain ⟨ls, us, r, h⟩ := State.release_frame _ .compressor
  exact ⟨_, _, _, h⟩

theorem State.enterDefrost_frame : ∃ ls us r,
    s.enterDefrost = { s with
      lba := { s.lba with loads := ls, untaken := us }
      rfc := r
      ztc := { s.ztc with allowance := true } } := by
  unfold State.enterDefrost
  obtain ⟨ls, us, r, h⟩ := State.request_frame _ .defrost s.settings.defrostWeight
  exact ⟨_, _, _, h⟩

theorem State.enterWaitPower_frame : ∃ ls us r,
    s.enterWaitPower = { s with lba := { s.lba with loads := ls, untaken := us }, rfc := r } := by
  unfold State.enterWaitPower
  obtain ⟨ls, us, r, h⟩ := State.request_frame _ .compressor s.settings.startWeight
  exact ⟨_, _, _, h⟩

theorem State.readyCheck_frame : ∃ ls us r,
    s.readyCheck = { s with lba := { s.lba with loads := ls, untaken := us }, rfc := r } := by
  unfold State.readyCheck
  split
  · exact s.enterWaitPower_frame
  · exact ⟨_, _, _, rfl⟩

theorem State.leaveWaitPower_frame (x : RfcState) : ∃ ls us r,
    s.leaveWaitPower x = { s with lba := { s.lba with loads := ls, untaken := us }, rfc := r } := by
  unfold State.leaveWaitPower
  obtain ⟨ls, us, r, h⟩ := State.release_frame _ .compressor
  exact ⟨_, _, _, h⟩

/-- A demand handed to RFC changes RFC and its loads. -/
theorem State.takeDemand_frame (d : Bool) : ∃ ls us r,
    s.takeDemand d = { s with lba := { s.lba with loads := ls, untaken := us }, rfc := r } := by
  unfold State.takeDemand
  simp only
  split
  · obtain ⟨ls, us, r, h⟩ := State.readyCheck_frame _
    exact ⟨_, _, _, h⟩
  · split
    · exact ⟨_, _, _, rfl⟩
    · obtain ⟨ls, us, r, h⟩ := State.leaveWaitPower_frame _ .ready
      exact ⟨_, _, _, h⟩
  · split
    · obtain ⟨ls, us, r, h⟩ := State.stopCompressor_frame _
      exact ⟨_, _, _, h⟩
    · exact ⟨_, _, _, rfl⟩
  · exact ⟨_, _, _, rfl⟩

theorem State.updateDemand_frame : ∃ d ls us r,
    s.updateDemand = { s with
      ztc := { s.ztc with demand := d }, lba := { s.lba with loads := ls, untaken := us }, rfc := r } := by
  unfold State.updateDemand
  simp only
  split
  · exact ⟨_, _, _, _, rfl⟩
  · obtain ⟨ls, us, r, h⟩ := State.takeDemand_frame _ s.ztc.wanted
    rw [h]
    exact ⟨_, _, _, _, rfl⟩

theorem State.askDamper_frame : ∃ ls us r,
    s.askDamper = { s with lba := { s.lba with loads := ls, untaken := us }, rfc := r } := by
  unfold State.askDamper
  split
  · exact s.request_frame _ _
  · exact ⟨_, _, _, rfl⟩

theorem State.withdrawDamper_frame : ∃ ls us r,
    s.withdrawDamper = { s with lba := { s.lba with loads := ls, untaken := us }, rfc := r } := by
  unfold State.withdrawDamper
  split
  · exact s.release_frame _
  · exact ⟨_, _, _, rfl⟩

/-- The queueing check changes the queue, the demand, RFC and the loads. -/
theorem State.queueCheck_frame (z : ZoneNo) : ∃ q d ls us r,
    s.queueCheck z = { s with
      ztc := { s.ztc with queue := q, demand := d }
      lba := { s.lba with loads := ls, untaken := us }
      rfc := r } := by
  unfold State.queueCheck
  obtain ⟨ls, us, r, h⟩ := State.withdrawDamper_frame
    (s.setQueue (queueAfter z (s.zone z).target (s.targetReached z (s.zone z).target) s.ztc.queue))
  simp only [h]
  obtain ⟨ls, us, r, h⟩ := State.askDamper_frame
    { s.setQueue (queueAfter z (s.zone z).target (s.targetReached z (s.zone z).target)
      s.ztc.queue) with lba := { s.lba with loads := ls, untaken := us }, rfc := r }
  erw [h]
  obtain ⟨d, ls, us, r, h⟩ := State.updateDemand_frame _
  rw [h]
  exact ⟨_, _, _, _, _, rfl⟩

/-- The power-fail warning at ZTC: the dampers and their queue, the demand, and what the DAMPER load and RFC
draw (R174). -/
theorem State.stopMove_frame : ∃ z ls us r,
    s.stopMove = { s with ztc := z, lba := { s.lba with loads := ls, untaken := us }, rfc := r } := by
  unfold State.stopMove
  split
  · split
    · obtain ⟨ls, us, r, h⟩ := s.release_frame .damper
      rw [h]
      obtain ⟨ls, us, r, h⟩ := State.askDamper_frame _
      rw [h]
      exact ⟨_, _, _, _, rfl⟩
    · exact ⟨_, _, _, _, rfl⟩
  · next m _ =>
    obtain ⟨ls, us, r, h⟩ := State.release_frame
      { s.setZone m.zone { s.zone m.zone with damper := .unknown } with
        ztc := { (s.setZone m.zone { s.zone m.zone with damper := .unknown }).ztc with
          running := none } } .damper
    obtain ⟨q, d, ls, us', r', k⟩ := State.queueCheck_frame _ m.zone
    exact ⟨_, ls, us', r', (congrArg (State.queueCheck · m.zone) h).trans k⟩

end Sys2Proof.Machine
end

