-- ==== Sys2Proof/Laws/Link.lean ====
section
/-! SUPPORT. Bodies read back from the bytes they were built of, and what a received byte does. -/

namespace Sys2Proof.Machine

/-! ### Fields of a body -/

@[simp] theorem byteAt_zero (b : Byte) (rest : List Byte) : byteAt (b :: rest) 0 = b := rfl

@[simp] theorem byteAt_succ (b : Byte) (rest : List Byte) (i : Nat) :
    byteAt (b :: rest) (i + 1) = byteAt rest i := rfl

@[simp] theorem halfAt_succ (b : Byte) (rest : List Byte) (i : Nat) :
    halfAt (b :: rest) (i + 1) = halfAt rest i := rfl

@[simp] theorem fullAt_succ (b : Byte) (rest : List Byte) (i : Nat) :
    fullAt (b :: rest) (i + 1) = fullAt rest i := rfl

@[simp] theorem bytes_byteField (b : Byte) : (byteField b).bytes = [b] := by
  simp [byteField, Field.bytes]

/-- The high and the low byte of a number, one behind the other, are the number. -/
theorem high_low (n : Half) : (n >>> 8).setWidth 8 ++ n.setWidth 8 = n := by
  apply BitVec.eq_of_toNat_eq
  have h : n.toNat % 2 ^ 8 < 2 ^ 8 := by omega
  rw [BitVec.toNat_append, BitVec.toNat_setWidth, BitVec.toNat_setWidth, BitVec.toNat_ushiftRight,
    ← Nat.shiftLeft_add_eq_or_of_lt h, Nat.shiftLeft_eq, Nat.shiftRight_eq_div_pow]
  omega

theorem ofInt_toNat (w : Nat) (n : BitVec w) : BitVec.ofInt w (n.toNat : Int) = n := by
  simp [BitVec.ofInt_natCast]

@[simp] theorem bytes_numField (n : Half) :
    (numField n).bytes = [(n >>> 8).setWidth 8, n.setWidth 8] := by
  simp only [numField, Field.bytes, ofInt_toNat]

/-- A number read where its bytes stand (R195). -/
@[simp] theorem halfAt_bytes_numField (n : Half) (rest : List Byte) :
    halfAt ((numField n).bytes ++ rest) 0 = n := by
  simpa [halfAt] using high_low n

/-! ### Received bytes -/

/-- A byte does what its row of the table does, or is collected, and before the restore ends nothing
(R192, R206). -/
theorem State.takeByte_eq (s : State) (b : Byte) :
    s.takeByte b = if s.power = .running then
      ((s.byteCommand b).map fun c => exec c s).getD (.next (s.collect b)) else .next s := by
  unfold State.takeByte
  cases s.byteCommand b <;> rfl

@[simp] theorem State.collect_receiving (s : State) (b : Byte) (got : List Byte)
    (h : s.hli.slot = .receiving got) : s.collect b = s.setSlot (.receiving (got ++ [b])) := by
  simp [State.collect, h]

@[simp] theorem takeBytes_nil (s : State) : takeBytes [] s = .next s := rfl

theorem takeBytes_cons (b : Byte) (rest : List Byte) (s t : State) (h : s.takeByte b = .next t) :
    takeBytes (b :: rest) s = takeBytes rest t := by
  simp [takeBytes, h]

theorem charSum_append (xs ys : List Byte) : charSum (xs ++ ys) = charSum xs + charSum ys := by
  have h : ∀ (zs : List Byte) (a : Byte), zs.foldl (· + ·) a = a + zs.foldl (· + ·) 0 := by
    intro zs
    induction zs with
    | nil => simp
    | cons z zs ih => intro a; rw [List.foldl_cons, List.foldl_cons, ih, ih (0 + z)]; simp [BitVec.add_assoc]
  simp only [charSum, List.foldl_append]
  exact h ys _

/-- LEN through CHK of a request frame sum to 0 (R195). -/
theorem requestFrame_sum (code : Nat) (body : List Byte) :
    charSum (requestFrame code body).tail = 0 := by
  simp only [requestFrame, List.tail_cons, charSum_append]
  simp [charSum, BitVec.sub_eq_add_neg]

end Sys2Proof.Machine
end

