-- ==== Sys2Proof/Laws/PerInstr.lean ====
section
/-! SUPPORT. The families of statements made per command. -/

namespace Sys2Proof.Laws.RequestTable

/-- A well-formed command that is a request has a CODE of the request table, and a body length a frame can
have (R192, R193, section 11.4). -/
def Statement (i : Instr) : Prop :=
  WellFormed i = true →
    match requestShape i with
    | none => True
    | some x => requestCodes.contains x.code = true ∧ x.want ≤ 34 ∧ x.len ≤ 251

/-- A length that is well formed is one a frame can have. -/
theorem len_le {len : Nat} (h : lengthOk len = true) : len ≤ 251 := by simpa [lengthOk] using h

/-- The body length a SEL.DEFINE is to have is at most that of four positions. -/
theorem want_le (d : DefineReq) : d.wantLength ≤ 34 := by
  unfold DefineReq.wantLength
  split <;> omega

theorem powerOn (straps) : Statement (.powerOn straps) := fun _ => trivial
theorem resetPin (straps) : Statement (.resetPin straps) := fun _ => trivial
theorem restoreEnd : Statement .restoreEnd := fun _ => trivial
theorem pfwAssertion : Statement .pfwAssertion := fun _ => trivial
theorem pfwDeassertion : Statement .pfwDeassertion := fun _ => trivial
theorem saveEnd : Statement .saveEnd := fun _ => trivial
theorem doorChange (isOpen) : Statement (.doorChange isOpen) := fun _ => trivial
theorem badFrame : Statement .badFrame := fun _ => trivial
theorem unknownRequest (code) : Statement (.unknownRequest code) := fun _ => trivial
theorem discardQuietTimeExpiry : Statement .discardQuietTimeExpiry := fun _ => trivial
theorem frameGapExpiry : Statement .frameGapExpiry := fun _ => trivial
theorem responseEnd (straps) : Statement (.responseEnd straps) := fun _ => trivial
theorem ident (len) : Statement (.ident len) := fun h =>
  ⟨rfl, Nat.le_of_ble_eq_true rfl, len_le h⟩
theorem noticesRead (len) : Statement (.noticesRead len) := fun h =>
  ⟨rfl, Nat.le_of_ble_eq_true rfl, len_le h⟩
theorem settingRead (len num) : Statement (.settingRead len num) := fun h =>
  ⟨rfl, Nat.le_of_ble_eq_true rfl, len_le h⟩
theorem settingWrite (len num value) : Statement (.settingWrite len num value) := fun h =>
  ⟨rfl, Nat.le_of_ble_eq_true rfl, len_le h⟩
theorem storeSave (len) : Statement (.storeSave len) := fun h =>
  ⟨rfl, Nat.le_of_ble_eq_true rfl, len_le h⟩
theorem restart (len) : Statement (.restart len) := fun h =>
  ⟨rfl, Nat.le_of_ble_eq_true rfl, len_le h⟩
theorem selFind (len code) : Statement (.selFind len code) := fun h =>
  ⟨rfl, Nat.le_of_ble_eq_true rfl, len_le h⟩
theorem selNext (len after) : Statement (.selNext len after) := fun h =>
  ⟨rfl, Nat.le_of_ble_eq_true rfl, len_le h⟩
theorem selDefine (len d) : Statement (.selDefine len d) := fun h => by
  have h := (Bool.and_eq_true _ _ ▸ h : lengthOk len = true ∧ d.shapeOk len = true)
  exact ⟨rfl, want_le d, len_le h.1⟩
theorem selStockSet (len code index known n) : Statement (.selStockSet len code index known n) := fun h =>
  ⟨rfl, Nat.le_of_ble_eq_true rfl, len_le h⟩
theorem selStockAdd (len code index n) : Statement (.selStockAdd len code index n) := fun h =>
  ⟨rfl, Nat.le_of_ble_eq_true rfl, len_le h⟩
theorem selSuspend (len code) : Statement (.selSuspend len code) := fun h =>
  ⟨rfl, Nat.le_of_ble_eq_true rfl, len_le h⟩
theorem selResume (len code) : Statement (.selResume len code) := fun h =>
  ⟨rfl, Nat.le_of_ble_eq_true rfl, len_le h⟩
theorem selClearFault (len code index) : Statement (.selClearFault len code index) := fun h =>
  ⟨rfl, Nat.le_of_ble_eq_true rfl, len_le h⟩
theorem selRetire (len code) : Statement (.selRetire len code) := fun h =>
  ⟨rfl, Nat.le_of_ble_eq_true rfl, len_le h⟩
theorem priceSet (len code set price) : Statement (.priceSet len code set price) := fun h =>
  ⟨rfl, Nat.le_of_ble_eq_true rfl, len_le h⟩
theorem priceSwap (len) : Statement (.priceSwap len) := fun h =>
  ⟨rfl, Nat.le_of_ble_eq_true rfl, len_le h⟩
theorem vend (len code) : Statement (.vend len code) := fun h =>
  ⟨rfl, Nat.le_of_ble_eq_true rfl, len_le h⟩
theorem cancel (len) : Statement (.cancel len) := fun h =>
  ⟨rfl, Nat.le_of_ble_eq_true rfl, len_le h⟩
theorem cashlessOpen (len amount) : Statement (.cashlessOpen len amount) := fun h =>
  ⟨rfl, Nat.le_of_ble_eq_true rfl, len_le h⟩
theorem cashlessClose (len) : Statement (.cashlessClose len) := fun h =>
  ⟨rfl, Nat.le_of_ble_eq_true rfl, len_le h⟩
theorem sessionRead (len) : Statement (.sessionRead len) := fun h =>
  ⟨rfl, Nat.le_of_ble_eq_true rfl, len_le h⟩
theorem driveTest (len row col) : Statement (.driveTest len row col) := fun h =>
  ⟨rfl, Nat.le_of_ble_eq_true rfl, len_le h⟩
theorem driveRead (len) : Statement (.driveRead len) := fun h =>
  ⟨rfl, Nat.le_of_ble_eq_true rfl, len_le h⟩
theorem tubeDefine (len tube denom capacity lowMark) : Statement (.tubeDefine len tube denom capacity lowMark) := fun h =>
  ⟨rfl, Nat.le_of_ble_eq_true rfl, len_le h⟩
theorem tubeSetCount (len tube count) : Statement (.tubeSetCount len tube count) := fun h =>
  ⟨rfl, Nat.le_of_ble_eq_true rfl, len_le h⟩
theorem tubeEnable (len tube) : Statement (.tubeEnable len tube) := fun h =>
  ⟨rfl, Nat.le_of_ble_eq_true rfl, len_le h⟩
theorem tubeDisable (len tube) : Statement (.tubeDisable len tube) := fun h =>
  ⟨rfl, Nat.le_of_ble_eq_true rfl, len_le h⟩
theorem tubeRead (len) : Statement (.tubeRead len) := fun h =>
  ⟨rfl, Nat.le_of_ble_eq_true rfl, len_le h⟩
theorem classSet (len cls enabled tube) : Statement (.classSet len cls enabled tube) := fun h =>
  ⟨rfl, Nat.le_of_ble_eq_true rfl, len_le h⟩
theorem billSet (len cls enabled) : Statement (.billSet len cls enabled) := fun h =>
  ⟨rfl, Nat.le_of_ble_eq_true rfl, len_le h⟩
theorem classRead (len) : Statement (.classRead len) := fun h =>
  ⟨rfl, Nat.le_of_ble_eq_true rfl, len_le h⟩
theorem totalsRead (len) : Statement (.totalsRead len) := fun h =>
  ⟨rfl, Nat.le_of_ble_eq_true rfl, len_le h⟩
theorem totalsClear (len) : Statement (.totalsClear len) := fun h =>
  ⟨rfl, Nat.le_of_ble_eq_true rfl, len_le h⟩
theorem payoutTest (len tube n) : Statement (.payoutTest len tube n) := fun h =>
  ⟨rfl, Nat.le_of_ble_eq_true rfl, len_le h⟩
theorem probeSet (len p1 p2 p3 p4) : Statement (.probeSet len p1 p2 p3 p4) := fun h =>
  ⟨rfl, Nat.le_of_ble_eq_true rfl, len_le h⟩
theorem payoutRead (len) : Statement (.payoutRead len) := fun h =>
  ⟨rfl, Nat.le_of_ble_eq_true rfl, len_le h⟩
theorem cashbusReset (len address) : Statement (.cashbusReset len address) := fun h =>
  ⟨rfl, Nat.le_of_ble_eq_true rfl, len_le h⟩
theorem cashbusRead (len) : Statement (.cashbusRead len) := fun h =>
  ⟨rfl, Nat.le_of_ble_eq_true rfl, len_le h⟩
theorem loadRead (len) : Statement (.loadRead len) := fun h =>
  ⟨rfl, Nat.le_of_ble_eq_true rfl, len_le h⟩
theorem measRead (len) : Statement (.measRead len) := fun h =>
  ⟨rfl, Nat.le_of_ble_eq_true rfl, len_le h⟩
theorem zoneSet (len z) : Statement (.zoneSet len z) := fun h =>
  ⟨rfl, Nat.le_of_ble_eq_true rfl, len_le h⟩
theorem zoneRead (len) : Statement (.zoneRead len) := fun h =>
  ⟨rfl, Nat.le_of_ble_eq_true rfl, len_le h⟩
theorem zoneClearHold (len zone) : Statement (.zoneClearHold len zone) := fun h =>
  ⟨rfl, Nat.le_of_ble_eq_true rfl, len_le h⟩
theorem refrigDefrost (len) : Statement (.refrigDefrost len) := fun h =>
  ⟨rfl, Nat.le_of_ble_eq_true rfl, len_le h⟩
theorem refrigRead (len) : Statement (.refrigRead len) := fun h =>
  ⟨rfl, Nat.le_of_ble_eq_true rfl, len_le h⟩
theorem inactivityExpiry : Statement .inactivityExpiry := fun _ => trivial
theorem serveSlot : Statement .serveSlot := fun _ => trivial
theorem masterFrameSent : Statement .masterFrameSent := fun _ => trivial
theorem replyWindowExpiry : Statement .replyWindowExpiry := fun _ => trivial
theorem replyGapExpiry : Statement .replyGapExpiry := fun _ => trivial
theorem ack : Statement .ack := fun _ => trivial
theorem nak : Statement .nak := fun _ => trivial
theorem badReply : Statement .badReply := fun _ => trivial
theorem setupReply (chars) : Statement (.setupReply chars) := fun _ => trivial
theorem pollReply (chars) : Statement (.pollReply chars) := fun _ => trivial
theorem confirmationSent : Statement .confirmationSent := fun _ => trivial
theorem probeTimeExpiry (p) : Statement (.probeTimeExpiry p) := fun _ => trivial
theorem stackWatchExpiry : Statement .stackWatchExpiry := fun _ => trivial
theorem fullSwitchChange (tube active) : Statement (.fullSwitchChange tube active) := fun _ => trivial
theorem lowSwitchChange (tube low) : Statement (.lowSwitchChange tube low) := fun _ => trivial
theorem payoutGrant : Statement .payoutGrant := fun _ => trivial
theorem pulseEnd : Statement .pulseEnd := fun _ => trivial
theorem exitCount : Statement .exitCount := fun _ => trivial
theorem exitWindowExpiry : Statement .exitWindowExpiry := fun _ => trivial
theorem spiralGrant (homeOpen) : Statement (.spiralGrant homeOpen) := fun _ => trivial
theorem powerTimerExpiry : Statement .powerTimerExpiry := fun _ => trivial
theorem homeSwitchOpens : Statement .homeSwitchOpens := fun _ => trivial
theorem homeSwitchCloses : Statement .homeSwitchCloses := fun _ => trivial
theorem leaveTimerExpiry : Statement .leaveTimerExpiry := fun _ => trivial
theorem turnTimerExpiry : Statement .turnTimerExpiry := fun _ => trivial
theorem currentSample (code) : Statement (.currentSample code) := fun _ => trivial
theorem settleWindowExpiry : Statement .settleWindowExpiry := fun _ => trivial
theorem curtainInterruptionBegins : Statement .curtainInterruptionBegins := fun _ => trivial
theorem curtainInterruptionEnds : Statement .curtainInterruptionEnds := fun _ => trivial
theorem blockTimerExpiry : Statement .blockTimerExpiry := fun _ => trivial
theorem passEnd (codes) : Statement (.passEnd codes) := fun _ => trivial
theorem zoneTemperature (zone) : Statement (.zoneTemperature zone) := fun _ => trivial
theorem vdriveValue : Statement .vdriveValue := fun _ => trivial
theorem evaporatorValue : Statement .evaporatorValue := fun _ => trivial
theorem promotion (load) : Statement (.promotion load) := fun _ => trivial
theorem damperGrant : Statement .damperGrant := fun _ => trivial
theorem damperMoveEnd : Statement .damperMoveEnd := fun _ => trivial
theorem minuteMark : Statement .minuteMark := fun _ => trivial
theorem compressorGrant : Statement .compressorGrant := fun _ => trivial
theorem defrostGrant : Statement .defrostGrant := fun _ => trivial
theorem lockoutExpiry : Statement .lockoutExpiry := fun _ => trivial
theorem startWindowEnd : Statement .startWindowEnd := fun _ => trivial
theorem minRunExpiry : Statement .minRunExpiry := fun _ => trivial
theorem maxContinuousRunExpiry : Statement .maxContinuousRunExpiry := fun _ => trivial
theorem defrostIntervalExpiry : Statement .defrostIntervalExpiry := fun _ => trivial
theorem heaterTimeLimitExpiry : Statement .heaterTimeLimitExpiry := fun _ => trivial
theorem defrostWallTimeExpiry : Statement .defrostWallTimeExpiry := fun _ => trivial
theorem dripTimeExpiry : Statement .dripTimeExpiry := fun _ => trivial
theorem recoveryWindowExpiry : Statement .recoveryWindowExpiry := fun _ => trivial
theorem powerLoss : Statement .powerLoss := fun _ => trivial
theorem frameStart : Statement .frameStart := fun _ => trivial
theorem lenOutOfRange : Statement .lenOutOfRange := fun _ => trivial
theorem curtainFirstReading (interrupted) : Statement (.curtainFirstReading interrupted) := fun _ => trivial

end Sys2Proof.Laws.RequestTable
end

