-- ==== Sys2Proof/Laws/Records.lean ====
section
/-! SUPPORT. Reading back what the named accessors write: records by name, list places, the table and the
notice set. -/

namespace Sys2Proof.Machine

@[simp] theorem Loads.get_set_self (ls : Loads) (l : Load) (r : LoadRec) :
    (ls.set l r).get l = r := by cases l <;> rfl

theorem Loads.get_set_ne (ls : Loads) {l k : Load} (r : LoadRec) (h : k ≠ l) :
    (ls.set l r).get k = ls.get k := by cases l <;> cases k <;> first | rfl | exact absurd rfl h

@[simp] theorem Cbm.get_set_self (c : Cbm) (p : Peripheral) (r : PeriphRec) :
    (c.set p r).get p = r := by cases p <;> rfl

theorem Cbm.get_set_ne (c : Cbm) {p q : Peripheral} (r : PeriphRec) (h : q ≠ p) :
    (c.set p r).get q = c.get q := by cases p <;> cases q <;> first | rfl | exact absurd rfl h

@[simp] theorem Cbm.set_bus (c : Cbm) (p : Peripheral) (r : PeriphRec) : (c.set p r).bus = c.bus := by
  cases p <;> rfl

@[simp] theorem Cbm.set_late (c : Cbm) (p : Peripheral) (r : PeriphRec) :
    (c.set p r).late = c.late := by cases p <;> rfl

@[simp] theorem Ztc.get_set_self (x : Ztc) (z : ZoneNo) (r : Zone) : (x.set z r).get z = r := by
  cases z <;> rfl

theorem Ztc.get_set_ne (x : Ztc) {z y : ZoneNo} (r : Zone) (h : y ≠ z) :
    (x.set z r).get y = x.get y := by cases z <;> cases y <;> first | rfl | exact absurd rfl h

@[simp] theorem State.load_setLoad_self (s : State) (l : Load) (r : LoadRec) :
    (s.setLoad l r).load l = r := Loads.get_set_self _ _ _

theorem State.load_setLoad_ne (s : State) {l k : Load} (r : LoadRec) (h : k ≠ l) :
    (s.setLoad l r).load k = s.load k := Loads.get_set_ne _ _ h

@[simp] theorem State.periph_setPeriph_self (s : State) (p : Peripheral) (r : PeriphRec) :
    (s.setPeriph p r).periph p = r := Cbm.get_set_self _ _ _

theorem State.periph_setPeriph_ne (s : State) {p q : Peripheral} (r : PeriphRec) (h : q ≠ p) :
    (s.setPeriph p r).periph q = s.periph q := Cbm.get_set_ne _ _ h

@[simp] theorem State.zone_setZone_self (s : State) (z : ZoneNo) (r : Zone) :
    (s.setZone z r).zone z = r := Ztc.get_set_self _ _ _

theorem State.zone_setZone_ne (s : State) {z y : ZoneNo} (r : Zone) (h : y ≠ z) :
    (s.setZone z r).zone y = s.zone y := Ztc.get_set_ne _ _ h

/-! ### Places of a list -/

@[simp] theorem modifyAt_length {α : Type} (f : α → α) (i : Nat) (xs : List α) :
    (modifyAt f i xs).length = xs.length := by
  induction xs generalizing i with
  | nil => cases i <;> rfl
  | cons x xs ih => cases i <;> simp [modifyAt, ih]

theorem modifyAt_getElem?_self {α : Type} (f : α → α) (i : Nat) (xs : List α) :
    (modifyAt f i xs)[i]? = xs[i]?.map f := by
  induction xs generalizing i with
  | nil => cases i <;> rfl
  | cons x xs ih => cases i <;> simp [modifyAt, ih]

theorem modifyAt_getElem?_ne {α : Type} (f : α → α) {i j : Nat} (xs : List α) (h : j ≠ i) :
    (modifyAt f i xs)[j]? = xs[j]? := by
  induction xs generalizing i j with
  | nil => cases i <;> rfl
  | cons x xs ih =>
    cases i <;> cases j <;> simp [modifyAt] at *
    exact ih h

/-- Every element of a modified list is an element of the list or the image of one. -/
theorem mem_modifyAt {α : Type} {f : α → α} {i : Nat} {xs : List α} {y : α}
    (h : y ∈ modifyAt f i xs) : y ∈ xs ∨ ∃ x ∈ xs, y = f x := by
  induction xs generalizing i with
  | nil => cases i <;> simp [modifyAt] at h
  | cons x xs ih =>
    cases i with
    | zero =>
      rcases List.mem_cons.1 h with rfl | h
      · exact .inr ⟨x, by simp, rfl⟩
      · exact .inl (by simp [h])
    | succ i =>
      rcases List.mem_cons.1 h with rfl | h
      · exact .inl (by simp)
      · rcases ih h with h | ⟨z, hz, rfl⟩
        · exact .inl (by simp [h])
        · exact .inr ⟨z, by simp [hz], rfl⟩

/-! ### The table -/

theorem findSel_code {t : List Selection} {c : Nat} {r : Selection} (h : findSel t c = some r) :
    r.code = c := by
  have := List.find?_some h
  simpa using this

theorem findSel_mem {t : List Selection} {c : Nat} {r : Selection} (h : findSel t c = some r) :
    r ∈ t := List.mem_of_find?_eq_some h

/-- An update that keeps the codes keeps the list of codes. -/
theorem updateSel_codes (f : Selection → Selection) (c : Nat) (t : List Selection)
    (h : ∀ r, (f r).code = r.code) :
    (updateSel f c t).map Selection.code = t.map Selection.code := by
  induction t with
  | nil => rfl
  | cons r t ih =>
    simp only [updateSel, List.map_cons, List.map_map] at *
    congr 1
    split <;> simp [h]

@[simp] theorem updateSel_length (f : Selection → Selection) (c : Nat) (t : List Selection) :
    (updateSel f c t).length = t.length := by simp [updateSel]

/-! ### The notice set -/

/-- A raise puts the notice in the set. -/
theorem insertNotice_mem (n : Notice) (ns : List (Notice × Bool)) :
    ∃ r, (n, r) ∈ insertNotice n ns := by
  induction ns with
  | nil => exact ⟨false, by simp [insertNotice]⟩
  | cons m ns ih =>
    obtain ⟨m, r⟩ := m
    simp only [insertNotice]
    split
    · exact ⟨true, by simp⟩
    · split
      · exact ⟨false, by simp⟩
      · obtain ⟨q, hq⟩ := ih
        exact ⟨q, by simp [hq]⟩

/-- The kinds of the set after a raise are the kinds before and the notice's. -/
theorem mem_insertNotice_kind {n : Notice} {ns : List (Notice × Bool)} {x : Notice × Bool}
    (h : x ∈ insertNotice n ns) : x.1 = n ∨ x ∈ ns := by
  induction ns with
  | nil => simp [insertNotice] at h; simp [h]
  | cons m ns ih =>
    obtain ⟨m, r⟩ := m
    simp only [insertNotice] at h
    split at h
    · rcases List.mem_cons.1 h with rfl | h
      · exact .inl rfl
      · exact .inr (by simp [h])
    · split at h
      · rcases List.mem_cons.1 h with rfl | h
        · exact .inl rfl
        · exact .inr h
      · rcases List.mem_cons.1 h with rfl | h
        · exact .inr (by simp)
        · rcases ih h with h | h
          · exact .inl h
          · exact .inr (by simp [h])

/-! ### Power-on -/

/-- `State.reset` is the part after a power-on without an image, its restore ended, with no command
waiting and the straps at 0 (R206). -/
theorem reset_of_boot :
    { (State.reset.boot 0) with power := .running } = State.reset := by decide

end Sys2Proof.Machine
end

