-- ==== Sys2Proof/Tests/Slice0.lean ====
section
/-! SUPPORT. The author's own checks: ill-formed commands that WellFormed refuses, the values the spec works
out, and for each obligation with hypotheses a state that meets them (`wit_…`). -/

namespace Sys2Proof.Tests
open Sys2Proof Sys2Proof.Machine

/-! ### Helpers -/

/-- The state a command leads to. -/
def after (c : Instr) (s : State) : State :=
  match exec c s with
  | .next t => t
  | .fault f => nomatch f
  | .refused _ => s

/-- The response under way. -/
def response (s : State) : Option Response :=
  match s.hli.slot with
  | .answering r _ => some r
  | _ => none

def hasNotice (s : State) (n : Notice) : Bool := s.hli.notices.any fun m => m.1 == n

/-- Selection 58 of section 3.11. -/
def sel58 : Selection :=
  ⟨58, .enabled, 0, 120, 130, .first, 0, [⟨⟨4, 2, false⟩, 10, 3, 1, none⟩, ⟨⟨4, 3, false⟩, 10, 5, 1, none⟩]⟩

/-- A selection with every field at an end of its range. -/
def sel999 : Selection :=
  ⟨999, .enabled, 3, 60000, 1, .rotate, 0, [⟨⟨7, 8, true⟩, 40, 40, 2, none⟩]⟩

def tube (d n : Nat) : Tube := ⟨some ⟨d, 40, 2⟩, n, .ok, .unknown, .unknown⟩

def online : PeriphRec := { PeriphRec.initial with link := .online }

def cold : Zone := { SavedZone.initial.start with damper := .closed }

def chilled : Zone := { cold with cfg := { ZoneSettings.default with mode := .chilled }, temp := .value 30 }

/-- A machine in service: two selections, the tubes of section 5.6, both validators ONLINE, the door
closed, zone 3 CHILLED, the band FULL, no notice. -/
def shop : State :=
  { State.reset with
    selt := ⟨[sel58, sel999], .a⟩
    chu := { Chu.initial with
      tubes := tube 50 3 :: tube 20 4 :: tube 10 3 :: List.replicate 3 Tube.unassigned
      coins := ⟨50, true, some 0⟩ :: ⟨20, true, some 1⟩ :: List.replicate 14 CoinClass.unused
      bills := ⟨100, true⟩ :: List.replicate 15 BillClass.unused }
    cbm := { Cbm.initial with coin := online, bill := online }
    lba := { loads := ⟨.none, .none, .none, .none, .none⟩, untaken := [], band := .full, vdrive := some 24000, pfw := false }
    ztc := { State.reset.ztc with z1 := cold, z2 := cold, z3 := chilled, queue := [] }
    hli := ⟨.idle, [], 0, false⟩ }

def opened (s : State) : State := { s with hli := { s.hli with doorOpen := true } }

/-- A CASH session with credit `n`, balanced by the coins that brought it. -/
def cash (n : Nat) (s : State) : State :=
  { s with
    sesc := { s.sesc with phase := .cashCredit, credit := money n, inactivity := some 60000 }
    chu := { s.chu with totals := { s.chu.totals with coinsIn := money n } } }

def card (n : Nat) (s : State) : State :=
  { s with sesc := { s.sesc with
      phase := .cashlessReady, kind := .cashless, authorized := some n, inactivity := some 60000 } }

def inPhase (p : Phase) (s : State) : State := { s with sesc := { s.sesc with phase := p } }

def withEscrow (v : Nat) (s : State) : State := { s with sesc := { s.sesc with escrow := some ⟨0, v⟩ } }

def setLoad (l : Load) (r : LoadRec) (s : State) : State := s.setLoad l r

/-- The drive entry of selection 58's first position. -/
def entry58 : DriveEntry := ⟨.vend 58 0, ⟨4, 2, false⟩, 1, 1, true, false, 0, false⟩

def vend58 : PendingVend := ⟨58, 0, ⟨4, 2, false⟩, 1, 120, false⟩

/-- A TEST of motor E2. -/
def test42 : DriveEntry := ⟨.test 4 2, ⟨4, 2, false⟩, 1, 0, true, false, 0, false⟩

/-- The sequencer works on entry `e` in state `x`, energized where that state is. -/
def driving (e : DriveEntry) (x : SeqState) (s : State) : State :=
  setLoad .spiral (.granted 8) { s with sdc := { s.sdc with
      list := [e], seq := x,
      energized := if x.turns then some e.unit else none,
      leaveTimer := if x = .leavingHome then some 1000 else none,
      turnTimer := if x = .turning then some 6000 else none,
      settleTimer := if x = .settling then some 1500 else none } }

/-- The vend of section 3.11 under way. -/
def vending (x : SeqState) (e : DriveEntry) : State :=
  driving e x { cash 150 shop with sesc := { (cash 150 shop).sesc with
      phase := .vending, inactivity := none, pendingVend := some vend58 } }

/-- A CHANGE payout of section 5.6 before its first pulse, its grant held. -/
def paying : State :=
  setLoad .payout (.granted 5) { cash 90 shop with
    sesc := { (cash 90 shop).sesc with phase := .paying, inactivity := none }
    chu := { (cash 90 shop).chu with payout := { Payout.initial with
      state := .awaitPower, kind := .change, amount := 90, plan := [⟨0, 50, 1⟩, ⟨1, 20, 2⟩], limit := 50 } } }

/-- That payout in the window of its first pulse. -/
def ejecting : State :=
  { paying with chu := { paying.chu with payout := { paying.chu.payout with
      state := .ejecting, window := some ⟨0, 400⟩, pulse := some 40, lastPulsed := some 0 } } }

def onBus (b : Bus) (p : Peripheral) (o : Option Outstanding) (s : State) : State :=
  { s.setPeriph p { s.periph p with outstanding := o } with
    cbm := { (s.setPeriph p { s.periph p with outstanding := o }).cbm with bus := b } }

/-- A frame of `m` to `p` waits for its reply. -/
def waiting (p : Peripheral) (m : Message) (s : State) : State :=
  onBus (.awaiting p m false 10 []) p (some ⟨m, 1⟩) s

def inRfc (x : RfcState) (s : State) : State := { s with rfc := { s.rfc with state := x } }

/-- The compressor runs on its grant. -/
def cooling : State := setLoad .compressor (.granted 12) (inRfc .running shop)

def handed (h : Handed) (s : State) : State :=
  { s with msc := { s.msc with handed := ⟨some h, some h, some h, some h, some h⟩ } }

/-- The body of SEL.DEFINE for code 12 of section 1.9, with the given code. -/
def define12 (code : Half) : DefineReq where
  code := code
  admin := some .enabled
  zone := 0
  priceA := 150
  priceB := 160
  draw := some .rotate
  count := 2
  positions := [⟨0, 0, some false, 10, 10, 1⟩, ⟨0, 1, some false, 10, 4, 1⟩]

/-! ### WellFormed -/

theorem test_wellFormed_length : WellFormed (.ident 251) = true ∧ WellFormed (.ident 252) = false := by decide

theorem test_wellFormed_unknownRequest :
    WellFormed (.unknownRequest 0x01) = false ∧ WellFormed (.unknownRequest 0x69) = false ∧
    WellFormed (.unknownRequest 0x00) = true ∧ WellFormed (.unknownRequest 0x6A) = true := by decide

theorem test_wellFormed_define :
    WellFormed (.selDefine 22 (define12 12)) = true ∧
    WellFormed (.selDefine 22 { define12 12 with positions := [] }) = false ∧
    WellFormed (.selDefine 21 { define12 12 with positions := [] }) = true := by decide

theorem test_wellFormed_setupReply :
    WellFormed (.setupReply (List.replicate 33 0)) = true ∧
    WellFormed (.setupReply (List.replicate 32 0)) = false ∧
    WellFormed (.setupReply (List.replicate 34 0)) = false := by decide

theorem test_wellFormed_pollReply :
    WellFormed (.pollReply [0, 0]) = true ∧ WellFormed (.pollReply []) = false ∧
    WellFormed (.pollReply [0xFF]) = false ∧ WellFormed (.pollReply [1, 1, 0x12]) = false ∧
    WellFormed (.pollReply [2, 1, 0x12, 2, 0, 0x16]) = true := by decide

/-! ### Optional fields (R195) -/

/-- R50's fields of a RUNNING entry alone are absent for a PENDING one: three bytes 0 at its end. -/
theorem test_driveEntry_pending :
    (DriveEntry.fields { test42 with running := false } true).drop 9 = [.byte 0, .byte 0, .byte 0] ∧
    (test42.fields true).drop 9 = [.byte 1, .byte 0, .byte 1, .byte 0, .byte 1, .byte 1] := by decide

/-- R133's fields of each state of a load, each with its presence byte. -/
theorem test_loadFields_presence :
    (LoadRec.waiting 8 1500 true).fields = [.byte 1, .byte 1, .half 8, .byte 1, .full 1, .byte 1, .byte 1, .byte 0] ∧
    (LoadRec.granted 8).fields = [.byte 2, .byte 0, .byte 0, .byte 0, .byte 1, .half 8] := by decide

/-! ### Values the spec works out -/

/-- Section 8.3's worked values of R152. -/
theorem test_thermistor : sampleOf 3000 = .good 38 ∧ sampleOf 3700 = .good (-182) ∧
    sampleOf 2900 = .good 62 ∧ sampleOf 1000 = .good 530 ∧ sampleOf 2048 = .good 250 := by decide

/-- The bounds of R151. -/
theorem test_thermistor_bounds : sampleOf 4056 = .fault .opened ∧ sampleOf 4055 = .good (-400) ∧
    sampleOf 40 = .good 600 ∧ sampleOf 39 = .fault .short := by decide

/-- The worked values of R157. -/
theorem test_current : currentOf 983 = 600 ∧ currentOf 2949 = 1800 ∧ currentOf 2948 = 1799 ∧
    currentOf 245 = 149 ∧ currentOf 4095 = 2500 := by decide

/-- The worked values of R158. -/
theorem test_vdrive : vdriveOf 3276 = 24000 ∧ vdriveOf 2949 = 21604 ∧ vdriveOf 2948 = 21597 ∧
    vdriveOf 2457 = 18000 := by decide

/-- The examples of R134. -/
theorem test_band : bandAfter .half 20500 = .half ∧ bandAfter .half 21000 = .reduced ∧
    bandAfter .reduced 20300 = .half ∧ bandAfter .zero 21000 = .reduced := by decide

/-- The effective budgets of R136 for the default budget of 60 LU. -/
theorem test_budget : [Band.full, .reduced, .half, .zero].map (effectiveBudget 60) = [60, 45, 30, 0] := by
  decide

/-- Cases A, B and C of section 5.1.1. -/
theorem test_plan_cases :
    planFor [tube 50 5, tube 20 6, tube 10 0, tube 5 0] [] 60 50 = ([⟨1, 20, 3⟩], 0) ∧
    planFor [tube 50 5, tube 20 1, Tube.unassigned, tube 5 0] [] 35 50 = ([⟨1, 20, 1⟩], 15) ∧
    planFor [tube 100 10] [] 400 3 = ([⟨0, 100, 3⟩], 100) := by decide

/-- The start and the replan of section 5.6. -/
theorem test_plan_jam :
    planFor shop.chu.tubes [] 90 50 = ([⟨0, 50, 1⟩, ⟨1, 20, 2⟩], 0) ∧
    planFor [tube 50 2, tube 20 4, tube 10 3] [1] 40 49 = ([⟨2, 10, 3⟩], 10) := by decide

/-- The exact-change flag of section 5.6, before and after the payout. -/
theorem test_exact_change : exactFlag shop.chu.tubes ⟨30, 0, 0, 0⟩ 50 = false ∧
    exactFlag [tube 50 2, ⟨some ⟨20, 40, 2⟩, 4, .jammed, .unknown, .unknown⟩, tube 10 0] ⟨30, 0, 0, 0⟩ 50 =
      true := by decide

/-- The Cash Bus frames of section 6.7. -/
theorem test_bus_frames : masterFrame .coin .poll = [0x32, 0x32] ∧
    masterFrame .bill (.acceptMask 0xFF7F) = [0x53, 0x7F, 0xFF, 0xD1] ∧
    masterFrameModes .coin .poll = [(0x32, true), (0x32, false)] := by decide

/-- The damaged and the good reply of section 6.7. -/
theorem test_poll_reply : pollEventsOf [2, 1, 0x12, 2, 0, 0x16] = none ∧
    pollEventsOf [2, 1, 0x12, 2, 0, 0x17] = some [.coinAccepted 2 true, .coinRejected] := by decide

/-- The BAD_FRAME response of section 11.8. -/
theorem test_bad_frame : (response (after .badFrame shop)).map Response.frame =
    some [0x5A, 0x02, 0xFF, 0x14, 0xEB] := by decide

/-- Step 10 of section 1.9: a replaced record, and the CONFLICT of step 3. -/
theorem test_define_conflict :
    (response (after (.selDefine 16 { define12 41 with count := 1, positions := [⟨7, 9, some false, 8, 8, 1⟩] })
      shop)).map Response.status = some .conflict ∧
    (response (after (.selDefine 16 { define12 999 with count := 1, priceA := 60000, positions := [⟨7, 9, some false, 8, 8, 1⟩] })
      shop)).map Response.status = some .ok := by decide

/-- Section 3.11: the answer to the VEND, and its first entry. -/
theorem test_vend : (response (after (.vend 2 58) (cash 150 shop))).map Response.body =
      some [.half 58, .byte 0, .full 120] ∧
    (after (.vend 2 58) (cash 150 shop)).sdc.list = [entry58] := by decide

/-- Section 3.11 at 10.9 s: DELIVERED charges the vend and the change is paid out. -/
theorem test_delivered : let t := after .homeSwitchCloses (vending .turning { entry58 with delivered := true })
    t.sesc.credit = 30 ∧ t.sesc.phase = .paying ∧ t.chu.totals.cashSales = 120 ∧
    (findSel t.selt.table 58).map (fun r => r.positions.map Position.stock) = some [2, 5] := by decide

/-- Section 3.11 at 8.3 s: NO_DROP fails over to index 1. -/
theorem test_failover : let t := after .settleWindowExpiry (vending .settling { entry58 with allowance := 0 })
    t.sesc.pendingVend = some ⟨58, 1, ⟨4, 3, false⟩, 1, 120, true⟩ ∧ t.sdc.seq = .awaitPower ∧
    (findSel t.selt.table 58).map (fun r => r.positions.map Position.fault) = some [some .noDrop, none] := by
  decide

/-- Section 2.14, step 4: the card pays 180 and the stray coin is paid back. -/
theorem test_card_settles :
    let s := card 300 (vending .turning { entry58 with delivered := true })
    let t := after .homeSwitchCloses { s with sesc := { s.sesc with phase := .vending, credit := 50 } }
    t.sesc.credit = 50 ∧ t.sesc.phase = .paying ∧ t.sesc.kind = .cash ∧ t.chu.totals.cashlessSales = 120 ∧
    hasNotice t (.cashlessSettle 120) = true := by decide

/-- Section 2.13, steps 1 and 2: a coin opens the session, a bill is kept in escrow. -/
theorem test_coin : let t := after (.pollReply [1, 1, 0x11, 0x13]) (waiting .coin .poll shop)
    t.sesc.phase = .cashCredit ∧ t.sesc.credit = 20 ∧ t.chu.totals.coinsIn = 20 ∧
    (t.tube 1).map Tube.count = some 5 ∧ t.cbm.bus = .confirming .coin := by decide

theorem test_bill : (after (.pollReply [1, 3, 0, 4]) (waiting .bill .poll (cash 20 shop))).sesc.escrow =
    some ⟨0, 100⟩ := by decide

/-- Section 5.6: the first coin of the payout. -/
theorem test_exit_count : let t := after .exitCount ejecting
    t.sesc.credit = 40 ∧ t.chu.totals.changePaid = 50 ∧ t.chu.payout.paid = 50 ∧
    (t.tube 0).map Tube.count = some 2 := by decide

/-- Section 6.7: the failed attempt of the damaged reply. -/
theorem test_bad_reply : let t := after (.pollReply [2, 1, 0x12, 2, 0, 0x16]) (waiting .coin .poll shop)
    (t.periph .coin).outstanding = some ⟨.poll, 2⟩ ∧ t.cbm.bus = .idle ∧ t.chu = shop.chu := by decide

/-- Section 9.11, marks 3 and 21. -/
theorem test_minute_mark :
    let at95 := shop.setZone .z3 { chilled with temp := .value 95 }
    let at113 := shop.setZone .z3 { chilled with temp := .value 113, exposure := 576 }
    ((after .minuteMark at95).zone .z3).exposure = 15 ∧
    ((after .minuteMark at113).zone .z3).exposure = 609 ∧
    ((after .minuteMark at113).zone .z3).hold = some .exposure := by decide

/-- The rounding of R153: a ring of 3, 3, 3 and 4 gives 4. -/
theorem test_ring : Ring.average ⟨3, 3, 3, 4⟩ = 4 ∧ Ring.average ⟨-3, -3, -3, -4⟩ = -3 := by decide

/-- The table gives no row bits, so no word spells a command. -/
theorem test_decode : decodeTableWord 16 0x5A01 = none ∧ State.reset.withFetchWord 8 1 = State.reset := by
  decide

/-- Section 11.8's kind of frame by hand: IDENT is 5A 01 01 FE, and it runs byte by byte. -/
theorem test_request_frame : requestFrame 0x01 [] = [0x5A, 0x01, 0x01, 0xFE] ∧
    (match takeBytes [0x5A, 0x01, 0x01, 0xFE] shop with
      | .next t => response t
      | _ => none) = response (after (.ident 0) shop) := by decide

/-- A VEND of selection 58 read from its bytes, and a 0x5A inside a frame as data. -/
theorem test_request_read : frameCommand [0x03, 0x20, 0x00, 0x3A, 0xA3] = .vend 2 58 ∧
    frameCommand [0x03, 0x20, 0x00, 0x3A, 0xA4] = .badFrame ∧
    frameCommand [0x01, 0x7F, 0x80] = .unknownRequest 0x7F ∧
    State.byteCommand (shop.setSlot (.receiving [0x03, 0x20])) 0x5A = none := by decide

/-- A SEL.DEFINE with one position, high bytes first. -/
theorem test_request_define : requestBody (.selDefine 16 { define12 300 with
      count := 1, positions := [⟨4, 2, some true, 10, 3, 1⟩] }) =
    [0x01, 0x2C, 0, 0, 0, 150, 0, 160, 1, 1, 4, 2, 1, 10, 3, 1] := by decide

/-- The characters of 0x32 on the two lines, least significant bit first (R112, R191). -/
theorem test_characters :
    busCharacter (0x32, true) =
      [false, false, true, false, false, true, true, false, false, true, true] ∧
    linkCharacter 0x32 = [false, false, true, false, false, true, true, false, false, true] ∧
    busCharacterByte (busCharacter (0x32, false)) = some 0x32 ∧
    busCharacterByte (busCharacter (0x32, true)) = none := by decide

/-- R32 with R107: a coin credited while the SERVICE payout still ejects is no part of the change payout. -/
theorem test_change_amount_is_taken_at_paying :
    let busyTest := { cash 50 shop with chu := { (cash 50 shop).chu with payout := { Payout.initial with
      state := .ejecting, kind := .service, plan := [⟨0, 50, 1⟩], window := some ⟨0, 400⟩, counted := true } } }
    let due := after (.cancel 0) busyTest
    let coin := { due with sesc := { due.sesc with credit := due.sesc.credit + 20 } }
    due.chu.payout.due = 50 ∧ (after .exitWindowExpiry coin).chu.payout.amount = 50 ∧
    (after .exitWindowExpiry coin).chu.payout.kind = .change := by decide

/-- R145 with R174: a DAMPER grant not yet taken is given back at the power-fail warning. -/
theorem test_warning_takes_damper_grant :
    let s := setLoad .damper (.granted 2) (shop.setQueue [(.z3, .opened)])
    (after .pfwAssertion s).sumHeld = 0 ∧
    (after .pfwAssertion s).load .damper = .waiting 2 0 false := by decide

/-- R77: a low switch that corrects nothing still hands the route map. -/
theorem test_low_switch_hands_map :
    (after (.lowSwitchChange 0 false) shop).chu.lastMap = some shop.routeMap := by decide

/-- The replies of section 6.7 character by character, good and damaged, and R129's ACK and NAK. -/
theorem test_reply_characters :
    let poll := waiting .coin .poll shop
    let run (cs : List (Option Byte)) (s : State) : Option State :=
      match takeCharacters cs s with
      | .next t => some t
      | _ => none
    run [some 2, some 1, some 0x12, some 2, some 0, some 0x17] poll =
      some (after (.pollReply [2, 1, 0x12, 2, 0, 0x17]) poll) ∧
    run [some 2, some 1, some 0x12, some 2, some 0, some 0x16] poll = some (after .badReply poll) ∧
    run [some 0xFF] poll = some (after .nak poll) ∧
    run [some 0x00] (waiting .coin .reset shop) = some (after .ack (waiting .coin .reset shop)) ∧
    (run [some 0x00, some 0x00] poll).map (fun t => t.cbm.bus) = some (.confirming .coin) := by decide

/-! ### Witnesses -/

theorem wit_EveryStepEnds : State.reset.pending = [] ∧ shop.power ≠ .off := by decide

theorem wit_FrameChecks : shop.linkReady = true ∧ (shop.setSlot (.receiving [])).linkReady = true ∧
    requestShape (.ident 1) = some ⟨0x01, 0, 1⟩ ∧ requestShape (.storeSave 0) = some ⟨0x05, 0, 0⟩ ∧
    requestShape (.restart 0) = some ⟨0x06, 0, 0⟩ ∧
    requestShape (.selDefine 22 (define12 12)) = some ⟨0x12, 22, 22⟩ := by decide

theorem wit_SlotMoves : shop.power = .running ∧ shop.hli.slot = .idle ∧
    (shop.setSlot (.receiving [])).hli.slot = .receiving [] ∧ (shop.setSlot .discarding).hli.slot = .discarding ∧
    (shop.setSlot (.receiving [])).hli.slot ≠ .idle ∧ (shop.setSlot .discarding).hli.slot.collects = false ∧
    (shop.answer 0x01 .ok []).hli.slot = .answering ⟨0x81, .ok, []⟩ false := by decide

theorem wit_SlotMoves_lost : (shop.setSlot .discarding).linkReady = false ∧
    (shop.answer 0x01 .ok []).linkReady = false ∧
    State.linkReady { shop with power := .restoring } = false ∧ (requestShape (.ident 0)).isSome = true := by
  decide

theorem wit_SlotMoves_bytes : (0 : Byte).toNat = 0 ∧ 252 < (253 : Byte).toNat ∧ (252 : Byte).toNat ≤ 252 ∧
    (shop.setSlot (.receiving [1])).hli.slot = .receiving (1 :: []) ∧ ([] : List Byte).length < (1 : Byte).toNat ∧
    (shop.setSlot (.receiving [1, 1])).hli.slot = .receiving (1 :: [1]) ∧ (1 : Byte).toNat ≤ [(1 : Byte)].length ∧
    charSum [1, 1, (0xFF : Byte)] ≠ 0 ∧ charSum [1, 1, (0xFE : Byte)] = 0 := by decide

theorem wit_FramesAndReplies_requests :
    requestShape (.selDefine 22 (define12 12)) = some ⟨0x12, 22, 22⟩ ∧
    sendable (.selDefine 22 (define12 12)) = true ∧
    sendable (.selDefine 10 { define12 12 with count := 5, positions := [] }) = true ∧
    sendable (.classSet 3 0 true (some 5)) = true ∧ sendable (.classSet 3 0 true none) = true ∧
    shop.power = .running ∧ shop.hli.slot = .idle ∧ (0x6A : Byte).toNat ∉ requestCodes ∧
    (0x00 : Byte).toNat ∉ requestCodes ∧
    State.cbtxe (onBus (.confirming .coin) .coin none shop) = true ∧ shop.cbtxe = false := by decide

theorem wit_FramesAndReplies :
    pollEventsOf [8, 2, 0, 2, 0, 2, 0, 2, 0, 2, 0, 2, 0, 2, 0, 2, 0, 0x18] =
      some (List.replicate 8 .coinRejected) ∧ pollEventsOf [0, 0] = some [] ∧
    setupValuesOf (List.replicate 30 0 ++ [1, 2, 3]) = some (List.replicate 15 0 ++ [258]) ∧
    (List.replicate 30 (0 : Byte) ++ [1, 2, 3])[2 * 15]? = some 1 ∧
    (List.replicate 30 (0 : Byte) ++ [1, 2, 3])[2 * 15 + 1]? = some 2 := by decide

/-- A reply of each kind, begun and not begun, whole and damaged. -/
theorem wit_FramesAndReplies_judged :
    let ack := waiting .coin .reset shop
    let setUp := waiting .coin .setup shop
    let poll := waiting .coin .poll shop
    let begun := shop.setBus (.awaiting .coin .setup false 10 [some 0xFF])
    let cut := shop.setBus (.awaiting .coin .setup false 10 [some 0xFF, none])
    ack.cbm.bus = .awaiting .coin .reset false 10 [] ∧ setUp.cbm.bus = .awaiting .coin .setup false 10 [] ∧
    poll.cbm.bus = .awaiting .coin .poll false 10 [] ∧ poll.power ≠ .off ∧
    busCharacterByte (busCharacter (0x00, false)) = some 0x00 ∧
    busCharacterByte (busCharacter (0xFF, false)) = some 0xFF ∧
    busCharacterByte (busCharacter (0x00, true)) = none ∧
    (List.replicate 33 (0 : Byte)).length = 33 ∧ ([0, 0] : List Byte).head? = some 0 ∧
    ([0, 0] : List Byte).length = 2 + 2 * (0 : Byte).toNat ∧ none ∈ [some (0 : Byte), none] ∧
    [some (0 : Byte), none].head? = some (some 0) ∧
    [some (0 : Byte), none].length = 2 + 2 * (0 : Byte).toNat ∧
    begun.cbm.bus = .awaiting .coin .setup false 10 (some 0xFF :: []) ∧
    cut.cbm.bus = .awaiting .coin .setup false 10 (some 0xFF :: [none]) ∧ shop.cbm.bus = .idle := by decide

theorem wit_ReadsChangeNothing : shop.linkReady = true ∧ shop.settings.read 0x01 = some 5000 ∧
    shop.settings.read 0x47 = some 2 ∧ findSel shop.selt.table 999 = some sel999 ∧
    findSel ({ shop with selt := ⟨[{ sel58 with code := 1 }], .a⟩ } : State).selt.table 1 =
      some { sel58 with code := 1 } := by decide

theorem wit_ReadsChangeNothing_refused : shop.settings.read (0x48 : Byte).toNat = none ∧
    (0 : Half).toNat = 0 ∧ 999 < (1000 : Half).toNat ∧ 1 ≤ (1 : Half).toNat ∧ (999 : Half).toNat ≤ 999 ∧
    findSel shop.selt.table (1 : Half).toNat = none ∧
    findSel ({ shop with selt := ⟨[sel58], .a⟩ } : State).selt.table (999 : Half).toNat = none := by decide

theorem wit_NoticeSet : shop.hli.notices = [] ∧
    (shop.raise (.door true)).hli.notices = [(.door true, false)] := by decide

theorem wit_NoticeSet_law : NoticeLaw shop ∧ NoticeLaw (shop.raise (.door true)) := by
  constructor <;> unfold NoticeLaw <;> decide

theorem wit_SettingWritten : shop.linkReady = true ∧ shop.settings.read 0x00 = none ∧
    shop.settings.read 0x48 = none ∧ shop.settings.read 0x30 = some 60 ∧
    settingClamp 0x30 1000 = 120 ∧ settingClamp 0x30 10 = 10 := by decide

theorem wit_SettingWritten_owners :
    let waits := setLoad .damper (.waiting 2 20000 false) shop
    let off : State := { shop with rfc := { shop.rfc with offTime := 60000 } }
    let ready : State := { inRfc .ready shop with rfc := { (inRfc .ready shop).rfc with offTime := 60000 } }
    let run : State := { cooling with rfc := { cooling.rfc with
      runTime := 1800000, accumulator := 7200000 } }
    let hot : State := { inRfc .defrost shop with rfc := { (inRfc .defrost shop).rfc with
      heaterTime := 300000 } }
    waits.load .damper = .waiting 2 20000 false ∧ waits.settings.priority .damper = .normal ∧
    priorityLoadOf 0x3C = some .damper ∧ 20 * 1000 ≤ 20000 ∧
    off.rfc.state = .lockout ∧ 60 * 1000 ≤ off.rfc.offTime ∧ ready.rfc.state = .ready ∧
    ready.rfc.offTime < 180 * 1000 ∧ run.rfc.state = .running ∧ run.rfc.demand = false ∧
    30 * 1000 ≤ run.rfc.runTime ∧ 30 * 60000 ≤ run.rfc.runTime ∧ 2 * 3600000 ≤ run.rfc.accumulator ∧
    hot.rfc.state = .defrost ∧ 5 * 60000 ≤ hot.rfc.heaterTime ∧ (inRfc .drip shop).rfc.state = .drip ∧
    0 * 60000 ≤ (inRfc .drip shop).rfc.dripTime ∧ (cash 20 shop).sesc.phase = .cashCredit ∧
    shop.chu.payout.state = .idle := by decide

theorem wit_PowerOnStarts : shop.power ≠ .off ∧ shop.rst.image = none ∧
    (after .saveEnd (after .pfwAssertion (cash 20 shop))).rst.image.isSome = true ∧
    (after .saveEnd (after (.restart 0) shop)).hli.slot = .answering ⟨0x86, .ok, []⟩ true ∧
    (after .saveEnd (after (.restart 0) shop)).power = .running := by decide

/-- An image with credit and one with a defrost pending, so that both rows of R49 are met. -/
theorem wit_PowerOnStarts_session :
    let s := after .saveEnd (after .pfwAssertion (cash 20 shop))
    s.rst.image.map Image.credit = some 20 ∧
    (after .saveEnd (after .pfwAssertion shop)).rst.image.map Image.credit = some 0 ∧
    (after (.powerOn 0) s).sesc.inactivity = some 60000 := by decide

theorem wit_SavesRunAndRestore :
    let saved := after (.storeSave 0) (cash 20 shop)
    (cash 20 shop).linkReady = true ∧ saved.power ≠ .off ∧ saved.rst.saving = some saved.snapshot ∧
    saved.hli.slot = .waitingSave false ∧
    (after (.restart 0) shop).hli.slot = .waitingSave true ∧
    (after (.restart 0) shop).rst.saving.isSome = true ∧
    ({ shop with power := .restoring } : State).power = .restoring := by decide

/-- A turn of a vend with the spiral's grant, a compressor that runs, and a command that waits. -/
def busy : State := State.withPending
  (setLoad .compressor (.granted 12) (inRfc .running (vending .turning entry58))) [.homeSwitchCloses]

theorem busy_grants : GrantLaw busy := by constructor <;> decide

theorem busy_session : SessionLaw busy := by constructor <;> decide

theorem busy_work : WorkListLaw busy := by
  constructor <;> decide

theorem wit_WarningStopsWork : busy.power ≠ .off ∧ busy.lba.pfw = false ∧ GrantLaw busy ∧
    SessionLaw busy ∧ WorkListLaw busy ∧ 0 < (busy.load .compressor).held ∧ 0 < busy.sumHeld ∧
    (after .pfwAssertion busy).lba.pfw = true ∧ (after .pfwAssertion busy).power ≠ .off :=
  ⟨by decide, by decide, busy_grants, busy_session, busy_work, by decide, by decide, by decide, by decide⟩

/-- A TEST turns with a VEND and a TEST behind it, and a DAMPER grant waits to be taken. -/
def crowded : State := State.withPending (setLoad .damper (.granted 2)
  { vending .turning { test42 with running := true } with sdc := { (vending .turning test42).sdc with
    list := [{ test42 with running := true }, { entry58 with running := false },
      { test42 with running := false }] } }) []

theorem wit_WarningStopsWork_list : crowded.power ≠ .off ∧ crowded.lba.pfw = false ∧ GrantLaw crowded ∧
    SessionLaw crowded ∧ WorkListLaw crowded ∧ (∃ e ∈ crowded.sdc.list, e.isVend = true) ∧
    crowded.sesc.pendingVend = some vend58 ∧ crowded.sesc.kind = .cash ∧
    test42.origin = .test 4 2 ∧ entry58.origin = .vend 58 0 ∧
    (after .pfwAssertion crowded).sesc.phase = .cashCredit ∧
    hasNotice (after .pfwAssertion busy) (.vendOutcome 58 0 (.drive .interrupted) 0) = true ∧
    hasNotice (after .pfwAssertion crowded) (.vendOutcome 58 0 (.drive .noPower) 0) = true :=
  ⟨by decide, by decide, by constructor <;> decide, by constructor <;> decide, by constructor <;> decide,
    by decide, by decide, by decide, by decide, by decide, by decide, by decide, by decide⟩

theorem wit_DoorChanges : shop.power ≠ .off ∧ shop.hli.doorOpen = false ∧
    (opened shop).hli.doorOpen = true := by decide

/-- A mask that differs from the last one handed, one that does not, and a validator not ONLINE. -/
theorem wit_DoorChanges_slots :
    let s : State := { opened shop with chu := { shop.chu with lastBillMask := some 0, lastCoinMask := some 0 } }
    let t := after (.doorChange false) s
    (s.periph .coin).link = .online ∧ s.lastMask .coin ≠ some (t.maskOf .coin) ∧
    (t.periph .coin).pending.acceptMask = some 3 ∧ (t.periph .bill).pending.acceptMask = some 1 ∧
    (State.reset.periph .coin).link ≠ .online ∧
    (after (.doorChange false) State.reset).cbm = State.reset.cbm := by decide

theorem wit_DefineWrites : shop.linkReady = true ∧ 22 = (define12 12).wantLength ∧
    defineInRange (define12 12) = true ∧ defineInRange (define12 0) = false ∧
    defineInRange (define12 999) = true ∧ defineInRange (define12 1000) = false ∧
    findSel shop.selt.table 12 = none ∧ ¬ 64 ≤ shop.selt.table.length ∧
    defineConflict shop.selt.table (define12 12) = false ∧ shop.defineBusy (define12 12) = false ∧
    shop.definePriceInUse (define12 12) = false := by decide

theorem wit_DefineWrites_refused :
    let full := shop.setTable ((List.range 64).map fun k => { sel58 with code := k + 100 })
    64 ≤ full.selt.table.length ∧ findSel full.selt.table 12 = none ∧
    defineConflict shop.selt.table { define12 12 with positions := [⟨4, 2, some false, 1, 1, 1⟩] } = true ∧
    (vending .turning entry58).defineBusy (define12 58) = true ∧
    defineConflict shop.selt.table (define12 58) = false ∧ shop.defineBusy (define12 58) = false ∧
    shop.definePriceInUse (define12 58) = true := by decide

theorem wit_StockWrites : shop.linkReady = true ∧ findSel shop.selt.table 58 = some sel58 ∧
    sel58.positions[1]? = some ⟨⟨4, 3, false⟩, 10, 5, 1, none⟩ ∧
    shop.engaged 58 1 ⟨⟨4, 3, false⟩, 10, 5, 1, none⟩ = false ∧
    (10 : Half).toNat ≤ 10 ∧ 10 < (11 : Half).toNat ∧ (255 : Half).toNat ≤ 255 ∧ 255 < (256 : Half).toNat ∧
    findSel shop.selt.table 59 = none ∧ sel58.positions.length ≤ (2 : Byte).toNat := by decide

theorem wit_StockWrites_add : (-255 : Int) ≤ (0xFF01 : Half).toInt ∧ (0xFF00 : Half).toInt < -255 ∧
    (0 : Int) ≤ 5 + (0xFFFB : Half).toInt ∧ (5 : Int) + (5 : Half).toInt ≤ 10 ∧
    (10 : Int) < 5 + (6 : Half).toInt ∧ (5 : Int) + (0xFFFA : Half).toInt < 0 ∧
    (vending .turning entry58).engaged 58 0 ⟨⟨4, 2, false⟩, 10, 3, 1, none⟩ = true ∧
    State.linkReady (vending .turning entry58) = true := by decide

theorem wit_SuspendResumeRetire : shop.linkReady = true ∧ findSel shop.selt.table 59 = none ∧
    findSel shop.selt.table 58 = some sel58 ∧ shop.referenced 58 = false ∧ shop.anyEngaged sel58 = false ∧
    (vending .turning entry58).referenced 58 = true ∧
    (opened (driving test42 .turning shop)).anyEngaged sel58 = true := by decide

theorem wit_PriceWrites : shop.linkReady = true ∧ findSel shop.selt.table 59 = none ∧
    findSel shop.selt.table 58 = some sel58 ∧ (0 : Half).toNat = 0 ∧ 60000 < (60001 : Half).toNat ∧
    (60000 : Half).toNat ≤ 60000 ∧ shop.inUse .a = true ∧ shop.inUse .b = false := by decide

theorem wit_PriceLaw : ∃ t, step (shop.withPending [.priceSet 5 58 (some .b) 170]) = .next t ∧
    t.power = .running ∧ findSel shop.selt.table 58 = some sel58 ∧
    findSel t.selt.table 58 = some { sel58 with priceB := 170 } ∧ shop.selt.active = .a :=
  ⟨_, rfl, by decide, by decide, by decide, by decide⟩

theorem wit_PriceLaw_session :
    let s := { cash 20 shop with selt := ⟨[sel58, sel999], .b⟩ }
    s.sesc.phase ≠ .idle ∧ s.sesc.sessionSet = .a ∧ s.selt.active = .b := by decide

theorem wit_DrawAndOutcomes : sel58.choose = some (0, ⟨⟨4, 2, false⟩, 10, 3, 1, none⟩) ∧
    sel58.draw = .first ∧ sel999.draw = .rotate ∧ sel999.cursor < sel999.positions.length ∧
    findSel shop.selt.table 999 = some sel999 ∧ sel999.positions[0]? = some ⟨⟨7, 8, true⟩, 40, 40, 2, none⟩ ∧
    ownerOf shop.selt.table 0 0 = none ∧ ownerOf shop.selt.table 7 9 = some (999, 0) := by decide

/-- A rotated draw wraps around. -/
theorem wit_DrawAndOutcomes_wraps :
    Selection.choose { sel58 with
      draw := .rotate, cursor := 1,
      positions := [⟨⟨4, 2, false⟩, 10, 3, 1, none⟩, ⟨⟨4, 3, false⟩, 10, 0, 1, none⟩] } =
    some (0, ⟨⟨4, 2, false⟩, 10, 3, 1, none⟩) := by decide

theorem wit_VendAccepted :
    let s := cash 120 shop
    s.linkReady = true ∧ s.hli.doorOpen = false ∧ findSel s.selt.table (58 : Half).toNat = some sel58 ∧
    s.sesc.phase = .cashCredit ∧ s.saleState sel58 = .active ∧
    sel58.price s.sesc.sessionSet ≤ s.sesc.available ∧ s.sdc.curtain ≠ .blocked ∧ s.sesc.kind = .cash ∧
    s.sesc.escrow = none ∧ s.sdc.list = [] ∧ s.sdc.seq = .idle := by decide

theorem wit_VendAccepted_escrow :
    let s := withEscrow 100 (cash 20 shop)
    s.linkReady = true ∧ s.sesc.phase = .cashCredit ∧ s.saleState sel58 = .active ∧
    sel58.price s.sesc.sessionSet ≤ s.sesc.available ∧ s.sesc.kind = .cash ∧
    s.sesc.escrow.isSome = true ∧ (s.periph .bill).link = .online := by decide

theorem wit_VendAccepted_card :
    let s := card 120 shop
    s.linkReady = true ∧ s.sesc.phase = .cashlessReady ∧ s.saleState sel58 = .active ∧
    sel58.price s.sesc.sessionSet ≤ s.sesc.available ∧ s.sesc.kind = .cashless := by decide

theorem wit_VendRefused : (opened shop).hli.doorOpen = true ∧ (opened shop).linkReady = true ∧
    shop.hli.doorOpen = false ∧ findSel shop.selt.table 59 = none ∧ shop.sesc.phase = .idle ∧
    (inPhase .stacking shop).sesc.phase = .stacking ∧ (cash 119 shop).sesc.available < 120 ∧
    (cash 119 shop).saleState sel58 = .active ∧
    (cash 120 shop).saleState { sel58 with admin := .suspended } ≠ .active ∧
    ({ cash 120 shop with sdc := { shop.sdc with curtain := .blocked } } : State).sdc.curtain = .blocked := by
  decide

theorem wit_CashSessionEnds : (cash 90 shop).sesc.phase = .cashCredit ∧ (cash 90 shop).linkReady = true ∧
    (cash 90 shop).sesc.inactivity = some 60000 ∧ (cash 90 shop).sesc.credit ≠ 0 ∧
    (cash 90 shop).chu.payout.state = .idle ∧
    (planFor (cash 90 shop).chu.tubes [] (cash 90 shop).sesc.credit.toNat 50).1 ≠ [] ∧
    (withEscrow 100 (cash 0 shop)).sesc.credit = 0 ∧
    (withEscrow 100 (cash 0 shop)).sesc.escrow.isSome = true := by decide

theorem wit_CashSessionEnds_service :
    let s : State := (cash 90 shop).setPayout { Payout.initial with
      state := .ejecting, kind := .service, window := some ⟨0, 400⟩, plan := [⟨0, 50, 1⟩] }
    s.sesc.phase = .cashCredit ∧ s.linkReady = true ∧ s.sesc.credit ≠ 0 ∧
    s.chu.payout.state = .ejecting := by decide

/-- A machine whose tubes are empty. -/
def emptied (s : State) : State := s.setTubes (List.replicate 6 Tube.unassigned)

/-- Credit of which no coin can be paid, and each phase in which CANCEL is refused. -/
theorem wit_CashSessionEnds_refused :
    let s := emptied (cash 90 shop)
    s.sesc.phase = .cashCredit ∧ s.linkReady = true ∧ s.sesc.inactivity = some 60000 ∧
    s.sesc.credit ≠ 0 ∧ s.chu.payout.state ≠ .ejecting ∧
    (planFor s.chu.tubes [] s.sesc.credit.toNat s.settings.coinLimit).1 = [] ∧
    hasNotice (after (.cancel 0) s) (.payout 0 90 0) = true ∧ shop.sesc.phase = .idle ∧
    (card 300 shop).sesc.phase = .cashlessReady ∧ (card 300 shop).linkReady = true ∧
    (after (.cancel 0) ((card 300 shop).elapse 5000)).sesc.inactivity = some 60000 ∧
    (inPhase .stacking shop).sesc.phase = .stacking ∧ (inPhase .vending shop).sesc.phase = .vending ∧
    paying.sesc.phase = .paying ∧ paying.linkReady = true := by decide

/-- A card session with cash in it, the cash paid out, not to be paid, and behind a SERVICE payout. -/
theorem wit_CashlessSession_credit :
    let s : State := { card 300 shop with sesc := { (card 300 shop).sesc with credit := 90 } }
    let test : State := s.setPayout { Payout.initial with
      state := .ejecting, kind := .service, window := some ⟨0, 400⟩, plan := [⟨0, 50, 1⟩] }
    s.sesc.phase = .cashlessReady ∧ s.sesc.credit ≠ 0 ∧ s.linkReady = true ∧
    s.sesc.inactivity.isSome = true ∧ s.chu.payout.state ≠ .ejecting ∧
    (planFor s.chu.tubes [] s.sesc.credit.toNat s.settings.coinLimit).1 ≠ [] ∧
    (planFor (emptied s).chu.tubes [] (emptied s).sesc.credit.toNat (emptied s).settings.coinLimit).1 = [] ∧
    test.chu.payout.state = .ejecting ∧ test.sesc.phase = .cashlessReady ∧
    (0 : Half).toNat = 0 ∧ 60000 < (60001 : Half).toNat ∧ shop.sesc.phase ≠ .cashlessReady ∧
    (inPhase .vending (card 300 shop)).sesc.phase = .vending ∧
    (inPhase .vending (card 300 shop)).sesc.kind = .cashless := by decide

theorem wit_CashlessSession : shop.linkReady = true ∧ shop.sesc.phase = .idle ∧ 1 ≤ (1 : Half).toNat ∧
    (60000 : Half).toNat ≤ 60000 ∧ (cash 20 shop).sesc.phase ≠ .idle ∧
    (card 300 shop).sesc.phase = .cashlessReady ∧ (card 300 shop).sesc.credit = 0 ∧
    (card 300 shop).sesc.inactivity.isSome = true := by decide

theorem wit_TestQueued : (opened shop).linkReady = true ∧ (7 : Byte).toNat ≤ 7 ∧ (9 : Byte).toNat ≤ 9 ∧
    (opened shop).hli.doorOpen = true ∧ (opened shop).testCount < 7 ∧ (opened shop).sdc.seq = .idle ∧
    (opened shop).sdc.list = [] ∧ (opened (driving test42 .turning shop)).sdc.seq ≠ .idle ∧
    (opened (driving test42 .turning shop)).testCount < 7 := by decide

theorem wit_TestQueued_refused : shop.linkReady = true ∧ shop.hli.doorOpen = false ∧
    7 < (8 : Byte).toNat ∧ 9 < (10 : Byte).toNat ∧
    7 ≤ State.testCount (shop.setList (List.replicate 7 test42)) ∧
    (opened (shop.setList (List.replicate 7 test42))).hli.doorOpen = true ∧
    (opened (shop.setList (List.replicate 7 test42))).linkReady = true := by decide

theorem sel58_law : RecordLaw sel58 where
  code := by decide
  zone := by decide
  priceA := by decide
  priceB := by decide
  count := by decide
  cursor := by decide
  positions := by
    intro p hp
    simp only [sel58, List.mem_cons, List.not_mem_nil, or_false] at hp
    rcases hp with rfl | rfl <;> constructor <;> decide

theorem sel999_law : RecordLaw sel999 where
  code := by decide
  zone := by decide
  priceA := by decide
  priceB := by decide
  count := by decide
  cursor := by decide
  positions := by
    intro p hp
    simp only [sel999, List.mem_cons, List.not_mem_nil, or_false] at hp
    subst hp
    constructor <;> decide

theorem shop_table : TableLaw shop.selt.table where
  size := by decide
  order := by decide
  owners := by decide
  records := by
    intro r hr
    simp only [shop, List.mem_cons, List.not_mem_nil, or_false] at hr
    rcases hr with rfl | rfl
    · exact sel58_law
    · exact sel999_law

/-- A test of the right address of selection 999's twin pair, H9, and one of a motor no position owns. -/
theorem wit_TestQueued_twin : TableLaw (opened shop).selt.table ∧ sel999 ∈ (opened shop).selt.table ∧
    (⟨⟨7, 8, true⟩, 40, 40, 2, none⟩ : Position) ∈ sel999.positions ∧
    ((7 : Byte).toNat, (9 : Byte).toNat) ∈ (⟨7, 8, true⟩ : DriveUnit).addrs ∧
    (∀ r ∈ (opened shop).selt.table, ∀ p ∈ r.positions,
      ((0 : Byte).toNat, (0 : Byte).toNat) ∉ p.unit.addrs) ∧
    ((opened shop).testEntry 7 9).unit = ⟨7, 8, true⟩ :=
  ⟨shop_table, by decide, by decide, by decide, by decide, by decide⟩

theorem wit_TurnGoesOn :
    let wait := vending .awaitPower entry58
    wait.power ≠ .off ∧ wait.sdc.list = [entry58] ∧ wait.sdc.seq = .awaitPower ∧
    (wait.load .spiral).isGranted = true ∧ wait.inTurn .spiral = true ∧ (vending .leavingHome entry58).sdc.seq = .leavingHome ∧
    (vending .turning { entry58 with turns := 2 }).sdc.seq = .turning ∧
    entry58.revolutions + 1 < ({ entry58 with turns := 2 } : DriveEntry).turns ∧
    entry58.turns ≤ entry58.revolutions + 1 ∧ entry58.delivered = false ∧
    (vending .settling entry58).sdc.settleTimer = some 1500 ∧ 0 < entry58.allowance := by decide

theorem wit_TurnGoesOn_sample :
    let s := vending .turning entry58
    s.sdc.energized = some ⟨4, 2, false⟩ ∧ (983 : AdcCode).toNat * 2500 / 4095 ≤ s.settings.overcurrent ∧
    s.settings.overcurrent < (2951 : AdcCode).toNat * 2500 / 4095 ∧ s.sdc.overCount < 2 ∧
    s.sdc.sampleCount + 1 ≠ 30 ∧ s.settings.openThreshold ≤ (983 : AdcCode).toNat * 2500 / 4095 := by decide

/-- A TEST entry alone on the list, in state `x`. -/
def testing (x : SeqState) (e : DriveEntry) : State := opened (driving e x shop)

theorem wit_TestEntryEnds : (testing .turning test42).power ≠ .off ∧
    (testing .turning test42).sdc.list = [test42] ∧ test42.origin = .test 4 2 ∧
    (testing .leavingHome test42).sdc.leaveTimer = some 1000 ∧
    (testing .turning test42).sdc.turnTimer = some 6000 ∧
    (testing .settling test42).sdc.settleTimer = some 1500 ∧ test42.allowance = 0 ∧
    (testing .settling test42).sdc.curtain = .clear ∧
    (testing .turning { test42 with delivered := true }).sdc.seq = .turning := by decide

/-- A VEND of the twin pair and a TEST stand behind the RUNNING entry. -/
theorem wit_TestEntryEnds_behind :
    let twin : DriveEntry := { entry58 with unit := ⟨7, 8, true⟩, running := false }
    let s := (testing .settling test42).setList [test42, twin, { test42 with running := false }]
    let t := after .settleWindowExpiry s
    s.sdc.list = test42 :: [twin, { test42 with running := false }] ∧ test42.allowance = 0 ∧
    t.sdc.list = [{ twin with running := true }, { test42 with running := false }] ∧
    t.load .spiral = .granted 16 ∧ hasNotice t (.testOutcome 4 2 .noDrop) = true := by decide

theorem wit_TestEntryEnds_current :
    let s := testing .turning test42
    let jam : State := { s with sdc := { s.sdc with overCount := 2 } }
    let idle : State := { s with sdc := { s.sdc with sampleCount := 29 } }
    ({ s with sdc := { s.sdc with powerTimer := some 5000 } } : State).sdc.powerTimer = some 5000 ∧
    jam.jamLimit test42.unit < currentOf 2951 ∧ 2 ≤ jam.sdc.overCount ∧
    idle.sdc.sampleCount = 29 ∧ idle.sdc.windowBelow = true ∧ currentOf 245 < idle.openLimit test42.unit ∧
    currentOf 245 ≤ idle.jamLimit test42.unit := by decide

theorem wit_VendEnds :
    let s := vending .turning { entry58 with delivered := true }
    let c := { card 300 s with sesc := { (card 300 s).sesc with phase := .vending } }
    s.power ≠ .off ∧ s.sdc.seq = .turning ∧ s.sdc.list = [{ entry58 with delivered := true }] ∧
    entry58.origin = .vend 58 0 ∧ s.sesc.pendingVend = some vend58 ∧ s.sesc.kind = .cash ∧
    c.sesc.kind = .cashless ∧ c.sesc.pendingVend = some vend58 ∧ c.sesc.credit ≠ 0 ∧
    (vending .leavingHome entry58).sdc.leaveTimer.isSome = true ∧
    (vending .turning entry58).sdc.turnTimer.isSome = true ∧
    (vending .settling entry58).sdc.seq = .settling ∧ (vending .settling entry58).sdc.curtain = .clear := by
  decide

/-- Credit left after a charge with and without multi-vend, in a card session, and in one that fails. -/
theorem wit_VendEnds_credit :
    let s := vending .turning { entry58 with delivered := true }
    let many : State := { s with settings := { s.settings with multiVend := true } }
    let c : State := { card 300 s with sesc := { (card 300 s).sesc with phase := .vending, credit := 50 } }
    let test : State := s.setPayout { Payout.initial with
      state := .ejecting, kind := .service, window := some ⟨0, 400⟩, plan := [⟨0, 50, 1⟩] }
    let f := c.setSdc { c.sdc with seq := .awaitPower, powerTimer := some 5000 }
    s.settings.multiVend = false ∧ many.settings.multiVend = true ∧
    (after .homeSwitchCloses s).sesc.credit ≠ 0 ∧
    (after .homeSwitchCloses many).sesc.phase = .cashCredit ∧ c.sesc.credit ≠ 0 ∧
    c.sesc.kind = .cashless ∧ s.chu.payout.state ≠ .ejecting ∧ test.chu.payout.state = .ejecting ∧
    (after .homeSwitchCloses test).chu.payout.due = 30 ∧
    (planFor s.chu.tubes [] 30 s.settings.coinLimit).1 ≠ [] ∧
    (planFor (emptied s).chu.tubes [] 30 s.settings.coinLimit).1 = [] ∧
    hasNotice (after .homeSwitchCloses (emptied s)) (.payout 0 30 0) = true ∧
    f.sdc.powerTimer.isSome = true ∧ (after .powerTimerExpiry f).sesc.phase = .paying := by decide

theorem wit_VendEnds_failed :
    let s := vending .settling { entry58 with allowance := 0 }
    let u := s.seltVend 58 0 .noDrop
    let wait : State := { vending .awaitPower entry58 with sdc := { (vending .awaitPower entry58).sdc with
      powerTimer := some 5000 } }
    s.sdc.settleTimer.isSome = true ∧ s.sdc.list = [{ entry58 with allowance := 0 }] ∧
    s.sesc.pendingVend = some vend58 ∧ s.sesc.kind = .cash ∧ s.settings.failover = true ∧
    vend58.failoverUsed = false ∧
    (findSel u.selt.table 58).bind Selection.choose = some (1, ⟨⟨4, 3, false⟩, 10, 5, 1, none⟩) ∧
    wait.sdc.powerTimer.isSome = true ∧ wait.sdc.list = [entry58] := by decide

theorem wit_VendEnds_current :
    let s := vending .turning entry58
    let jam : State := { s with sdc := { s.sdc with overCount := 2 } }
    let idle : State := { s with sdc := { s.sdc with sampleCount := 29 } }
    jam.sdc.energized = some ⟨4, 2, false⟩ ∧ jam.jamLimit ⟨4, 2, false⟩ < currentOf 2951 ∧
    2 ≤ jam.sdc.overCount ∧ idle.sdc.sampleCount = 29 ∧ idle.sdc.windowBelow = true ∧
    currentOf 245 < idle.openLimit ⟨4, 2, false⟩ ∧ currentOf 245 ≤ idle.jamLimit ⟨4, 2, false⟩ := by decide

theorem wit_CurtainMoves : shop.power ≠ .off ∧ shop.sdc.curtain = .clear ∧ shop.sdc.seq = .idle ∧
    (vending .turning entry58).sdc.seq = .turning ∧ (vending .turning entry58).sdc.curtain = .clear ∧
    (after .curtainInterruptionBegins shop).sdc.curtain ≠ .clear ∧
    (after .curtainInterruptionBegins shop).sdc.blockTimer = some 500 ∧
    shop.sdc.curtainRead = false := by decide

theorem wit_TubeWrites : (opened shop).linkReady = true ∧ (opened shop).tube 0 = some (tube 50 3) ∧
    (opened shop).chu.payout.state = .idle ∧ (opened shop).hli.doorOpen = true ∧
    (opened shop).tube 5 = some Tube.unassigned ∧ (5000 : Half).toNat ≤ 5000 ∧ Tube.unassigned.count = 0 ∧
    (tube 50 3).assign = some ⟨50, 40, 2⟩ ∧ (255 : Half).toNat ≤ 255 ∧ 40 < (41 : Half).toNat := by decide

theorem wit_TubeWrites_refused : shop.linkReady = true ∧ shop.tube (6 : Byte).toNat = none ∧
    (shop.tube (5 : Byte).toNat).bind Tube.assign = none ∧ (shop.tube (0 : Byte).toNat).bind Tube.assign ≠ none ∧
    5000 < (5001 : Half).toNat ∧ 255 < (256 : Half).toNat ∧ shop.hli.doorOpen = false ∧
    paying.chu.payout.state ≠ .idle ∧ paying.linkReady = true ∧ (opened paying).hli.doorOpen = true ∧
    0 < (tube 50 3).count ∧ (tube 50 3).assign.map TubeAssign.denom ≠ some (20 : Half).toNat := by decide

/-- A route map that differs from the last one handed, and one that does not. -/
theorem wit_TubeWrites_handed :
    let s := opened shop
    let t := after (.tubeDisable 1 0) s
    s.chu.lastMap ≠ some t.routeMap ∧ (t.periph .coin).pending.routeMap = some 2 ∧
    t.chu.lastMap = some (after (.tubeDisable 1 0) { t with hli := s.hli }).routeMap := by decide

theorem wit_ClassWrites : shop.linkReady = true ∧ shop.chu.coins[(0 : Byte).toNat]? = some ⟨50, true, some 0⟩ ∧
    shop.tube 0 = some (tube 50 3) ∧ (tube 50 3).assign = some ⟨50, 40, 2⟩ ∧
    shop.chu.coins[(16 : Byte).toNat]? = none ∧ shop.chu.bills[(15 : Byte).toNat]? = some ⟨0, false⟩ ∧
    shop.chu.bills[(16 : Byte).toNat]? = none ∧ shop.tube (6 : Byte).toNat = none ∧
    shop.tube (5 : Byte).toNat = some Tube.unassigned ∧ shop.tube (1 : Byte).toNat = some (tube 20 4) ∧
    (20 : Nat) ≠ 50 := by decide

theorem wit_ClassWrites_handed :
    let t := after (.classSet 3 0 false none) shop
    shop.chu.lastMap ≠ some t.routeMap ∧ shop.lastMask .coin ≠ some (t.maskOf .coin) ∧
    (t.periph .coin).pending.acceptMask = some 2 ∧ (t.periph .bill).pending.acceptMask = some 1 := by decide

theorem wit_TotalsReadAndClear : shop.linkReady = true ∧ shop.sesc.phase = .idle ∧
    (cash 20 shop).linkReady = true ∧ (cash 20 shop).sesc.phase ≠ .idle := by decide

theorem wit_LevelSwitches : shop.power ≠ .off ∧ shop.tube 0 = some (tube 50 3) ∧
    (tube 50 3).assign = some ⟨50, 40, 2⟩ ∧ shop.chu.payout.state = .idle ∧
    (tube 50 3).full ≠ .active ∧ (tube 50 3).low ≠ .low ∧ (tube 50 3).count < 40 ∧ 2 < (tube 50 3).count := by
  decide

/-- An unassigned tube, a switch that reads as its field stands, and a running payout. -/
theorem wit_LevelSwitches_fields : shop.tube 5 = some Tube.unassigned ∧ Tube.unassigned.assign = none ∧
    Tube.unassigned.full ≠ .active ∧ Tube.unassigned.low ≠ .notLow ∧
    ((after (.fullSwitchChange 5 true) shop).tube 5).map Tube.full = some .active ∧
    ((after (.lowSwitchChange 5 true) shop).tube 5).map Tube.low = some .low ∧
    ejecting.tube 0 = some (tube 50 3) ∧ ejecting.chu.payout.state ≠ .idle ∧
    ((after (.fullSwitchChange 0 true) ejecting).tube 0).map Tube.count = some 40 := by decide

theorem wit_PlansAreSound : ∀ t ∈ shop.chu.tubes, ∀ a, t.assign = some a → 0 < a.denom := by
  intro t ht a ha
  simp only [shop, tube, Tube.unassigned, List.replicate, List.mem_cons, List.not_mem_nil, or_false] at ht
  rcases ht with rfl | rfl | rfl | rfl | rfl | rfl <;> simp_all <;> subst ha <;> decide

/-- Cases A and B: a back-off that leaves nothing, and a first pass that stands. -/
theorem wit_PlansAreSound_backOff :
    let a := sourcesOf [tube 50 5, tube 20 6, tube 10 0, tube 5 0] []
    let b := sourcesOf [tube 50 5, tube 20 1] []
    greedy a 60 50 = ([1, 0], 10) ∧ backOff a 60 50 = some [0, 3] ∧ greedy b 35 50 = ([0, 1], 15) ∧
    backOff b 35 50 = none ∧ greedy b 70 50 = ([1, 1], 0) := by decide

theorem wit_ServiceAndProbes : (opened shop).linkReady = true ∧ (opened shop).chu.payout.state = .idle ∧
    (opened shop).tube 0 = some (tube 50 3) ∧ (tube 50 3).assign = some ⟨50, 40, 2⟩ ∧
    1 ≤ (1 : Byte).toNat ∧ (99 : Byte).toNat ≤ 99 ∧ (opened shop).hli.doorOpen = true ∧
    0 < min (min 1 (tube 50 3).count) 50 ∧ min (min 1 (tube 50 0).count) 50 = 0 := by decide

theorem wit_ServiceAndProbes_refused : (opened shop).tube (6 : Byte).toNat = none ∧
    (shop.tube (5 : Byte).toNat).bind Tube.assign = none ∧ (0 : Byte).toNat = 0 ∧
    99 < (100 : Byte).toNat ∧ (shop.tube (0 : Byte).toNat).bind Tube.assign ≠ none ∧ shop.linkReady = true ∧
    shop.hli.doorOpen = false ∧ (opened ejecting).hli.doorOpen = true ∧
    (opened ejecting).linkReady = true ∧ (opened ejecting).chu.payout.state ≠ .idle := by decide

theorem wit_PayoutPulses : paying.chu.payout.plan = [⟨0, 50, 1⟩, ⟨1, 20, 2⟩] ∧
    paying.chu.payout.state = .awaitPower ∧ (paying.load .payout).isGranted = true ∧ paying.inTurn .payout = true ∧ paying.power ≠ .off ∧
    ejecting.chu.payout.pulse = some 40 ∧ ejecting.chu.payout.window = some ⟨0, 400⟩ ∧
    ejecting.chu.payout.counted = false ∧ ejecting.chu.payout.pulseNumber < 3 ∧
    ejecting.chu.payout.endMark = false := by decide

theorem wit_PayoutPulses_last :
    let p := ejecting.chu.payout
    let jam : State := ejecting.setPayout { p with kind := .service, pulseNumber := 3 }
    let more : State := ejecting.setPayout { p with counted := true, plan := [⟨0, 50, 1⟩] }
    jam.chu.payout.pulseNumber = 3 ∧ jam.chu.payout.kind = .service ∧ jam.chu.payout.counted = false ∧
    jam.chu.payout.window = some ⟨0, 400⟩ ∧ more.chu.payout.counted = true ∧
    more.chu.payout.window = some ⟨0, 400⟩ := by decide

theorem wit_PayoutPulses_ends :
    let p := ejecting.chu.payout
    let jam : State := ejecting.setPayout { p with pulseNumber := 3 }
    let jam1 : State := { jam with chu := { jam.chu with tubes := [tube 50 3] } }
    let last : State := ejecting.setPayout { p with counted := true, plan := [⟨0, 50, 0⟩] }
    let next : State := ejecting.setPayout { p with counted := true, plan := [⟨0, 50, 0⟩, ⟨1, 20, 2⟩] }
    let owed : State := ejecting.setPayout { p with
      kind := .service, counted := true, endMark := true, due := 90 }
    jam.chu.payout.pulseNumber = 3 ∧ jam.chu.payout.kind = .change ∧ jam.chu.payout.counted = false ∧
    (planFor (modifyAt (fun x => { x with state := .jammed }) 0 jam.chu.tubes) [0] 90 50).1 =
      [⟨1, 20, 4⟩, ⟨2, 10, 1⟩] ∧
    (planFor (modifyAt (fun x => { x with state := .jammed }) 0 jam1.chu.tubes) [0] 90 50).1 = [] ∧
    last.chu.payout.counted = true ∧ last.chu.payout.endMark = false ∧
    next.chu.payout.plan = [⟨0, 50, 0⟩, ⟨1, 20, 2⟩] ∧ owed.load .payout = .granted 5 ∧
    (planFor owed.chu.tubes [] owed.chu.payout.due owed.settings.coinLimit).1 =
      [⟨0, 50, 1⟩, ⟨1, 20, 2⟩] := by decide

theorem wit_ExitCounts :
    let extra : State := ejecting.setPayout { ejecting.chu.payout with plan := [⟨0, 50, 0⟩] }
    let late : State := shop.setPayout { Payout.initial with lastPulsed := some 0 }
    ejecting.chu.payout.window = some ⟨0, 400⟩ ∧ ejecting.chu.payout.plan = [⟨0, 50, 1⟩, ⟨1, 20, 2⟩] ∧
    ejecting.chu.payout.kind = .change ∧ extra.chu.payout.plan = [⟨0, 50, 0⟩] ∧
    late.chu.payout.window = none ∧ late.chu.payout.lastPulsed = some 0 ∧
    late.tube 0 = some (tube 50 3) := by decide

theorem wit_SlotsServed : shop.power ≠ .off ∧ shop.cbm.nextSlot = .coin ∧ shop.cbm.bus = .idle ∧
    (shop.periph .coin).link = .online ∧ (shop.periph .coin).outstanding = none ∧
    (State.reset.periph .coin).link ≠ .online ∧ State.reset.cbm.bus = .idle ∧
    (waiting .bill .poll shop).cbm.bus ≠ .idle ∧
    (onBus .idle .coin (some ⟨.poll, 2⟩) shop).cbm.bus = .idle ∧
    ((onBus .idle .coin (some ⟨.poll, 2⟩) shop).periph .coin).outstanding = some ⟨.poll, 2⟩ := by decide

theorem wit_SlotsServed_bus : (after .serveSlot shop).cbm.bus = .sending .coin .poll false ∧
    shop.linkReady = true ∧ (shop.periph .bill).link = .online ∧ State.reset.linkReady = true ∧
    (4 : Byte).toNat ≠ 3 ∧ (4 : Byte).toNat ≠ 5 ∧
    (onBus (.confirming .coin) .coin none shop).cbm.bus = .confirming .coin ∧
    (onBus (.confirming .coin) .coin none shop).cbm.late = [] := by decide

/-- A pending set with each command that leaves its slot when sent; a late slot that starts an exchange and one
that does not. -/
theorem wit_SlotsServed_late :
    let pend (q : PendingSet) : State := State.setPeriph shop .bill { online with pending := q }
    let late := onBus (.confirming .coin) .coin none shop
    let s : State := { late with cbm := { late.cbm with late := [.bill, .coin] } }
    ((pend ⟨false, some .giveBack, true, some 1, some 1⟩).periph .bill).pending.escrow = some .giveBack ∧
    ((pend ⟨false, none, false, some 1, some 2⟩).periph .bill).pending.routeMap = some 1 ∧
    ((pend ⟨false, none, false, none, some 2⟩).periph .bill).pending.acceptMask = some 2 ∧
    s.power ≠ .off ∧ s.cbm.bus = .confirming .coin ∧ s.cbm.late = .bill :: [.coin] ∧
    (s.periph .bill).link = .online ∧
    (after .confirmationSent s).cbm.bus = .sending .bill .poll false ∧
    (after .confirmationSent s).cbm.late = [.coin] ∧
    ((s.setPeriph .bill { PeriphRec.initial with probeTime := 5 }).periph .bill).link ≠ .online ∧
    ((s.setPeriph .bill { PeriphRec.initial with probeTime := 5 }).periph .bill).probeTime ≠ 0 := by decide

theorem wit_AttemptsFail :
    let third := onBus (.awaiting .bill .poll false 10 []) .bill (some ⟨.poll, 3⟩) shop
    let probed := onBus (.awaiting .coin .reset true 10 []) .coin none State.reset
    (waiting .coin .poll shop).power ≠ .off ∧
    (waiting .coin .poll shop).cbm.bus = .awaiting .coin .poll false 10 [] ∧
    (waiting .coin .poll shop).cbm.late = [] ∧
    ((waiting .coin .poll shop).periph .coin).outstanding = some ⟨.poll, 1⟩ ∧
    (third.periph .bill).outstanding = some ⟨.poll, 3⟩ ∧
    probed.cbm.bus = .awaiting .coin .reset true 10 [] ∧ (probed.periph .coin).link = .unknown := by decide

theorem wit_AttemptsFail_stacking :
    let s := onBus (.awaiting .bill .poll false 10 []) .bill (some ⟨.poll, 3⟩)
      (withEscrow 100 (inPhase .stacking (cash 20 shop)))
    s.sesc.phase = .stacking ∧ (s.periph .bill).outstanding = some ⟨.poll, 3⟩ ∧ s.cbm.late = [] := by decide

theorem wit_AttemptsFail_offline :
    let s := onBus (.awaiting .coin .reset true 10 []) .coin none
      (State.reset.setPeriph .coin { PeriphRec.initial with link := .offline })
    s.cbm.bus = .awaiting .coin .reset true 10 [] ∧ (s.periph .coin).link = .offline ∧ s.cbm.late = [] := by
  decide

theorem wit_AckEffects :
    (onBus (.awaiting .coin .reset true 10 []) .coin none State.reset).cbm.bus = .awaiting .coin .reset true 10 [] ∧
    (waiting .bill .escrowStack shop).cbm.bus = .awaiting .bill .escrowStack false 10 [] ∧
    ((waiting .bill .escrowStack shop).periph .bill).outstanding = some ⟨.escrowStack, 1⟩ ∧
    (waiting .coin .reset shop).cbm.bus = .awaiting .coin .reset false 10 [] ∧
    ((waiting .coin .reset shop).periph .coin).link = .online ∧
    (waiting .coin (.routeMap 1) shop).cbm.bus = .awaiting .coin (.routeMap 1) false 10 [] ∧
    (waiting .coin .setup shop).cbm.bus = .awaiting .coin .setup false 10 [] ∧
    (waiting .coin .setup shop).cbm.late = [] := by decide

/-- The bill validator's RESET is acknowledged with an escrow held. -/
theorem wit_AckEffects_escrow :
    let s := waiting .bill .reset (withEscrow 100 (cash 20 shop))
    s.cbm.bus = .awaiting .bill .reset false 10 [] ∧ (s.periph .bill).link = .online ∧ s.cbm.late = [] ∧
    s.sesc.phase = .cashCredit ∧ s.sesc.escrow.isSome = true ∧
    hasNotice (after .ack s) (.bill .validatorLost) = true := by decide

theorem wit_RepliesTaken : (waiting .bill .setup shop).cbm.bus = .awaiting .bill .setup false 10 [] ∧
    ((waiting .bill .setup shop).periph .bill).outstanding = some ⟨.setup, 1⟩ ∧
    setupValuesOf (List.replicate 33 0) = some (List.replicate 16 0) ∧
    setupValuesOf (List.replicate 32 0 ++ [1]) = none ∧ pollEventsOf [0, 0] = some [] ∧
    pollEventsOf [0, 1] = none ∧
    ((shop.setPeriph .bill { online with stackWatch := some 10000 }).periph .bill).stackWatch =
      some 10000 := by decide

/-- A bill is being stacked for a VEND. -/
def stacking : State := withEscrow 100 (inPhase .stacking
  { cash 20 shop with sesc := { (cash 20 shop).sesc with pendingVend := some vend58, inactivity := none } })

theorem wit_AckEffects_stacking :
    let s := waiting .bill .reset stacking
    s.cbm.bus = .awaiting .bill .reset false 10 [] ∧ s.sesc.phase = .stacking ∧
    s.sesc.pendingVend = some vend58 ∧
    hasNotice (after .ack s) (.vendOutcome 58 0 .escrowFault 0) = true := by decide

theorem wit_RepliesTaken_events :
    pollEventsOf [1, 5, 0, 6] = some [.billReturned] ∧ pollEventsOf [1, 6, 9, 16] = some [.deviceFault 9] ∧
    pollEventsOf [1, 7, 0, 8] = some [.justReset] ∧
    (waiting .bill .poll stacking).cbm.bus = .awaiting .bill .poll false 10 [] ∧
    ((waiting .bill .poll stacking).periph .bill).outstanding = some ⟨.poll, 1⟩ ∧
    ((waiting .bill .poll stacking).periph .bill).resetExpected = false ∧
    ((waiting .bill .poll stacking).periph .bill).link = .online ∧ stacking.sesc.phase = .stacking ∧
    stacking.sesc.pendingVend = some vend58 ∧ (withEscrow 100 (cash 20 shop)).sesc.phase = .cashCredit ∧
    (withEscrow 100 (cash 20 shop)).sesc.escrow.isSome = true ∧
    ((stacking.setPeriph .bill { online with stackWatch := some 10000 }).periph .bill).stackWatch =
      some 10000 := by decide

/-- R37: a bill returned while it was to be stacked ends the vend without a charge. -/
theorem test_stack_fails : let t := after (.pollReply [1, 5, 0, 6]) (waiting .bill .poll stacking)
    t.sesc.phase = .cashCredit ∧ t.sesc.credit = 20 ∧ t.sesc.pendingVend = none ∧
    hasNotice t (.vendOutcome 58 0 .escrowFault 0) = true ∧
    hasNotice t (.bill .validatorReturned) = true := by decide

theorem wit_MoneyArrives : pollEventsOf [1, 1, 0x11, 0x13] = some [.coinAccepted 1 true] ∧
    shop.chu.coins[1]? = some ⟨20, true, some 1⟩ ∧ shop.tube 1 = some (tube 20 4) ∧
    (waiting .coin .poll shop).cbm.bus = .awaiting .coin .poll false 10 [] ∧
    pollEventsOf [1, 3, 0, 4] = some [.billEscrowed 0] ∧ shop.chu.bills[0]? = some ⟨100, true⟩ ∧
    (waiting .bill .poll (cash 20 shop)).billRefusal ⟨100, true⟩ = none ∧
    (waiting .bill .poll (cash 20 shop)).billRefusal ⟨100, false⟩ = some .classDisabled := by decide

theorem wit_MoneyArrives_stacked :
    let s := waiting .bill .poll (withEscrow 100 (inPhase .stacking
      { cash 20 shop with sesc := { (cash 20 shop).sesc with pendingVend := some vend58 } }))
    pollEventsOf [1, 4, 0, 5] = some [.billStacked] ∧ s.sesc.phase = .stacking ∧
    s.sesc.escrow = some ⟨0, 100⟩ ∧ s.sesc.pendingVend = some vend58 ∧ s.power ≠ .off ∧
    s.cbm.bus = .awaiting .bill .poll false 10 [] := by decide

theorem wit_GrantPass : shop.load .spiral = .none ∧ busy.load .spiral = .granted 8 ∧
    (setLoad .damper (.waiting 2 0 false) shop).load .damper = .waiting 2 0 false := by decide

/-- PAYOUT first, then a promoted DEFROST that does not fit and stops the pass before DAMPER. -/
theorem wit_GrantPass_walk :
    let s := setLoad .payout (.waiting 5 0 false) (setLoad .defrost (.waiting 70 30000 true)
      (setLoad .damper (.waiting 2 0 false) shop))
    s.sumHeld ≤ s.budget ∧ waitOrder s.settings s.lba.loads = [.payout, .defrost, .damper] ∧
    s.grantPass.load .payout = .granted 5 ∧ s.grantPass.load .damper = .waiting 2 0 false := by decide

/-- R142: SPIRAL and DAMPER granted in one pass are taken in the order made. -/
theorem wit_GrantPass_handing :
    let s := (setLoad .spiral (.waiting 8 0 false) (setLoad .damper (.waiting 2 0 false) shop)).grantPass
    let t := s.tookGrant .spiral
    s.lba.untaken = [[.spiral, .damper]] ∧ s.inTurn .spiral = true ∧ s.inTurn .damper = false ∧
    t.lba.untaken = [[.damper]] ∧ t.inTurn .damper = true ∧ after .damperGrant s = s := by decide

theorem handing_law (s : State) (h : s.lba.untaken = []) : HandingLaw s :=
  ⟨by simp [h], by simp [h], by simp [h]⟩

theorem wit_GrantPass_handed :
    let s := setLoad .spiral (.waiting 8 0 false) shop
    HandingLaw s ∧ s.sumHeld ≤ s.budget ∧ (s.grantPass.load .spiral).isGranted = true :=
  ⟨handing_law _ rfl, by decide, by decide⟩

theorem wit_BandAndPromotion :
    let s : State := { shop with msc := { shop.msc with handedVdrive := some 20300 } }
    s.msc.handedVdrive = some 20300 ∧ s.lba.pfw = false ∧ s.power ≠ .off ∧
    (after .pfwAssertion s).lba.pfw = true ∧ (after .pfwAssertion s).msc.handedVdrive = some 20300 ∧
    (setLoad .damper (.waiting 2 20000 false) shop).load .damper = .waiting 2 20000 false ∧
    shop.settings.priority .damper = .normal := by decide

theorem wit_SamplesFiled : sampleOf 40 = .good 600 ∧ sampleOf 39 = .fault .short ∧
    sampleOf 4055 = .good (-400) ∧ thermistorTable[0]? = some (3996, -400) ∧
    thermistorTable[1]? = some (3900, -300) ∧ thermistorTable[15]? = some (1081, 500) ∧
    thermistorTable[16]? = some (816, 600) ∧ Channel.initial.state = .notMeasured ∧
    (Channel.initial.file 0).state = .sensorFault ∧ (Channel.initial.file 0).value = none ∧
    (Channel.initial.file 0).goodCount = 0 := by decide

theorem wit_SamplesFiled_valid :
    let c := (Channel.initial.file 40).file 2048
    (Channel.initial.file 40).state = .valid ∧ (Channel.initial.file 40).ring = some ⟨600, 600, 600, 600⟩ ∧
    sampleOf 2048 = .good 250 ∧ c.value = some 513 := by decide

theorem wit_PassEnds : shop.power ≠ .off ∧ 1950 ≤ (1950 : AdcCode).toNat ∧ (2146 : AdcCode).toNat ≤ 2146 ∧
    (1949 : AdcCode).toNat < 1950 ∧ 2146 < (2147 : AdcCode).toNat ∧ shop.msc.failCount ≠ 119 ∧
    ({ shop.msc with refFault := true, failCount := 119 } : Msc).failCount = 119 ∧
    ({ shop with msc := { shop.msc with refFault := true, failCount := 119 } } : State).msc.refFault = true := by
  decide

theorem wit_PassEnds_evaporator :
    let p : PassCodes := { th1 := 2048, th2 := 2048, th3 := 2048, thEvap := 4095, thAmb := 2048, vdrive := 3276, vref := 2048 }
    shop.msc.channels.thEvap.state ≠ .sensorFault ∧
    (after (.passEnd p) shop).msc.channels.thEvap.state = .sensorFault ∧
    (after (.passEnd p) shop).msc.handed = ⟨some (.value 250), some (.value 250), some (.value 250), some .fault,
      some (.value 250)⟩ := by decide

theorem wit_ZoneWrites : shop.linkReady = true ∧ zoneNoOf (1 : Byte).toNat = some .z1 ∧
    zoneNoOf (3 : Byte).toNat = some .z3 ∧ (shop.zone .z3).hold = none ∧
    (shop.setZone .z3 { chilled with hold := some .sensor }).zone .z3 = { chilled with hold := some .sensor } ∧
    (shop.zone .z3).cfg.mode = .chilled ∧ (opened shop).hli.doorOpen = true ∧
    (shop.zone .z3).temp = .value 30 ∧ (30 : Int) ≤ (shop.zone .z3).cfg.safetyLimit ∧
    (shop.zone .z3).cfg.safetyLimit < 81 := by decide

/-- Zone 1 turned CHILLED on each kind of temperature, a CHILLED zone with its settings moved and kept, and the
refusals. -/
theorem wit_ZoneWrites_starts :
    let on (zone : Byte) (setpoint : Half) : ZoneReq := ⟨zone, some .chilled, setpoint, 20, 80, 600, 20⟩
    let at1 (t : ZoneTemp) : State := shop.setZone .z1 { cold with temp := t }
    (shop.zone .z1).cfg.mode = .off ∧ ((at1 .sensorFault).zone .z1).temp = .sensorFault ∧
    ((after (.zoneSet 12 (on 1 40)) (at1 .sensorFault)).zone .z1).hold = some .sensor ∧
    ((after (.zoneSet 12 (on 1 40)) (at1 (.value 60))).zone .z1).target = .opened ∧
    ((after (.zoneSet 12 (on 1 40)) shop).zone .z1).temp = .notYet ∧
    ((after (.zoneSet 12 (on 3 10)) shop).zone .z3).target = .opened ∧
    ((after (.zoneSet 12 (on 3 40)) shop).zone .z3).cfg.setpoint = (shop.zone .z3).cfg.setpoint ∧
    zoneNoOf (0 : Byte).toNat = none ∧ zoneNoOf (4 : Byte).toNat = none ∧
    ((opened shop).setZone .z3 { chilled with temp := .notYet }).linkReady = true ∧
    (((opened shop).setZone .z3 { chilled with temp := .sensorFault }).zone .z3).temp = .sensorFault ∧
    shop.hli.doorOpen = false := by decide

theorem wit_ZonesMeasure :
    let s := handed (.value 60) shop
    let f := handed .fault shop
    s.power ≠ .off ∧ s.msc.handed.thAmb = some (.value 60) ∧ zoneNoOf (3 : Fin 4).val = some .z3 ∧
    s.msc.handed.ofZone 3 = some (.value 60) ∧ (s.zone .z3).cfg.mode = .chilled ∧
    f.msc.handed.ofZone 3 = some .fault ∧ (s.zone .z3).temp = .value 30 ∧
    (s.zone .z1).cfg.mode = .off := by decide

/-- A damper move waits with its grant; the same move runs. -/
def moving : State := setLoad .damper (.granted 2)
  ((shop.setZone .z3 { chilled with target := .opened, damper := .moving }).setQueue [(.z3, .opened)])

theorem wit_DamperMoves : moving.power ≠ .off ∧ (moving.load .damper).isGranted = true ∧
    moving.inTurn .damper = true ∧ moving.ztc.running = none ∧ moving.ztc.queue = [(.z3, .opened)] ∧
    (after .damperGrant moving).ztc.running = some ⟨.z3, .opened, 4000⟩ ∧
    (after .damperGrant moving).power ≠ .off := by decide

theorem wit_CompressorRuns :
    let wait := setLoad .compressor (.granted 35) (inRfc .waitPower shop)
    let start : State := { inRfc .starting wait with rfc := { (inRfc .starting wait).rfc with
      startWindow := some 3000 } }
    wait.rfc.state = .waitPower ∧ (wait.load .compressor).isGranted = true ∧
    wait.inTurn .compressor = true ∧ start.rfc.startWindow = some 3000 ∧ start.load .compressor = .granted 35 ∧
    start.settings.runWeight < 35 ∧ start.sumHeld ≤ start.budget ∧ shop.rfc.state = .lockout ∧
    cooling.rfc.state = .running ∧ cooling.rfc.demand = false ∧
    ({ cooling.rfc with demand := true } : Rfc).demand = true := by decide

/-- The zone 3 of `s` is cooling, its damper move to CLOSED about to end, in state `x` of RFC. -/
def closing (x : RfcState) : State :=
  let s := setLoad .damper (.granted 2) (inRfc x (shop.setZone .z3 { chilled with damper := .opened }))
  { s with
    ztc := { s.ztc with running := some ⟨.z3, .closed, 4000⟩, demand := true }
    rfc := { s.rfc with demand := true, runTime := 600000 } }

theorem closing_demand (x : RfcState) : DemandLaw (closing x) :=
  ⟨⟨fun _ => ⟨.z3, rfl, .inr rfl⟩, fun _ => rfl⟩, rfl⟩

/-- A drop of the demand in WAIT_POWER and RUNNING, and a raise in READY. -/
theorem wit_CompressorRuns_demand :
    let warm : State := handed (.value 60) (inRfc .ready shop)
    (closing .waitPower).power ≠ .off ∧ DemandLaw (closing .waitPower) ∧ DemandLaw (closing .running) ∧
    DemandLaw warm ∧ (closing .running).sumHeld ≤ (closing .running).budget ∧
    warm.sumHeld ≤ warm.budget ∧ warm.rfc.demand = false ∧ warm.belowCutout = false ∧
    (after (.zoneTemperature 3) warm).rfc.demand = true ∧
    (after (.zoneTemperature 3) warm).rfc.state = .waitPower ∧
    (after .damperMoveEnd (closing .waitPower)).rfc.demand = false ∧
    (after .damperMoveEnd (closing .waitPower)).rfc.state = .ready ∧
    (after .damperMoveEnd (closing .running)).rfc.demand = false ∧
    (after .damperMoveEnd (closing .running)).rfc.state = .lockout :=
  ⟨by decide, closing_demand _, closing_demand _,
    ⟨⟨fun h => (Bool.false_ne_true h).elim, by rintro ⟨z, h⟩; cases z <;> revert h <;> decide⟩, rfl⟩,
    by decide, by decide, by decide, by decide, by decide, by decide, by decide, by decide, by decide,
    by decide⟩

theorem wit_DefrostRuns :
    let hot : State := setLoad .defrost (.granted 20)
      { inRfc .defrost shop with rfc := { (inRfc .defrost shop).rfc with heaterOn := true } }
    hot.linkReady = true ∧ hot.rfc.state = .defrost ∧ (hot.load .defrost).isGranted = true ∧
    hot.inTurn .defrost = true ∧ hot.rfc.heaterOn = true ∧ hot.settings.dripTime ≠ 0 ∧ cooling.rfc.state.compressorOn = true ∧
    (handed (.value 80) hot).msc.handed.thEvap = some (.value 80) ∧ hot.settings.termination ≤ 80 ∧
    (79 : Int) < hot.settings.termination ∧ (-251 : Int) < cooling.settings.cutout ∧
    (inRfc .drip shop).rfc.state = .drip ∧ (inRfc .lockout shop).rfc.state = .lockout := by decide

/-- An interval reached with the compressor off, and a heater at its limit that a revocation has paused. -/
theorem wit_DefrostRuns_reached :
    let reached (x : RfcState) : State :=
      { inRfc x shop with rfc := { (inRfc x shop).rfc with accumulator := 43200000 } }
    let paused : State := { inRfc .defrost shop with rfc := { (inRfc .defrost shop).rfc with
      heaterTime := 1800000 } }
    (reached .lockout).settings.defrostInterval * 3600000 ≤ (reached .lockout).rfc.accumulator ∧
    (reached .lockout).rfc.state = .lockout ∧ (reached .ready).rfc.state = .ready ∧
    (reached .drip).rfc.state = .drip ∧
    (after .defrostIntervalExpiry (reached .lockout)).rfc.defrostPending = true ∧
    paused.rfc.heaterOn = false ∧ paused.settings.heaterLimit * 60000 ≤ paused.rfc.heaterTime ∧
    (after .heaterTimeLimitExpiry paused).rfc.state = .drip := by decide

theorem wit_DefrostRuns_drip :
    let s := inRfc .drip shop
    let long : State := { s with rfc := { s.rfc with offTime := 180000 } }
    s.rfc.offTime + (s.settings.dripTime * 60000 - s.rfc.dripTime) < s.settings.minOff * 1000 ∧
    long.settings.minOff * 1000 ≤ long.rfc.offTime + (long.settings.dripTime * 60000 - long.rfc.dripTime) ∧
    ({ s.rfc with recovery := some 600000 } : Rfc).recovery = some 600000 ∧ s.power ≠ .off := by decide

/-! ### The laws hold of a machine at work, and its steps go on -/

theorem busy_balance : BalanceLaw busy where
  live := by unfold balanced; decide
  idle := by decide
  image := fun _ h => nomatch h
  saving := fun _ h => nomatch h

theorem wit_BalanceKept : SessionLaw busy ∧ BalanceLaw busy ∧ ∃ t, step busy = .next t :=
  ⟨busy_session, busy_balance, _, rfl⟩

/-- A machine in service with a command that waits. -/
def queued : State := shop.withPending [.minuteMark]

/-- A poll of the coin validator whose reply is refused. -/
def polled : State := (waiting .coin .poll shop).withPending [.nak]

theorem wit_TablesKept : TablesLaw queued ∧ ∃ t, step queued = .next t :=
  ⟨{ live :=
      { size := by decide
        order := by decide
        owners := by decide
        records := by
          intro r hr
          simp only [queued, State.withPending, shop, List.mem_cons, List.not_mem_nil, or_false] at hr
          rcases hr with rfl | rfl
          · exact sel58_law
          · exact sel999_law }
     image := fun _ h => nomatch h
     saving := fun _ h => nomatch h }, _, rfl⟩

theorem wit_CoinsKept : CoinLaw queued ∧ ∃ t, step queued = .next t :=
  ⟨{ six := by decide
     count := by
      intro t ht
      simp only [queued, State.withPending, shop, tube, Tube.unassigned, List.replicate, List.mem_cons, List.not_mem_nil, or_false] at ht
      rcases ht with rfl | rfl | rfl | rfl | rfl | rfl <;> simp [countLaw]
     mapping := by
      intro c hc i hi
      simp only [queued, State.withPending, shop, CoinClass.unused, List.replicate, List.mem_cons, List.not_mem_nil, or_false] at hc
      rcases hc with rfl | rfl | rfl | rfl | rfl | rfl | rfl | rfl | rfl | rfl | rfl | rfl | rfl | rfl |
        rfl | rfl <;> simp_all <;> subst hi <;> exact ⟨_, ⟨_, rfl, rfl⟩, rfl⟩
     image := fun _ h => nomatch h
     saving := fun _ h => nomatch h }, _, rfl⟩

theorem cold_law (z : ZoneNo) :
    ExposureLaw (queued.zone z).cfg (queued.zone z).exposure (queued.zone z).hold := by
  cases z <;> constructor <;> decide

theorem wit_HoldsKept : HoldLaw queued ∧ ∃ t, step queued = .next t :=
  ⟨{ live := cold_law
     sensor := by intro z; cases z <;> decide
     image := fun _ h => nomatch h
     saving := fun _ h => nomatch h }, _, rfl⟩

/-- A SPIRAL grant that waits to be taken. -/
def granting : State := State.withPending
  (setLoad .spiral (.waiting 8 0 false) shop).grantPass [.spiralGrant false]

theorem wit_BudgetKept : BudgetLaw busy ∧ (∃ t, step busy = .next t) ∧ HandingLaw granting ∧
    granting.lba.untaken = [[.spiral]] ∧ ∃ t, step granting = .next t :=
  ⟨by unfold BudgetLaw; decide, ⟨_, rfl⟩,
    ⟨by decide, by decide, by decide⟩, by decide, _, rfl⟩

theorem wit_GrantsAndOffTimeKept : GrantLaw busy ∧ OffTimeLaw busy ∧
    ∃ t, step busy = .next t :=
  ⟨busy_grants, by unfold OffTimeLaw; decide, _, rfl⟩

theorem wit_GrantsAndOffTimeKept_lines : GrantLaw busy ∧ busy.power ≠ .off ∧
    busy.rowLine = some 4 ∧ busy.columnLines = [2] ∧ busy.comp = true ∧ busy.heat = false ∧
    busy.efan = true ∧ ejecting.payLine = some 0 :=
  ⟨busy_grants, by decide, by decide, by decide, by decide, by decide, by decide, by decide⟩

theorem wit_SessionKept : SessionLaw busy ∧ ∃ t, step busy = .next t :=
  ⟨busy_session, _, rfl⟩

theorem wit_WorkListKept : SessionLaw busy ∧ WorkListLaw busy ∧
    ∃ t, step busy = .next t :=
  ⟨busy_session, busy_work, _, rfl⟩

theorem wit_DampersAndMeasureKept : DamperLaw queued ∧ MeasureLaw queued ∧
    (∃ t, step queued = .next t) ∧ DemandLaw (State.withPending (closing .running) [.damperMoveEnd]) ∧
    ∃ t, step (State.withPending (closing .running) [.damperMoveEnd]) = .next t :=
  ⟨{ once := by decide
     queued := by decide
     reached := by intro z; cases z <;> decide },
   { th1 := by constructor <;> decide
     th2 := by constructor <;> decide
     th3 := by constructor <;> decide
     thEvap := by constructor <;> decide
     thAmb := by constructor <;> decide
     failCount := by decide
     refFault := by decide }, ⟨_, rfl⟩,
   ⟨⟨fun _ => ⟨.z3, rfl, .inr rfl⟩, fun _ => rfl⟩, rfl⟩, _, rfl⟩

theorem wit_BusNoticesStoreKept : BusLaw polled ∧ NoticeLaw polled ∧ StoreLaw polled ∧
    ∃ t, step polled = .next t :=
  ⟨{ records := by
      intro p
      cases p
      · exact ⟨by decide, by intro o h; cases h; decide⟩
      · exact ⟨by decide, by intro o h; cases h⟩
     coin := by decide
     late := by decide }, by unfold NoticeLaw; decide, by unfold StoreLaw; decide, _, rfl⟩

end Sys2Proof.Tests
end

section
/-! SUPPORT. What each operation leaves unchanged, as rewriting rules: the shared operations with every record
they leave as it was, the others with the selection table and the retained store. -/

namespace Sys2Proof.Machine

variable (s : State)

/-! ### LBA -/

/-- A grant pass writes load records, untaken grants and RFC alone. -/
@[simp] theorem State.grantPass_unchanged : s.grantPass.pending = s.pending ∧
    s.grantPass.power = s.power ∧ s.grantPass.settings = s.settings ∧ s.grantPass.selt = s.selt ∧
    s.grantPass.sesc = s.sesc ∧ s.grantPass.sdc = s.sdc ∧ s.grantPass.chu = s.chu ∧
    s.grantPass.cbm = s.cbm ∧ s.grantPass.lba.band = s.lba.band ∧
    s.grantPass.lba.vdrive = s.lba.vdrive ∧ s.grantPass.lba.pfw = s.lba.pfw ∧
    s.grantPass.msc = s.msc ∧ s.grantPass.ztc = s.ztc ∧ s.grantPass.hli = s.hli ∧
    s.grantPass.rst = s.rst := by
  obtain ⟨_, _, _, h⟩ := s.grantPass_frame
  simp [h]

@[simp] theorem State.request_unchanged (l : Load) (w : Nat) :
    (s.request l w).pending = s.pending ∧ (s.request l w).power = s.power ∧
    (s.request l w).settings = s.settings ∧ (s.request l w).selt = s.selt ∧
    (s.request l w).sesc = s.sesc ∧ (s.request l w).sdc = s.sdc ∧ (s.request l w).chu = s.chu ∧
    (s.request l w).cbm = s.cbm ∧ (s.request l w).lba.band = s.lba.band ∧
    (s.request l w).lba.vdrive = s.lba.vdrive ∧ (s.request l w).lba.pfw = s.lba.pfw ∧
    (s.request l w).msc = s.msc ∧ (s.request l w).ztc = s.ztc ∧ (s.request l w).hli = s.hli ∧
    (s.request l w).rst = s.rst := by
  obtain ⟨_, _, _, h⟩ := s.request_frame l w
  simp [h]

@[simp] theorem State.release_unchanged (l : Load) :
    (s.release l).pending = s.pending ∧ (s.release l).power = s.power ∧
    (s.release l).settings = s.settings ∧ (s.release l).selt = s.selt ∧
    (s.release l).sesc = s.sesc ∧ (s.release l).sdc = s.sdc ∧ (s.release l).chu = s.chu ∧
    (s.release l).cbm = s.cbm ∧ (s.release l).lba.band = s.lba.band ∧
    (s.release l).lba.vdrive = s.lba.vdrive ∧ (s.release l).lba.pfw = s.lba.pfw ∧
    (s.release l).msc = s.msc ∧ (s.release l).ztc = s.ztc ∧ (s.release l).hli = s.hli ∧
    (s.release l).rst = s.rst := by
  obtain ⟨_, _, _, h⟩ := s.release_frame l
  simp [h]

@[simp] theorem State.reduceWeight_tables (l : Load) (w : Nat) :
    (s.reduceWeight l w).selt = s.selt ∧ (s.reduceWeight l w).rst = s.rst := by
  obtain ⟨_, _, _, h⟩ := s.reduceWeight_frame l w
  simp [h]

/-- A change of the band writes the band and the SUPPLY notice alone. -/
@[simp] theorem State.setBand_unchanged (b : Band) : (s.setBand b).pending = s.pending ∧
    (s.setBand b).power = s.power ∧ (s.setBand b).settings = s.settings ∧
    (s.setBand b).selt = s.selt ∧ (s.setBand b).sesc = s.sesc ∧ (s.setBand b).sdc = s.sdc ∧
    (s.setBand b).chu = s.chu ∧ (s.setBand b).cbm = s.cbm ∧
    (s.setBand b).lba = { s.lba with band := b } ∧ (s.setBand b).msc = s.msc ∧
    (s.setBand b).ztc = s.ztc ∧ (s.setBand b).rfc = s.rfc ∧ (s.setBand b).rst = s.rst := by
  obtain ⟨_, h⟩ := s.setBand_frame b
  simp [h]

@[simp] theorem State.setBandAndPass_tables (b : Band) :
    (s.setBandAndPass b).selt = s.selt ∧ (s.setBandAndPass b).rst = s.rst := by
  unfold State.setBandAndPass
  split <;> simp

@[simp] theorem State.promote_tables (l : Load) :
    (s.promote l).selt = s.selt ∧ (s.promote l).rst = s.rst := by
  unfold State.promote
  split <;> simp

@[simp] theorem State.promoteAllDue_tables :
    s.promoteAllDue.selt = s.selt ∧ s.promoteAllDue.rst = s.rst := ⟨rfl, rfl⟩

@[simp] theorem State.promoteIfDue_tables (l : Load) :
    (s.promoteIfDue l).selt = s.selt ∧ (s.promoteIfDue l).rst = s.rst := ⟨rfl, rfl⟩

/-- A grant taken by an effect that leaves the table and the store leaves both. -/
theorem State.takeGrant_tables (l : Load) (f : State → State)
    (h : ∀ x : State, (f x).selt = x.selt ∧ (f x).rst = x.rst) :
    (s.takeGrant l f).selt = s.selt ∧ (s.takeGrant l f).rst = s.rst := by
  rcases s.takeGrant_cases l f with ⟨-, -, e⟩ | ⟨-, e⟩
  · rw [e]; simpa using h (s.tookGrant l)
  · simp [e]

/-! ### CBM: what is handed -/

@[simp] theorem State.hand_unchanged (p : Peripheral) (f : PendingSet → PendingSet) :
    (s.hand p f).pending = s.pending ∧ (s.hand p f).power = s.power ∧
    (s.hand p f).settings = s.settings ∧ (s.hand p f).selt = s.selt ∧ (s.hand p f).sesc = s.sesc ∧
    (s.hand p f).sdc = s.sdc ∧ (s.hand p f).chu = s.chu ∧ (s.hand p f).lba = s.lba ∧
    (s.hand p f).msc = s.msc ∧ (s.hand p f).ztc = s.ztc ∧ (s.hand p f).rfc = s.rfc ∧
    (s.hand p f).hli = s.hli ∧ (s.hand p f).rst = s.rst := by
  obtain ⟨_, h⟩ := s.hand_frame p f
  simp [h]

@[simp] theorem State.handEscrowStack_tables :
    s.handEscrowStack.selt = s.selt ∧ s.handEscrowStack.rst = s.rst := by
  simp [State.handEscrowStack]

@[simp] theorem State.handEscrowReturn_tables :
    s.handEscrowReturn.selt = s.selt ∧ s.handEscrowReturn.rst = s.rst := by
  simp [State.handEscrowReturn]

/-! ### CHU -/

@[simp] theorem State.noteMap_tables (m : BitVec 16) :
    (s.noteMap m).selt = s.selt ∧ (s.noteMap m).rst = s.rst := ⟨rfl, rfl⟩

@[simp] theorem State.noteMask_tables (p : Peripheral) (m : BitVec 16) :
    (s.noteMask p m).selt = s.selt ∧ (s.noteMask p m).rst = s.rst := by
  cases p <;> exact ⟨rfl, rfl⟩

@[simp] theorem State.updateRoute_tables :
    s.updateRoute.selt = s.selt ∧ s.updateRoute.rst = s.rst := by
  obtain ⟨_, _, h⟩ := s.updateRoute_frame
  simp [h]

@[simp] theorem State.updateMasks_tables :
    s.updateMasks.selt = s.selt ∧ s.updateMasks.rst = s.rst := by
  obtain ⟨_, _, _, h⟩ := s.updateMasks_frame
  simp [h]

@[simp] theorem State.evalExact_tables :
    s.evalExact.selt = s.selt ∧ s.evalExact.rst = s.rst := by
  obtain ⟨_, _, h⟩ := s.evalExact_frame
  simp [h]

@[simp] theorem State.tubesChanged_tables :
    s.tubesChanged.selt = s.selt ∧ s.tubesChanged.rst = s.rst := by
  obtain ⟨_, _, _, _, h⟩ := s.tubesChanged_frame
  simp [h]

@[simp] theorem State.raiseTube_tables (i : Nat) (r : TubeReason) (cls : Option Nat) :
    (s.raiseTube i r cls).selt = s.selt ∧ (s.raiseTube i r cls).rst = s.rst := by
  unfold State.raiseTube
  split <;> simp

@[simp] theorem dropMappings_tables (only : Option Nat) (cs : List CoinClass) (k : Nat) :
    (dropMappings only k cs s).selt = s.selt ∧ (dropMappings only k cs s).rst = s.rst := by
  induction cs generalizing k s with
  | nil => exact ⟨rfl, rfl⟩
  | cons c cs ih =>
    simp only [dropMappings]
    split
    · exact ih s (k + 1)
    · split <;> split <;> simp [ih]

@[simp] theorem State.dropMapped_tables (only : Option Nat) :
    (s.dropMapped only).selt = s.selt ∧ (s.dropMapped only).rst = s.rst :=
  dropMappings_tables s only _ 0

@[simp] theorem State.takeSetup_tables (p : Peripheral) (vs : List Nat) :
    (s.takeSetup p vs).selt = s.selt ∧ (s.takeSetup p vs).rst = s.rst := by
  cases p <;> simp [State.takeSetup]

@[simp] theorem State.editTube_tables (i : Nat) (f : Tube → Tube) :
    (s.editTube i f).selt = s.selt ∧ (s.editTube i f).rst = s.rst := ⟨rfl, rfl⟩

@[simp] theorem State.countCoin_tables (c : CoinClass) (toTube : Bool) :
    (s.countCoin c toTube).selt = s.selt ∧ (s.countCoin c toTube).rst = s.rst := by
  unfold State.countCoin
  split
  · split
    · split <;> simp
    · simp
  · simp

@[simp] theorem State.correctCount_tables (i : Nat) (n : Option Nat) :
    (s.correctCount i n).selt = s.selt ∧ (s.correctCount i n).rst = s.rst := by
  unfold State.correctCount
  split <;> simp

@[simp] theorem State.fullReads_tables (i : Nat) (active : Bool) :
    (s.fullReads i active).selt = s.selt ∧ (s.fullReads i active).rst = s.rst := by
  unfold State.fullReads
  split
  · simp
  · next t _ =>
    by_cases h : t.full = if active then FullSwitch.active else .clear
    · simp [h]
    · simp only [h]
      cases (fullCorrection t active).isSome <;> simp

@[simp] theorem State.lowReads_tables (i : Nat) (low : Bool) :
    (s.lowReads i low).selt = s.selt ∧ (s.lowReads i low).rst = s.rst := by
  unfold State.lowReads
  split
  · simp
  · next t _ =>
    by_cases h : t.low = if low then LowSwitch.low else .notLow
    · simp [h]
    · simp only [h]
      cases (lowCorrection t low).isSome <;> simp

/-! ### The end of an event -/

/-- The session's note writes the SESSION notice, the masks last handed and the pending sets. -/
@[simp] theorem State.closeEvent_unchanged (before : Session) :
    (s.closeEvent before).pending = s.pending ∧ (s.closeEvent before).power = s.power ∧
    (s.closeEvent before).settings = s.settings ∧ (s.closeEvent before).selt = s.selt ∧
    (s.closeEvent before).sesc = s.sesc ∧ (s.closeEvent before).sdc = s.sdc ∧
    (s.closeEvent before).chu.totals = s.chu.totals ∧
    (s.closeEvent before).chu.payout = s.chu.payout ∧ (s.closeEvent before).lba = s.lba ∧
    (s.closeEvent before).msc = s.msc ∧ (s.closeEvent before).ztc = s.ztc ∧
    (s.closeEvent before).rfc = s.rfc ∧ (s.closeEvent before).hli.slot = s.hli.slot ∧
    (s.closeEvent before).rst = s.rst := by
  obtain ⟨_, _, _, _, h⟩ := s.closeEvent_frame before
  simp [h]

@[simp] theorem State.noteSession_tables :
    s.noteSession.selt = s.selt ∧ s.noteSession.rst = s.rst := by
  simp [State.noteSession]

/-- An event whose work leaves the session's view as it was closes without a note (R28). -/
theorem State.closeEvent_of_view {before : Session} (h : s.sesc.view = before.view) :
    s.closeEvent before = s := if_pos h

/-! ### SDC -/

@[simp] theorem State.enterAwaitPower_unchanged (u : DriveUnit) :
    (s.enterAwaitPower u).pending = s.pending ∧ (s.enterAwaitPower u).power = s.power ∧
    (s.enterAwaitPower u).settings = s.settings ∧ (s.enterAwaitPower u).selt = s.selt ∧
    (s.enterAwaitPower u).sesc = s.sesc ∧
    (s.enterAwaitPower u).sdc = { s.sdc with seq := .awaitPower, powerTimer := some powerTimerMs } ∧
    (s.enterAwaitPower u).chu = s.chu ∧ (s.enterAwaitPower u).cbm = s.cbm ∧
    (s.enterAwaitPower u).msc = s.msc ∧ (s.enterAwaitPower u).ztc = s.ztc ∧
    (s.enterAwaitPower u).hli = s.hli ∧ (s.enterAwaitPower u).rst = s.rst := by
  simp [State.enterAwaitPower]

@[simp] theorem State.takeHead_unchanged :
    s.takeHead.pending = s.pending ∧ s.takeHead.power = s.power ∧
    s.takeHead.settings = s.settings ∧ s.takeHead.selt = s.selt ∧ s.takeHead.sesc = s.sesc ∧
    s.takeHead.chu = s.chu ∧ s.takeHead.cbm = s.cbm ∧ s.takeHead.msc = s.msc ∧
    s.takeHead.ztc = s.ztc ∧ s.takeHead.hli = s.hli ∧ s.takeHead.rst = s.rst := by
  obtain ⟨_, _, _, _, h⟩ := s.takeHead_frame
  simp [h]

@[simp] theorem State.energize_tables (u : DriveUnit) (homeOpen : Bool) :
    (s.energize u homeOpen).selt = s.selt ∧ (s.energize u homeOpen).rst = s.rst := ⟨rfl, rfl⟩

/-- De-energizing writes the unit and the sequencer's timers, the current sampling, and what the SPIRAL load
given back draws. -/
@[simp] theorem State.deenergize_unchanged :
    s.deenergize.pending = s.pending ∧ s.deenergize.power = s.power ∧
    s.deenergize.settings = s.settings ∧ s.deenergize.selt = s.selt ∧ s.deenergize.sesc = s.sesc ∧
    s.deenergize.sdc = { s.sdc with
      energized := none, powerTimer := none, leaveTimer := none, turnTimer := none,
      settleTimer := none } ∧
    s.deenergize.chu = s.chu ∧ s.deenergize.cbm = s.cbm ∧ s.deenergize.lba.band = s.lba.band ∧
    s.deenergize.lba.pfw = s.lba.pfw ∧ s.deenergize.ztc = s.ztc ∧ s.deenergize.hli = s.hli ∧
    s.deenergize.rst = s.rst := by
  simp [State.deenergize]

@[simp] theorem State.enterSettling_tables :
    s.enterSettling.selt = s.selt ∧ s.enterSettling.rst = s.rst := by
  simp [State.enterSettling]

@[simp] theorem State.enqueue_unchanged (v : PendingVend) :
    (s.enqueue v).settings = s.settings ∧ (s.enqueue v).selt = s.selt ∧
    (s.enqueue v).sesc = s.sesc ∧ (s.enqueue v).chu = s.chu ∧ (s.enqueue v).hli = s.hli ∧
    (s.enqueue v).rst = s.rst ∧ (s.enqueue v).lba = s.lba ∧
    (s.enqueue v).sdc = { s.sdc with list := enqueueVend (s.vendEntry v) s.sdc.list } := by
  simp [State.enqueue]

@[simp] theorem State.takeSpiral_tables (homeOpen : Bool) :
    (s.takeSpiral homeOpen).selt = s.selt ∧ (s.takeSpiral homeOpen).rst = s.rst := by
  refine s.takeGrant_tables .spiral _ fun x => ?_
  split <;> simp

@[simp] theorem State.homeOpens_tables :
    s.homeOpens.selt = s.selt ∧ s.homeOpens.rst = s.rst := by
  unfold State.homeOpens
  split <;> simp

@[simp] theorem State.dropPendingTests_tables :
    s.dropPendingTests.selt = s.selt ∧ s.dropPendingTests.rst = s.rst := ⟨rfl, rfl⟩

/-! ### SESC -/

@[simp] theorem State.startInactivity_tables :
    s.startInactivity.selt = s.selt ∧ s.startInactivity.rst = s.rst := ⟨rfl, rfl⟩

@[simp] theorem State.restartInactivity_tables :
    s.restartInactivity.selt = s.selt ∧ s.restartInactivity.rst = s.rst := by
  unfold State.restartInactivity
  split <;> simp

@[simp] theorem State.inactivityWritten_tables :
    s.inactivityWritten.selt = s.selt ∧ s.inactivityWritten.rst = s.rst := by
  unfold State.inactivityWritten
  split <;> simp

@[simp] theorem State.closeSession_tables :
    s.closeSession.selt = s.selt ∧ s.closeSession.rst = s.rst := ⟨rfl, rfl⟩

@[simp] theorem State.backToCredit_tables :
    s.backToCredit.selt = s.selt ∧ s.backToCredit.rst = s.rst := ⟨rfl, rfl⟩

@[simp] theorem State.openCash_tables :
    s.openCash.selt = s.selt ∧ s.openCash.rst = s.rst := ⟨rfl, rfl⟩

@[simp] theorem State.creditOrIdle_tables :
    s.creditOrIdle.selt = s.selt ∧ s.creditOrIdle.rst = s.rst := by
  obtain ⟨_, h⟩ := s.creditOrIdle_frame
  simp [h]

@[simp] theorem State.payOrIdle_tables :
    s.payOrIdle.selt = s.selt ∧ s.payOrIdle.rst = s.rst := by
  obtain ⟨_, _, _, _, _, _, _, h⟩ := s.payOrIdle_frame
  simp [h]

@[simp] theorem State.settle_tables (c : Nat) :
    (s.settle c).selt = s.selt ∧ (s.settle c).rst = s.rst := by
  obtain ⟨_, _, _, _, _, _, _, h⟩ := s.settle_frame c
  simp [h]

@[simp] theorem State.cancelSession_tables (r : BillReason) :
    (s.cancelSession r).selt = s.selt ∧ (s.cancelSession r).rst = s.rst := by
  unfold State.cancelSession
  simp only
  split <;> split <;> simp

@[simp] theorem State.timeOut_tables : s.timeOut.selt = s.selt ∧ s.timeOut.rst = s.rst := by
  unfold State.timeOut
  split <;> simp

@[simp] theorem State.acceptVend_tables (v : PendingVend) :
    (s.acceptVend v).selt = s.selt ∧ (s.acceptVend v).rst = s.rst := by
  unfold State.acceptVend
  simp only
  split <;> simp

@[simp] theorem State.refuseVend_tables (st : Status) (body : List Field) :
    (s.refuseVend st body).state.selt = s.selt ∧ (s.refuseVend st body).state.rst = s.rst := by
  unfold State.refuseVend
  simp only
  split <;> simp

@[simp] theorem State.vendFrom_tables (r : Selection) :
    (s.vendFrom r).state.selt = s.selt ∧ (s.vendFrom r).state.rst = s.rst := by
  simp only [State.vendFrom]
  split
  · simp
  · split
    · simp
    · split
      · simp
      · split <;> simp

@[simp] theorem State.vendRequest_tables (code : Half) :
    (s.vendRequest code).state.selt = s.selt ∧ (s.vendRequest code).state.rst = s.rst := by
  unfold State.vendRequest
  split
  · simp
  · split
    · simp
    · split <;> simp

@[simp] theorem State.cancelRequest_tables :
    s.cancelRequest.state.selt = s.selt ∧ s.cancelRequest.state.rst = s.rst := by
  unfold State.cancelRequest
  split <;> simp [State.reply]

@[simp] theorem State.cashlessOpenRequest_tables (n : Half) :
    (s.cashlessOpenRequest n).state.selt = s.selt ∧
      (s.cashlessOpenRequest n).state.rst = s.rst := by
  unfold State.cashlessOpenRequest
  split
  · exact ⟨rfl, rfl⟩
  · split <;> exact ⟨rfl, rfl⟩

@[simp] theorem State.cashlessCloseRequest_tables :
    s.cashlessCloseRequest.state.selt = s.selt ∧ s.cashlessCloseRequest.state.rst = s.rst := by
  unfold State.cashlessCloseRequest
  split
  · simp
  · split <;> exact ⟨rfl, rfl⟩

/-! ### The payout executor -/

@[simp] theorem State.pulse_tables : s.pulse.selt = s.selt ∧ s.pulse.rst = s.rst := by
  obtain ⟨_, h⟩ := s.pulse_frame
  simp [h]

@[simp] theorem State.startEjecting_tables :
    s.startEjecting.selt = s.selt ∧ s.startEjecting.rst = s.rst := by
  simp [State.startEjecting]

@[simp] theorem State.endPayout_tables (keep : Bool) :
    (s.endPayout keep).selt = s.selt ∧ (s.endPayout keep).rst = s.rst := by
  obtain ⟨_, _, _, _, _, _, h⟩ := s.endPayout_frame keep
  simp [h]

@[simp] theorem State.endChange_tables :
    s.endChange.selt = s.selt ∧ s.endChange.rst = s.rst := by
  simp [State.endChange]

@[simp] theorem State.startChange_tables (n : Nat) (granted : Bool) :
    (s.startChange n granted).selt = s.selt ∧ (s.startChange n granted).rst = s.rst := by
  obtain ⟨_, _, _, _, _, _, _, h⟩ := s.startChange_frame n granted
  simp [h]

@[simp] theorem State.startService_tables (i d n count : Nat) :
    (s.startService i d n count).selt = s.selt ∧ (s.startService i d n count).rst = s.rst := by
  simp only [State.startService]
  split <;> simp

@[simp] theorem State.finishPayout_tables :
    s.finishPayout.selt = s.selt ∧ s.finishPayout.rst = s.rst := by
  unfold State.finishPayout
  split
  · simp
  · split <;> simp

@[simp] theorem State.confirmCoin_tables (d : Nat) :
    (s.confirmCoin d).selt = s.selt ∧ (s.confirmCoin d).rst = s.rst := by
  simp only [State.confirmCoin]
  split <;> exact ⟨rfl, rfl⟩

@[simp] theorem State.overpayCoin_tables (d : Nat) :
    (s.overpayCoin d).selt = s.selt ∧ (s.overpayCoin d).rst = s.rst := ⟨rfl, rfl⟩

@[simp] theorem State.exitCount_tables :
    s.exitCount.selt = s.selt ∧ s.exitCount.rst = s.rst := by
  unfold State.exitCount State.countInWindow State.lateCount State.lowerCount
  split
  · simp only
    split
    · split <;> simp
    · simp
  · split
    · split
      · split <;> simp [State.payOver]
      · simp
    · simp

@[simp] theorem State.markJammed_tables (i : Nat) :
    (s.markJammed i).selt = s.selt ∧ (s.markJammed i).rst = s.rst := by
  simp [State.markJammed]

@[simp] theorem State.replan_tables : s.replan.selt = s.selt ∧ s.replan.rst = s.rst := by
  simp only [State.replan]
  split <;> simp

@[simp] theorem State.windowEnds_tables (i : Nat) :
    (s.windowEnds i).selt = s.selt ∧ (s.windowEnds i).rst = s.rst := by
  simp only [State.windowEnds, State.jamTube]
  split
  · split <;> simp
  · split
    · split <;> simp
    · split <;> simp

@[simp] theorem State.stopPayout_tables :
    s.stopPayout.selt = s.selt ∧ s.stopPayout.rst = s.rst := by
  unfold State.stopPayout
  split
  · simp
  · split
    · simp
    · split <;> simp

@[simp] theorem State.takePayout_tables :
    s.takePayout.selt = s.selt ∧ s.takePayout.rst = s.rst := by
  refine s.takeGrant_tables .payout _ fun x => ?_
  split <;> simp

/-! ### Escrow and coins -/

@[simp] theorem State.loseEscrow_tables (r : BillReason) :
    (s.loseEscrow r).selt = s.selt ∧ (s.loseEscrow r).rst = s.rst := by
  simp only [State.loseEscrow]
  split <;> simp

@[simp] theorem State.reportVend_tables (v : PendingVend) (o : VendOutcome) (n : Nat) :
    (s.reportVend v o n).selt = s.selt ∧ (s.reportVend v o n).rst = s.rst := ⟨rfl, rfl⟩

@[simp] theorem State.stackFails_tables (r : BillReason) :
    (s.stackFails r).selt = s.selt ∧ (s.stackFails r).rst = s.rst := by
  simp only [State.stackFails]
  split <;> simp

@[simp] theorem State.billLost_tables : s.billLost.selt = s.selt ∧ s.billLost.rst = s.rst := by
  unfold State.billLost
  split
  · simp
  · split <;> simp

@[simp] theorem State.sendBack_tables (r : BillReason) :
    (s.sendBack r).selt = s.selt ∧ (s.sendBack r).rst = s.rst := by
  simp only [State.sendBack]
  split <;> simp

@[simp] theorem State.keepBill_tables (cls value : Nat) :
    (s.keepBill cls value).selt = s.selt ∧ (s.keepBill cls value).rst = s.rst := by
  simp only [State.keepBill]
  split <;> simp

@[simp] theorem State.billEscrowed_tables (cls : Nat) :
    (s.billEscrowed cls).selt = s.selt ∧ (s.billEscrowed cls).rst = s.rst := by
  unfold State.billEscrowed
  split
  · simp
  · split <;> simp

@[simp] theorem State.billStacked_tables :
    s.billStacked.selt = s.selt ∧ s.billStacked.rst = s.rst := by
  unfold State.billStacked
  split
  · simp only
    split <;> simp
  · simp

@[simp] theorem State.billReturned_tables :
    s.billReturned.selt = s.selt ∧ s.billReturned.rst = s.rst := by
  unfold State.billReturned
  split
  · simp
  · split <;> simp

@[simp] theorem State.coinPhase_tables : s.coinPhase.selt = s.selt ∧ s.coinPhase.rst = s.rst := by
  unfold State.coinPhase
  split <;> simp

@[simp] theorem State.coinAccepted_tables (cls : Nat) (toTube : Bool) :
    (s.coinAccepted cls toTube).selt = s.selt ∧ (s.coinAccepted cls toTube).rst = s.rst := by
  unfold State.coinAccepted
  split
  · simp
  · split <;> simp

/-! ### CBM -/

@[simp] theorem State.queueSetup_tables (p : Peripheral) :
    (s.queueSetup p).selt = s.selt ∧ (s.queueSetup p).rst = s.rst := by
  cases p <;> exact ⟨rfl, rfl⟩

@[simp] theorem State.validatorGone_tables (p : Peripheral) :
    (s.validatorGone p).selt = s.selt ∧ (s.validatorGone p).rst = s.rst := by
  cases p
  · exact ⟨rfl, rfl⟩
  · exact s.billLost_tables

@[simp] theorem State.goOffline_tables (p : Peripheral) :
    (s.goOffline p).selt = s.selt ∧ (s.goOffline p).rst = s.rst := by
  simp [State.goOffline]

@[simp] theorem State.attemptFails_tables (p : Peripheral) :
    (s.attemptFails p).selt = s.selt ∧ (s.attemptFails p).rst = s.rst := by
  unfold State.attemptFails
  split
  · simp
  · split <;> simp

@[simp] theorem State.exchangeFails_tables (p : Peripheral) (probe : Bool) :
    (s.exchangeFails p probe).selt = s.selt ∧ (s.exchangeFails p probe).rst = s.rst := by
  unfold State.exchangeFails State.probeFails
  split
  · simp only
    split <;> simp
  · simp

@[simp] theorem State.comeOnline_tables (p : Peripheral) :
    (s.comeOnline p).selt = s.selt ∧ (s.comeOnline p).rst = s.rst := by
  simp [State.comeOnline]

@[simp] theorem State.commandAcked_tables (p : Peripheral) (m : Message) :
    (s.commandAcked p m).selt = s.selt ∧ (s.commandAcked p m).rst = s.rst := by
  unfold State.commandAcked State.resetAcked
  cases m <;> simp

@[simp] theorem State.sendNew_tables (p : Peripheral) (m : Message) (f : PendingSet → PendingSet) :
    (s.sendNew p m f).selt = s.selt ∧ (s.sendNew p m f).rst = s.rst := ⟨rfl, rfl⟩

@[simp] theorem State.serveNew_tables (p : Peripheral) :
    (s.serveNew p).selt = s.selt ∧ (s.serveNew p).rst = s.rst := by
  simp only [State.serveNew]
  split
  · simp
  · split
    · simp
    · simp
    · split
      · simp
      · split <;> simp

@[simp] theorem State.serve_tables (p : Peripheral) :
    (s.serve p).selt = s.selt ∧ (s.serve p).rst = s.rst := by
  unfold State.serve
  split
  · split <;> simp
  · split <;> simp

@[simp] theorem serveLate_tables (ps : List Peripheral) :
    (serveLate ps s).selt = s.selt ∧ (serveLate ps s).rst = s.rst := by
  induction ps generalizing s with
  | nil => exact ⟨rfl, rfl⟩
  | cons p ps ih =>
    simp only [serveLate]
    split
    · simp [ih]
    · simp

@[simp] theorem State.endExchange_tables :
    s.endExchange.selt = s.selt ∧ s.endExchange.rst = s.rst := by
  simp [State.endExchange]

@[simp] theorem State.openSlot_tables : s.openSlot.selt = s.selt ∧ s.openSlot.rst = s.rst := by
  simp only [State.openSlot]
  split <;> simp

@[simp] theorem State.deviceFault_tables (p : Peripheral) (code : Nat) :
    (s.deviceFault p code).selt = s.selt ∧ (s.deviceFault p code).rst = s.rst := by
  cases p
  · exact ⟨rfl, rfl⟩
  · simp only [State.deviceFault]
    split <;> simp

@[simp] theorem State.justReset_tables (p : Peripheral) :
    (s.justReset p).selt = s.selt ∧ (s.justReset p).rst = s.rst := by
  unfold State.justReset
  split <;> simp

@[simp] theorem State.busEvent_tables (p : Peripheral) (e : BusEvent) :
    (s.busEvent p e).selt = s.selt ∧ (s.busEvent p e).rst = s.rst := by
  cases e <;> cases p <;> simp [State.busEvent, State.stopWatch]

@[simp] theorem busEvents_tables (p : Peripheral) (es : List BusEvent) :
    (busEvents p es s).selt = s.selt ∧ (busEvents p es s).rst = s.rst := by
  induction es generalizing s with
  | nil => exact ⟨rfl, rfl⟩
  | cons e es ih => simp [busEvents, ih]

@[simp] theorem State.pollTaken_tables (p : Peripheral) (es : List BusEvent) :
    (s.pollTaken p es).selt = s.selt ∧ (s.pollTaken p es).rst = s.rst := by
  simp [State.pollTaken]

@[simp] theorem State.setupTaken_tables (p : Peripheral) (vs : List Nat) :
    (s.setupTaken p vs).selt = s.selt ∧ (s.setupTaken p vs).rst = s.rst := by
  simp [State.setupTaken]

@[simp] theorem State.replyFails_tables :
    s.replyFails.selt = s.selt ∧ s.replyFails.rst = s.rst := by
  unfold State.replyFails State.closeExchange
  split <;> simp

@[simp] theorem State.replyAck_tables : s.replyAck.selt = s.selt ∧ s.replyAck.rst = s.rst := by
  unfold State.replyAck State.closeExchange
  split
  · simp only [State.endExchange_tables, State.closeEvent_unchanged]
    split
    · simp
    · split
      · simp
      · split <;> simp
  · simp

@[simp] theorem State.replySetup_tables (chars : List Byte) :
    (s.replySetup chars).selt = s.selt ∧ (s.replySetup chars).rst = s.rst := by
  unfold State.replySetup
  split
  · split
    · split <;> simp
    · simp
  · simp

@[simp] theorem State.replyPoll_tables (chars : List Byte) :
    (s.replyPoll chars).selt = s.selt ∧ (s.replyPoll chars).rst = s.rst := by
  unfold State.replyPoll
  split
  · split
    · split <;> simp
    · simp
  · simp

@[simp] theorem State.frameSent_tables : s.frameSent.selt = s.selt ∧ s.frameSent.rst = s.rst := by
  unfold State.frameSent
  split <;> simp

@[simp] theorem State.confirmed_tables : s.confirmed.selt = s.selt ∧ s.confirmed.rst = s.rst := by
  unfold State.confirmed
  split <;> simp

/-! ### RFC -/

@[simp] theorem State.stopCompressor_tables :
    s.stopCompressor.selt = s.selt ∧ s.stopCompressor.rst = s.rst := by
  simp [State.stopCompressor]

@[simp] theorem State.enterDefrost_tables :
    s.enterDefrost.selt = s.selt ∧ s.enterDefrost.rst = s.rst := by
  simp [State.enterDefrost]

@[simp] theorem State.enterWaitPower_tables :
    s.enterWaitPower.selt = s.selt ∧ s.enterWaitPower.rst = s.rst := by
  simp [State.enterWaitPower]

@[simp] theorem State.leaveWaitPower_tables (x : RfcState) :
    (s.leaveWaitPower x).selt = s.selt ∧ (s.leaveWaitPower x).rst = s.rst := by
  simp [State.leaveWaitPower]

@[simp] theorem State.readyCheck_tables :
    s.readyCheck.selt = s.selt ∧ s.readyCheck.rst = s.rst := by
  obtain ⟨_, _, _, h⟩ := s.readyCheck_frame
  simp [h]

@[simp] theorem State.takeDemand_tables (d : Bool) :
    (s.takeDemand d).selt = s.selt ∧ (s.takeDemand d).rst = s.rst := by
  obtain ⟨_, _, _, h⟩ := s.takeDemand_frame d
  simp [h]

@[simp] theorem State.defrostDue_tables :
    s.defrostDue.selt = s.selt ∧ s.defrostDue.rst = s.rst := by
  unfold State.defrostDue
  split <;> simp

@[simp] theorem State.lockoutEnds_tables :
    s.lockoutEnds.selt = s.selt ∧ s.lockoutEnds.rst = s.rst := by
  unfold State.lockoutEnds
  split
  · simp
  · split <;> simp

@[simp] theorem State.dripEnds_tables : s.dripEnds.selt = s.selt ∧ s.dripEnds.rst = s.rst := by
  simp only [State.dripEnds, State.enterReady]
  split <;> simp

@[simp] theorem State.endDefrost_tables :
    s.endDefrost.selt = s.selt ∧ s.endDefrost.rst = s.rst := by
  simp only [State.endDefrost]
  split <;> simp

@[simp] theorem State.takeEvap_tables (v : Option Int) :
    (s.takeEvap v).selt = s.selt ∧ (s.takeEvap v).rst = s.rst := by
  simp only [State.takeEvap]
  split
  · simp
  · split <;> simp
  · split <;> simp
  · split <;> simp
  · split
    · split <;> simp
    · simp
  · simp

@[simp] theorem State.rfcSettingWritten_tables (num : Nat) :
    (s.rfcSettingWritten num).selt = s.selt ∧ (s.rfcSettingWritten num).rst = s.rst := by
  unfold State.rfcSettingWritten
  split
  · split
    · split <;> simp
    · split <;> simp
    · split <;> simp
    · simp
  · split <;> simp
  · split <;> simp
  · split <;> simp
  · split <;> simp
  · split <;> simp
  · simp

@[simp] theorem State.takeCompressor_tables :
    s.takeCompressor.selt = s.selt ∧ s.takeCompressor.rst = s.rst := by
  refine s.takeGrant_tables .compressor _ fun x => ?_
  split
  · exact ⟨rfl, rfl⟩
  · split <;> simp

@[simp] theorem State.takeDefrost_tables :
    s.takeDefrost.selt = s.selt ∧ s.takeDefrost.rst = s.rst := by
  refine s.takeGrant_tables .defrost _ fun x => ?_
  split <;> simp

@[simp] theorem State.startWindowEnds_tables :
    s.startWindowEnds.selt = s.selt ∧ s.startWindowEnds.rst = s.rst := by
  simp [State.startWindowEnds]

@[simp] theorem State.recoveryEnds_tables :
    s.recoveryEnds.selt = s.selt ∧ s.recoveryEnds.rst = s.rst := ⟨rfl, rfl⟩

/-! ### ZTC -/

@[simp] theorem State.queueCheck_tables (z : ZoneNo) :
    (s.queueCheck z).selt = s.selt ∧ (s.queueCheck z).rst = s.rst := by
  obtain ⟨_, _, _, _, _, h⟩ := s.queueCheck_frame z
  simp [h]

@[simp] theorem State.updateDemand_tables :
    s.updateDemand.selt = s.selt ∧ s.updateDemand.rst = s.rst := by
  obtain ⟨_, _, _, _, h⟩ := s.updateDemand_frame
  simp [h]

@[simp] theorem State.askDamper_tables : s.askDamper.selt = s.selt ∧ s.askDamper.rst = s.rst := by
  obtain ⟨_, _, _, h⟩ := s.askDamper_frame
  simp [h]

@[simp] theorem State.setTarget_tables (z : ZoneNo) (t : Target) :
    (s.setTarget z t).selt = s.selt ∧ (s.setTarget z t).rst = s.rst := by
  simp [State.setTarget]

@[simp] theorem State.controlZone_tables (z : ZoneNo) (t : Int) :
    (s.controlZone z t).selt = s.selt ∧ (s.controlZone z t).rst = s.rst := by
  simp [State.controlZone]

@[simp] theorem State.holdZone_tables (z : ZoneNo) (c : HoldCause) :
    (s.holdZone z c).selt = s.selt ∧ (s.holdZone z c).rst = s.rst := by
  unfold State.holdZone
  split <;> simp

@[simp] theorem State.restoreCheck_tables (z : ZoneNo) (t : Int) :
    (s.restoreCheck z t).selt = s.selt ∧ (s.restoreCheck z t).rst = s.rst := by
  unfold State.restoreCheck
  split
  · simp only
    split <;> simp
  · simp

@[simp] theorem State.takeTemperature_tables (z : ZoneNo) (h : Handed) :
    (s.takeTemperature z h).selt = s.selt ∧ (s.takeTemperature z h).rst = s.rst := by
  cases h <;> simp only [State.takeTemperature] <;> split <;> simp

@[simp] theorem State.markZone_tables (z : ZoneNo) :
    (s.markZone z).selt = s.selt ∧ (s.markZone z).rst = s.rst := by
  simp only [State.markZone]
  split
  · split <;> simp
  · simp

@[simp] theorem State.writeZone_tables (z : ZoneNo) (c : ZoneSettings) :
    (s.writeZone z c).selt = s.selt ∧ (s.writeZone z c).rst = s.rst := by
  have toChilled (x : State) :
      (x.zoneToChilled z).selt = x.selt ∧ (x.zoneToChilled z).rst = x.rst := by
    simp only [State.zoneToChilled]
    split <;> simp
  have toOff (x : State) : (x.zoneToOff z).selt = x.selt ∧ (x.zoneToOff z).rst = x.rst := by
    simp [State.zoneToOff]
  have retarget (x : State) (b : ZoneSettings) :
      (x.zoneRetarget z b).selt = x.selt ∧ (x.zoneRetarget z b).rst = x.rst := by
    unfold State.zoneRetarget
    split
    · split <;> simp
    · simp
  have threshold (x : State) :
      (x.thresholdCheck z).selt = x.selt ∧ (x.thresholdCheck z).rst = x.rst := by
    unfold State.thresholdCheck
    split <;> simp
  simp only [State.writeZone, threshold]
  split <;> simp [toChilled, toOff, retarget]

@[simp] theorem State.stopMove_tables : s.stopMove.selt = s.selt ∧ s.stopMove.rst = s.rst := by
  obtain ⟨_, _, _, _, h⟩ := s.stopMove_frame
  simp [h]

@[simp] theorem State.takeDamper_tables :
    s.takeDamper.selt = s.selt ∧ s.takeDamper.rst = s.rst := by
  refine s.takeGrant_tables .damper _ fun x => ?_
  split
  · unfold State.startMove
    split <;> simp
  · simp

@[simp] theorem State.endMove_tables : s.endMove.selt = s.selt ∧ s.endMove.rst = s.rst := by
  unfold State.endMove
  split <;> simp

@[simp] theorem State.clearHold_tables (z : ZoneNo) :
    (s.clearHold z).selt = s.selt ∧ (s.clearHold z).rst = s.rst := by
  simp only [State.clearHold]
  split <;> simp

/-! ### MSC and the owners of its results -/

@[simp] theorem State.setChannels_tables (cs : Five Channel) :
    (s.setChannels cs).selt = s.selt ∧ (s.setChannels cs).rst = s.rst := by
  simp only [State.setChannels, State.evapNotice]
  split
  · simp
  · split <;> simp

@[simp] theorem State.passFails_tables : s.passFails.selt = s.selt ∧ s.passFails.rst = s.rst := by
  simp only [State.passFails]
  split <;> split <;> simp

@[simp] theorem State.passUsed_tables (p : SlowCodes) :
    (s.passUsed p).selt = s.selt ∧ (s.passUsed p).rst = s.rst := by
  simp only [State.passUsed]
  split <;> simp

@[simp] theorem State.endPass_tables (p : PassCodes) :
    (s.endPass p).selt = s.selt ∧ (s.endPass p).rst = s.rst := by
  simp only [State.endPass, State.judgePass]
  split
  · split <;> simp
  · simp

@[simp] theorem State.zoneTakes_tables (z : Fin 4) :
    (s.zoneTakes z).selt = s.selt ∧ (s.zoneTakes z).rst = s.rst := by
  unfold State.zoneTakes
  split
  · simp
  · simp only
    split
    · simp
    · exact ⟨rfl, rfl⟩

@[simp] theorem State.evapTakes_tables : s.evapTakes.selt = s.selt ∧ s.evapTakes.rst = s.rst := by
  unfold State.evapTakes
  split
  · simp
  · simp only
    split <;> simp

@[simp] theorem State.vdriveTakes_tables :
    s.vdriveTakes.selt = s.selt ∧ s.vdriveTakes.rst = s.rst := by
  unfold State.vdriveTakes
  split
  · simp
  · simp only
    split <;> simp

/-! ### Supply, door and settings -/

@[simp] theorem State.changeDoor_tables (isOpen : Bool) :
    (s.changeDoor isOpen).selt = s.selt ∧ (s.changeDoor isOpen).rst = s.rst := by
  simp only [State.changeDoor]
  split
  · simp
  · split <;> simp

@[simp] theorem State.deassertWarning_tables :
    s.deassertWarning.selt = s.selt ∧ s.deassertWarning.rst = s.rst := by
  unfold State.deassertWarning
  split
  · simp only
    split <;> simp
  · simp

@[simp] theorem State.settingWritten_tables (num : Nat) :
    (s.settingWritten num).selt = s.selt ∧ (s.settingWritten num).rst = s.rst := by
  unfold State.settingWritten
  split
  · simp
  · simp
  · simp
  · simp
  · split
    · simp
    · split <;> simp

end Sys2Proof.Machine
end


section
/-! SUPPORT. The selection table: what a lookup finds after an update, an insertion and a removal, and the table
law (R1 to R4) kept by each. -/

namespace Sys2Proof.Machine

/-! ### Lookups -/

theorem findSel_cons (q : Selection) (t : List Selection) (k : Nat) :
    findSel (q :: t) k = if q.code = k then some q else findSel t k := by
  by_cases h : q.code = k <;> simp [findSel, h]

theorem findSel_eq_none_iff {t : List Selection} {k : Nat} :
    findSel t k = none ↔ ∀ r ∈ t, r.code ≠ k := by
  simp [findSel]

/-- A lookup after an update of one code's record. -/
theorem findSel_updateSel (f : Selection → Selection) (c k : Nat) (t : List Selection)
    (hf : ∀ r, (f r).code = r.code) :
    findSel (updateSel f c t) k = if k = c then (findSel t k).map f else findSel t k := by
  induction t with
  | nil => simp [findSel, updateSel]
  | cons q t ih =>
    have e : updateSel f c (q :: t) = (if q.code = c then f q else q) :: updateSel f c t := rfl
    rw [e, findSel_cons, findSel_cons, ih]
    by_cases hq : q.code = c
    · by_cases hk : k = c
      · simp [hq, hk, hf]
      · simp [hq, hk, hf, Ne.symm hk]
    · by_cases hk : q.code = k
      · subst hk; simp [hq]
      · simp [hq, hk]

theorem findSel_removeSel (c k : Nat) (t : List Selection) :
    findSel (removeSel c t) k = if k = c then none else findSel t k := by
  induction t with
  | nil => simp [findSel, removeSel]
  | cons q t ih =>
    by_cases hq : q.code = c
    · have e : removeSel c (q :: t) = removeSel c t := by simp [removeSel, hq]
      rw [e, ih, findSel_cons, hq]
      by_cases hk : k = c
      · simp [hk]
      · simp [hk, Ne.symm hk]
    · have e : removeSel c (q :: t) = q :: removeSel c t := by simp [removeSel, hq]
      rw [e, findSel_cons, findSel_cons, ih]
      by_cases hk : q.code = k
      · subst hk; simp [hq]
      · simp [hk]

/-- A lookup after a record is written in the place its code takes. -/
theorem findSel_putSel (r : Selection) (k : Nat) (t : List Selection) :
    findSel (putSel r t) k = if k = r.code then some r else findSel t k := by
  induction t with
  | nil => simp [putSel, findSel_cons, eq_comm]
  | cons q t ih =>
    simp only [putSel]
    split
    · next h =>
      rw [findSel_cons, findSel_cons, h]
      by_cases hk : k = q.code
      · simp [hk]
      · simp [hk, Ne.symm hk]
    · split
      · rw [findSel_cons]
        simp only [eq_comm]
      · rw [findSel_cons, findSel_cons, ih]
        by_cases hk : q.code = k
        · subst hk; simp [*, eq_comm]
        · simp [hk]

/-- In a table in code order a record is the one its code finds. -/
theorem findSel_of_mem {t : List Selection} (h : (t.map Selection.code).Pairwise (· < ·))
    {r : Selection} (hr : r ∈ t) : findSel t r.code = some r := by
  induction t with
  | nil => simp at hr
  | cons q t ih =>
    rw [List.map_cons, List.pairwise_cons] at h
    rcases List.mem_cons.1 hr with rfl | hr
    · simp [findSel_cons]
    · have : q.code < r.code := h.1 _ (List.mem_map_of_mem hr)
      rw [findSel_cons, if_neg (by omega), ih h.2 hr]

/-! ### Prices under an update -/

/-- A record's code with its two prices: what an outcome of drive work never changes. -/
def Selection.priceTag (r : Selection) : Nat × Nat × Nat := (r.code, r.priceA, r.priceB)

theorem Selection.price_of_tag {r q : Selection} (h : q.priceTag = r.priceTag) (p : PriceSet) :
    q.price p = r.price p := by
  simp only [Selection.priceTag, Prod.mk.injEq] at h
  cases p <;> simp [Selection.price, h]

/-- Tables of the same codes and prices find records of the same price. -/
theorem findSel_price_of_tags {t u : List Selection}
    (h : u.map Selection.priceTag = t.map Selection.priceTag) {k : Nat} {r q : Selection}
    (hr : findSel t k = some r) (hq : findSel u k = some q) (p : PriceSet) :
    q.price p = r.price p := by
  have look (v : List Selection) :
      (v.map Selection.priceTag).find? (fun x => x.1 == k) = (findSel v k).map Selection.priceTag := by
    rw [List.find?_map]; rfl
  have e := look u
  rw [h, look t, hr, hq] at e
  exact Selection.price_of_tag (Option.some.inj e).symm p

theorem updateSel_tags (f : Selection → Selection) (c : Nat) (t : List Selection)
    (hf : ∀ r, (f r).priceTag = r.priceTag) :
    (updateSel f c t).map Selection.priceTag = t.map Selection.priceTag := by
  simp only [updateSel, List.map_map]
  refine List.map_congr_left fun r _ => ?_
  simp only [Function.comp_apply]
  split <;> simp [hf]

/-! ### The table law -/

/-- The addresses of a record by its positions' units. -/
theorem Selection.claims_eq (r : Selection) :
    r.claims = (r.positions.map Position.unit).flatMap DriveUnit.addrs := by
  simp [Selection.claims, List.flatMap_map]

/-- A change of a list's place that keeps a field there keeps the list of that field. -/
theorem modifyAt_map_eq {α β : Type} (g : α → α) (m : α → β) (i : Nat) (xs : List α)
    (h : ∀ x, xs[i]? = some x → m (g x) = m x) : (modifyAt g i xs).map m = xs.map m := by
  induction xs generalizing i with
  | nil => cases i <;> rfl
  | cons x xs ih =>
    cases i with
    | zero => simp [modifyAt, h x rfl]
    | succ i => simp [modifyAt, ih i fun y hy => h y hy]

/-- A position rewritten with the same drive unit leaves the claimed addresses. -/
theorem Selection.setPosition_claims (g : Position → Position) (i : Nat) (r : Selection)
    (h : ∀ p, r.positions[i]? = some p → (g p).unit = p.unit) :
    (r.setPosition g i).claims = r.claims := by
  rw [Selection.claims_eq, Selection.claims_eq]
  simp [Selection.setPosition, modifyAt_map_eq g Position.unit i r.positions h]

/-- A position rewritten within its law keeps the record's. -/
theorem RecordLaw.setPosition {r : Selection} (law : RecordLaw r) (g : Position → Position) (i : Nat)
    (h : ∀ p, r.positions[i]? = some p → PositionLaw p → PositionLaw (g p)) :
    RecordLaw (r.setPosition g i) where
  code := law.code
  zone := law.zone
  priceA := law.priceA
  priceB := law.priceB
  count := by simpa [Selection.setPosition] using law.count
  cursor := by simpa [Selection.setPosition] using law.cursor
  positions := by
    intro q hq
    obtain ⟨j, hj⟩ := List.mem_iff_getElem?.1 hq
    simp only [Selection.setPosition] at hj
    by_cases e : j = i
    · subst e
      rw [modifyAt_getElem?_self] at hj
      obtain ⟨p, hp, rfl⟩ := Option.map_eq_some_iff.1 hj
      exact h p hp (law.positions p (List.mem_of_getElem? hp))
    · rw [modifyAt_getElem?_ne g _ e] at hj
      exact law.positions q (List.mem_of_getElem? hj)

/-- An update of one code's record that keeps its addresses and its law keeps the table's. -/
theorem TableLaw.updateSel {t : List Selection} (law : TableLaw t) (f : Selection → Selection)
    (c : Nat) (hcode : ∀ r, (f r).code = r.code)
    (h : ∀ r ∈ t, r.code = c → (f r).claims = r.claims ∧ RecordLaw (f r)) :
    TableLaw (updateSel f c t) where
  size := by simpa using law.size
  order := by rw [updateSel_codes f c t hcode]; exact law.order
  owners := by
    have e : (Machine.updateSel f c t).flatMap Selection.claims = t.flatMap Selection.claims := by
      simp only [Machine.updateSel, List.flatMap_map]
      refine List.flatMap_congr fun r hr => ?_
      split
      · next hc => exact (h r hr hc).1
      · rfl
    rw [e]; exact law.owners
  records := by
    intro q hq
    obtain ⟨r, hr, rfl⟩ := List.mem_map.1 hq
    split
    · next hc => exact (h r hr hc).2
    · exact law.records r hr

theorem TableLaw.removeSel {t : List Selection} (law : TableLaw t) (c : Nat) :
    TableLaw (removeSel c t) where
  size := (List.length_filter_le _ t).trans law.size
  order := law.order.sublist (List.filter_sublist.map Selection.code)
  owners := (List.filter_sublist.flatMap _).nodup law.owners
  records := fun r hr => law.records r (List.mem_of_mem_filter hr)

/-- In a table in code order, a record written is one more record beside those of other codes. -/
theorem putSel_perm (r : Selection) {t : List Selection}
    (h : (t.map Selection.code).Pairwise (· < ·)) :
    (putSel r t).Perm (r :: removeSel r.code t) := by
  induction t with
  | nil => exact .refl _
  | cons q t ih =>
    rw [List.map_cons, List.pairwise_cons] at h
    obtain ⟨above, rest⟩ := h
    have behind (hle : r.code ≤ q.code) : removeSel r.code t = t := by
      refine List.filter_eq_self.2 fun x hx => ?_
      have : q.code < x.code := above _ (List.mem_map_of_mem hx)
      simpa using Nat.ne_of_gt (by omega)
    simp only [putSel]
    split
    · next e =>
      have : removeSel r.code (q :: t) = t := by
        rw [← behind (by omega)]; simp [removeSel, e]
      rw [this]
    · next ne =>
      have kept : removeSel r.code (q :: t) = q :: removeSel r.code t := by
        simp [removeSel, Ne.symm ne]
      split
      · rw [kept, behind (by omega)]
      · rw [kept]
        exact ((ih rest).cons q).trans (.swap _ _ _)

theorem putSel_order (r : Selection) {t : List Selection}
    (h : (t.map Selection.code).Pairwise (· < ·)) :
    ((putSel r t).map Selection.code).Pairwise (· < ·) := by
  induction t with
  | nil => simp [putSel]
  | cons q t ih =>
    have h' := h
    rw [List.map_cons, List.pairwise_cons] at h'
    obtain ⟨above, rest⟩ := h'
    simp only [putSel]
    split
    · next e => simpa [e] using h
    · split
      · next lt =>
        rw [List.map_cons, List.pairwise_cons]
        refine ⟨fun c hc => ?_, h⟩
        rcases List.mem_cons.1 hc with rfl | hc
        · exact lt
        · exact lt.trans (above c hc)
      · rw [List.map_cons, List.pairwise_cons]
        refine ⟨fun c hc => ?_, ih rest⟩
        obtain ⟨x, hx, rfl⟩ := List.mem_map.1 hc
        rcases List.mem_cons.1 ((putSel_perm r rest).mem_iff.1 hx) with rfl | hx
        · omega
        · exact above _ (List.mem_map_of_mem (List.mem_of_mem_filter hx))

/-- A record written keeps the table's law when there is room for it and no other record claims its
addresses (R16, R17). -/
theorem TableLaw.putSel {t : List Selection} (law : TableLaw t) (r : Selection) (hr : RecordLaw r)
    (room : findSel t r.code = none → t.length < 64) (own : r.claims.Nodup)
    (free : ∀ q ∈ t, q.code ≠ r.code → ∀ a ∈ q.claims, a ∉ r.claims) :
    TableLaw (putSel r t) where
  size := by
    rw [(putSel_perm r law.order).length_eq, List.length_cons]
    cases h : findSel t r.code with
    | none =>
      have := room h
      have : (Machine.removeSel r.code t).length ≤ t.length := List.length_filter_le _ t
      omega
    | some q =>
      have := law.size
      have : (Machine.removeSel r.code t).length < t.length :=
        List.length_filter_lt_length_iff_exists.2 ⟨q, findSel_mem h, by simp [findSel_code h]⟩
      omega
  order := putSel_order r law.order
  owners := by
    rw [((putSel_perm r law.order).flatMap_right Selection.claims).nodup_iff, List.flatMap_cons]
    refine List.Nodup.append own (law.removeSel r.code).owners fun a ha hb => ?_
    obtain ⟨q, hq, hqa⟩ := List.mem_flatMap.1 hb
    obtain ⟨hq, ne⟩ := List.mem_filter.1 hq
    exact free q hq (by simpa using ne) a hqa ha
  records := by
    intro q hq
    rcases List.mem_cons.1 ((putSel_perm r law.order).mem_iff.1 hq) with rfl | hq
    · exact hr
    · exact law.records q (List.mem_of_mem_filter hq)

/-! ### What SEL.DEFINE writes (R16 to R18) -/

theorem inRange_iff {lo hi v : Int} : inRange lo hi v = true ↔ lo ≤ v ∧ v ≤ hi := by
  simp [inRange]

theorem motorAddrOk_iff {row col : Nat} : motorAddrOk row col = true ↔ row ≤ 7 ∧ col ≤ 9 := by
  simp [motorAddrOk]

/-- A position of a request in range is one within its law. -/
theorem PositionLaw.of_posInRange {p : PosReq} (h : posInRange p = true) :
    PositionLaw (posRecord p) := by
  simp only [posInRange, Bool.and_eq_true, inRange_iff, motorAddrOk_iff, decide_eq_true_eq,
    Bool.not_eq_true', Bool.and_eq_false_iff, beq_eq_false_iff_ne, Option.isSome_iff_exists] at h
  obtain ⟨⟨⟨⟨⟨⟨x, hx⟩, hrow, hcol⟩, htwin⟩, hcap⟩, hstock⟩, hturns⟩ := h
  refine ⟨?_, ?_, ?_, ?_, ?_, ?_⟩
  · simp only [posRecord]; omega
  · exact hstock
  · simp only [posRecord]; omega
  · exact hrow
  · exact hcol
  · intro twin
    simp only [posRecord, posUnit, beq_iff_eq] at twin ⊢
    have := htwin.resolve_left (· twin)
    omega

/-- A request in range writes a record within its law. -/
theorem RecordLaw.of_defineInRange {d : DefineReq} (h : defineInRange d = true) :
    RecordLaw (defineRecord d) := by
  simp only [defineInRange, Bool.and_eq_true, inRange_iff, beq_iff_eq, List.all_eq_true] at h
  obtain ⟨⟨⟨⟨⟨⟨⟨⟨hcode, -⟩, -⟩, hzone⟩, hA⟩, hB⟩, hcount⟩, hlen⟩, hpos⟩ := h
  refine ⟨?_, ?_, ?_, ?_, ?_, ?_, ?_⟩
  · simp only [defineRecord]; omega
  · simp only [defineRecord]; omega
  · simp only [defineRecord]; omega
  · simp only [defineRecord]; omega
  · simp only [defineRecord, List.length_map]; omega
  · simp only [defineRecord, List.length_map]; omega
  · intro q hq
    obtain ⟨p, hp, rfl⟩ := List.mem_map.1 hq
    exact .of_posInRange (hpos p hp)

theorem defineRecord_claims (d : DefineReq) : (defineRecord d).claims = defineClaims d := by
  simp only [Selection.claims, defineRecord, defineClaims, List.flatMap_map]
  rfl

theorem hasRepeat_eq_false_iff {l : List (Nat × Nat)} : hasRepeat l = false ↔ l.Nodup := by
  induction l with
  | nil => simp [hasRepeat]
  | cons a l ih => simp [hasRepeat, ih]

/-- A request without CONFLICT claims addresses of its own, each once (R17). -/
theorem defineConflict_eq_false {t : List Selection} {d : DefineReq} (h : defineConflict t d = false) :
    (defineClaims d).Nodup ∧
      ∀ q ∈ t, q.code ≠ d.code.toNat → ∀ a ∈ q.claims, a ∉ defineClaims d := by
  simp only [defineConflict, Bool.or_eq_false_iff, hasRepeat_eq_false_iff] at h
  refine ⟨h.1, fun q hq ne a ha hc => ?_⟩
  obtain ⟨p, hp, hpa⟩ := List.mem_flatMap.1 ha
  have := List.any_eq_false.1 h.2 q hq
  simp only [Bool.and_eq_true, bne_iff_ne, ne_eq, List.any_eq_true, List.contains_iff_mem,
    not_and] at this
  exact this ne ⟨p, hp, a, hpa, hc⟩

/-- A SEL.DEFINE that passes its checks (R16). -/
theorem State.defineRefusal_eq_none {s : State} {d : DefineReq} (h : s.defineRefusal d = none) :
    defineInRange d = true ∧
      (findSel s.selt.table d.code.toNat = none → s.selt.table.length < 64) ∧
      defineConflict s.selt.table d = false ∧ s.definePriceInUse d = false := by
  unfold State.defineRefusal at h
  split at h
  · cases h
  · next range =>
    split at h
    · cases h
    · next room =>
      split at h
      · cases h
      · next conflict =>
        split at h
        · cases h
        · split at h
          · cases h
          · next price =>
            refine ⟨by simpa using range, fun none => ?_, by simpa using conflict,
              by simpa using price⟩
            simp only [none, Option.isNone_none, true_and, not_le] at room
            exact room

/-- SEL.DEFINE keeps the table's law (R1 to R4, R16 to R18). -/
theorem TableLaw.define {s : State} {d : DefineReq} (law : TableLaw s.selt.table)
    (h : s.defineRefusal d = none) : TableLaw (Machine.putSel (defineRecord d) s.selt.table) := by
  obtain ⟨range, room, conflict, -⟩ := State.defineRefusal_eq_none h
  obtain ⟨own, free⟩ := defineConflict_eq_false conflict
  rw [← defineRecord_claims] at own free
  exact law.putSel _ (.of_defineInRange range) room own free

end Sys2Proof.Machine
end


section
/-! SUPPORT. What one command can do to the selection table, the active set and the retained store, said once for
every command; the price law and the table law of every step follow from it. -/

namespace Sys2Proof.Machine

variable (s : State)

/-! ### Outcomes of drive work -/

/-- From `s` to `t` the table changes at most as outcomes of drive work and SELT's stock, fault and admin writes
change it: every code and price stands, and so does the table's law; the active set and the store stand. -/
structure Worked (s t : State) : Prop where
  tags : t.selt.table.map Selection.priceTag = s.selt.table.map Selection.priceTag
  law : TableLaw s.selt.table → TableLaw t.selt.table
  active : t.selt.active = s.selt.active
  rst : t.rst = s.rst

variable {s}

theorem Worked.of_tables {t : State} (h : t.selt = s.selt ∧ t.rst = s.rst) : Worked s t :=
  ⟨by rw [h.1], by rw [h.1]; exact id, by rw [h.1], h.2⟩

theorem Worked.trans {t u : State} (h : Worked s t) (k : Worked t u) : Worked s u :=
  ⟨k.tags.trans h.tags, fun law => k.law (h.law law), k.active.trans h.active, k.rst.trans h.rst⟩

/-- What follows leaves the table and the store. -/
theorem Worked.then {t u : State} (h : Worked s t) (k : u.selt = t.selt ∧ u.rst = t.rst) :
    Worked s u := h.trans (.of_tables k)

variable (s)

/-- An update of one code's record that keeps its tag, its addresses and its law. -/
theorem State.updateSel_worked (f : Selection → Selection) (c : Nat)
    (tag : ∀ r, (f r).priceTag = r.priceTag)
    (h : TableLaw s.selt.table → ∀ r ∈ s.selt.table, r.code = c →
      (f r).claims = r.claims ∧ RecordLaw (f r)) :
    Worked s (s.setTable (updateSel f c s.selt.table)) where
  tags := updateSel_tags f c _ tag
  law := fun law => law.updateSel f c (fun r => congrArg Prod.fst (tag r)) (h law)
  active := rfl
  rst := rfl

theorem vendPosition_unit (o : DriveOutcome) (p : Position) : (vendPosition o p).unit = p.unit := by
  cases o <;> rfl

theorem testPosition_unit (o : DriveOutcome) (p : Position) : (testPosition o p).unit = p.unit := by
  cases o <;> rfl

variable {s}

theorem PositionLaw.withFault {p : Position} (law : PositionLaw p) (c : Option FaultCause) :
    PositionLaw { p with fault := c } :=
  ⟨law.capacity, law.stock, law.turns, law.row, law.col, law.twin⟩

theorem PositionLaw.withStock {p : Position} (law : PositionLaw p) (n : Nat) (c : Option FaultCause)
    (h : n ≤ p.capacity) : PositionLaw { p with stock := n, fault := c } :=
  ⟨law.capacity, h, law.turns, law.row, law.col, law.twin⟩

theorem PositionLaw.vend {p : Position} (law : PositionLaw p) (o : DriveOutcome) :
    PositionLaw (vendPosition o p) := by
  cases o
  case delivered => exact law.withStock _ p.fault ((Nat.sub_le _ _).trans law.stock)
  case noPower => exact law
  all_goals exact law.withFault _

theorem PositionLaw.test {p : Position} (law : PositionLaw p) (o : DriveOutcome) :
    PositionLaw (testPosition o p) := by
  cases o
  case delivered => exact law.withStock _ none ((Nat.sub_le _ _).trans law.stock)
  case noDrop => exact law.withFault none
  all_goals exact law

/-- The cursor stays within the record's positions (R2, R7). -/
theorem Selection.cursorAfter_lt {r : Selection} (law : RecordLaw r) (o : DriveOutcome) (i : Nat) :
    r.cursorAfter o i < r.positions.length := by
  unfold Selection.cursorAfter
  split
  · exact Nat.mod_lt _ law.count.1
  · exact law.cursor

variable (s)

/-- SELT at the outcome of a VEND entry (R7, R8). -/
theorem State.seltVend_worked (code i : Nat) (o : DriveOutcome) : Worked s (s.seltVend code i o) := by
  refine s.updateSel_worked _ code (fun _ => rfl) fun law r hr _ => ?_
  have written := (law.records r hr).setPosition (vendPosition o) i fun p _ hp => hp.vend o
  exact ⟨r.setPosition_claims _ i fun p _ => vendPosition_unit o p,
    ⟨written.code, written.zone, written.priceA, written.priceB, written.count,
      by simpa [Selection.setPosition] using Selection.cursorAfter_lt (law.records r hr) o i,
      written.positions⟩⟩

/-- SELT at the outcome of a TEST entry (R9). -/
theorem State.seltTest_worked (row col : Nat) (o : DriveOutcome) :
    Worked s (s.seltTest row col o) := by
  unfold State.seltTest
  split
  · next code i _ =>
    refine s.updateSel_worked _ code (fun _ => rfl) fun law r hr _ => ?_
    exact ⟨r.setPosition_claims _ i fun p _ => testPosition_unit o p,
      (law.records r hr).setPosition _ i fun p _ hp => hp.test o⟩
  · exact .of_tables ⟨rfl, rfl⟩

@[simp] theorem State.vendDelivered_tables (v : PendingVend) :
    (s.vendDelivered v).selt = s.selt ∧ (s.vendDelivered v).rst = s.rst := by
  unfold State.vendDelivered State.chargeCashless
  split
  · simp only
    split <;> simp
  · simp

@[simp] theorem State.vendFailed_tables (v : PendingVend) (o : DriveOutcome) :
    (s.vendFailed v o).selt = s.selt ∧ (s.vendFailed v o).rst = s.rst := by
  simp only [State.vendFailed]
  split <;> simp

@[simp] theorem State.vendJammed_tables (v : PendingVend) (o : DriveOutcome) :
    (s.vendJammed v o).selt = s.selt ∧ (s.vendJammed v o).rst = s.rst := by
  unfold State.vendJammed
  split <;> simp

/-- SESC's part of a vend's outcome leaves what SELT wrote. -/
theorem State.takeVendOutcome_tables (v : PendingVend) (o : DriveOutcome)
    (h : s.sesc.pendingVend = some v) :
    (s.takeVendOutcome o).selt = (s.seltVend v.code v.index o).selt ∧
      (s.takeVendOutcome o).rst = s.rst := by
  unfold State.takeVendOutcome
  rw [h]
  cases o <;> simp [State.seltVend]

theorem State.handOutcome_worked (e : DriveEntry) (o : DriveOutcome) :
    Worked s (s.handOutcome e o) := by
  unfold State.handOutcome
  split
  · cases h : s.sesc.pendingVend with
    | none => exact .of_tables (by simp [State.takeVendOutcome, h])
    | some v =>
      obtain ⟨hselt, hrst⟩ := s.takeVendOutcome_tables v o h
      exact (s.seltVend_worked v.code v.index o).then ⟨hselt, hrst⟩
  · exact (s.seltTest_worked _ _ o).then ⟨rfl, rfl⟩

theorem State.endEntry_worked (o : DriveOutcome) : Worked s (s.endEntry o) := by
  unfold State.endEntry
  split
  · exact .of_tables ⟨rfl, rfl⟩
  · next e rest _ =>
    have before : Worked s (s.deenergize.setList rest) := .of_tables (by simp)
    exact (before.trans (State.handOutcome_worked _ e o)).then (by simp)

theorem State.endFailed_worked (o : DriveOutcome) : Worked s (s.endFailed o) :=
  s.endEntry_worked _

theorem State.dropEvent_worked : Worked s s.dropEvent := by
  unfold State.dropEvent
  split
  case h_3 => exact s.endEntry_worked _
  all_goals exact .of_tables ⟨rfl, rfl⟩

theorem State.revolution_worked : Worked s s.revolution := by
  unfold State.revolution
  split
  · exact .of_tables ⟨rfl, rfl⟩
  · simp only
    have before : Worked s (s.setSdc { s.sdc with turnTimer := none }) := .of_tables ⟨rfl, rfl⟩
    split
    · exact before.trans (State.endEntry_worked _ _)
    · split <;> exact .of_tables (by simp)

theorem State.settleEnds_worked : Worked s s.settleEnds := by
  unfold State.settleEnds
  split
  · exact .of_tables ⟨rfl, rfl⟩
  · split
    · exact .of_tables (by simp)
    · exact s.endEntry_worked _

/-- The state in which a current sample of `i` mA has been counted and not yet judged (R62, R63). -/
def State.sampled (u : DriveUnit) (i : Nat) : State :=
  let n := s.sdc.sampleCount + 1
  let inWindow := decide (10 ≤ n) && decide (n ≤ 30)
  { s with
    msc := { s.msc with lastSample := some i, sampleLeft := sampleMs }
    sdc := { s.sdc with
      sampleCount := n
      overCount := if s.jamLimit u < i then s.sdc.overCount + 1 else 0
      windowBelow := s.sdc.windowBelow && (!inWindow || decide (i < s.openLimit u)) } }

/-- A sample is counted, then judged: the jam test, then the open-motor window (R62, R63). -/
theorem State.takeSample_eq (u : DriveUnit) (i : Nat) : s.takeSample u i =
    if 3 ≤ (s.sampled u i).sdc.overCount then (s.sampled u i).endFailed .jammed
    else if (s.sampled u i).sdc.sampleCount = 30 ∧ (s.sampled u i).sdc.windowBelow then
      (s.sampled u i).endFailed .openMotor
    else s.sampled u i := rfl

theorem State.takeSample_worked (u : DriveUnit) (i : Nat) : Worked s (s.takeSample u i) := by
  have before : Worked s (s.sampled u i) := .of_tables ⟨rfl, rfl⟩
  rw [State.takeSample_eq]
  split
  · exact before.trans (State.endFailed_worked _ _)
  · split
    · exact before.trans (State.endFailed_worked _ _)
    · exact before

theorem dropPendingEntries_worked (es : List DriveEntry) : Worked s (dropPendingEntries es s) := by
  induction es generalizing s with
  | nil => exact .of_tables ⟨rfl, rfl⟩
  | cons e es ih => exact (s.handOutcome_worked e .noPower).trans (ih _)

theorem State.stopDrive_worked : Worked s s.stopDrive := by
  unfold State.stopDrive
  split
  · exact .of_tables ⟨rfl, rfl⟩
  · next e rest _ =>
    have before : Worked s (s.deenergize.setList []) := .of_tables (by simp)
    split
    · exact ((before.trans (State.handOutcome_worked _ e _)).trans
        (dropPendingEntries_worked _ rest)).then ⟨rfl, rfl⟩
    · exact (before.trans (dropPendingEntries_worked _ (e :: rest))).then ⟨rfl, rfl⟩

theorem State.warnBlocks_worked : Worked s s.warnBlocks := by
  have before : Worked s
      (({ s with lba := { s.lba with pfw := true } } : State).setBand .zero).grantPass :=
    .of_tables (by simp)
  exact (before.trans (State.stopDrive_worked _)).then (by simp [State.warnBlocks])

theorem State.curtainBegins_worked : Worked s s.curtainBegins := by
  unfold State.curtainBegins
  split
  · have before : Worked s (s.setCurtain .interrupted (some blockTimerMs)) := .of_tables ⟨rfl, rfl⟩
    exact before.trans (State.dropEvent_worked _)
  · exact .of_tables ⟨rfl, rfl⟩

/-! ### SELT's writes -/

/-- What a lookup of a code leads to: the refusal, or the owner's answer. -/
theorem State.withSel_cases (code : Half) (f : Selection → Reply) :
    (findSel s.selt.table code.toNat = none ∧ s.withSel code f = s.reply .notFound []) ∨
      ∃ r, findSel s.selt.table code.toNat = some r ∧ s.withSel code f = f r := by
  unfold State.withSel
  cases findSel s.selt.table code.toNat with
  | none => exact .inl ⟨rfl, rfl⟩
  | some r => exact .inr ⟨r, rfl, rfl⟩

/-- What a position named by code and index leads to: a refusal, or the owner's answer. -/
theorem State.withPosition_cases (code : Half) (index : Byte) (ok : Bool) (f : Position → Reply) :
    (∃ st, s.withPosition code index ok f = s.reply st []) ∨
      ∃ r p, findSel s.selt.table code.toNat = some r ∧ r.positions[index.toNat]? = some p ∧
        s.withPosition code index ok f = f p := by
  unfold State.withPosition
  rcases s.withSel_cases code _ with ⟨-, h⟩ | ⟨r, hr, h⟩
  · exact .inl ⟨_, h⟩
  · rw [h]
    split
    · exact .inl ⟨_, rfl⟩
    · next p hp =>
      split
      · exact .inl ⟨_, rfl⟩
      · split
        · exact .inl ⟨_, rfl⟩
        · exact .inr ⟨r, p, hr, hp, rfl⟩

/-- A position rewritten with its drive unit, within its law. -/
theorem State.setPosition_worked {code : Half} {index : Byte} {r : Selection} {p q : Position}
    (hr : findSel s.selt.table code.toNat = some r) (hp : r.positions[index.toNat]? = some p)
    (hunit : q.unit = p.unit) (hlaw : PositionLaw p → PositionLaw q) :
    Worked s (s.setPosition code index q) := by
  refine s.updateSel_worked _ code.toNat (fun _ => rfl) fun law x hx hc => ?_
  have found := findSel_of_mem law.order hx
  rw [hc, hr] at found
  cases found
  have only (y : Position) (hy : r.positions[index.toNat]? = some y) : y = p :=
    Option.some.inj (hy.symm.trans hp)
  refine ⟨r.setPosition_claims _ _ fun y hy => ?_, (law.records r hx).setPosition _ _ fun y hy ly => ?_⟩
  · rw [only y hy, hunit]
  · rw [only y hy] at ly
    exact hlaw ly

theorem State.stockSet_worked (code : Half) (index : Byte) (known : Bool) (n : Half) :
    Worked s (s.stockSet code index known n).state := by
  rcases s.withPosition_cases code index _ _ with ⟨st, h⟩ | ⟨r, p, hr, hp, h⟩
  · rw [State.stockSet, h]; exact .of_tables ⟨rfl, rfl⟩
  · rw [State.stockSet, h]
    exact s.setPosition_worked hr hp rfl fun law => law.withStock _ none (Nat.min_le_right _ _)

theorem clampInt_bounds {lo hi v : Int} (h : lo ≤ hi) :
    lo ≤ clampInt lo hi v ∧ clampInt lo hi v ≤ hi := by
  unfold clampInt
  split
  · omega
  · split <;> omega

theorem State.stockAdd_worked (code : Half) (index : Byte) (n : Half) :
    Worked s (s.stockAdd code index n).state := by
  rcases s.withPosition_cases code index _ _ with ⟨st, h⟩ | ⟨r, p, hr, hp, h⟩
  · rw [State.stockAdd, h]; exact .of_tables ⟨rfl, rfl⟩
  · rw [State.stockAdd, h]
    refine s.setPosition_worked hr hp rfl fun law => law.withStock _ p.fault ?_
    have := clampInt_bounds (lo := 0) (hi := (p.capacity : Int)) (v := (p.stock : Int) + n.toInt)
      (by omega)
    omega

theorem State.clearFault_worked (code : Half) (index : Byte) :
    Worked s (s.clearFault code index).state := by
  rcases s.withPosition_cases code index _ _ with ⟨st, h⟩ | ⟨r, p, hr, hp, h⟩
  · rw [State.clearFault, h]; exact .of_tables ⟨rfl, rfl⟩
  · rw [State.clearFault, h]
    exact s.setPosition_worked hr hp rfl fun law => law.withFault none

theorem State.setAdmin_worked (code : Half) (a : Admin) : Worked s (s.setAdmin code a).state := by
  rcases s.withSel_cases code _ with ⟨-, h⟩ | ⟨r, -, h⟩
  · rw [State.setAdmin, h]; exact .of_tables ⟨rfl, rfl⟩
  · rw [State.setAdmin, h]
    refine s.updateSel_worked _ _ (fun _ => rfl) fun law x hx _ => ⟨rfl, ?_⟩
    exact { law.records x hx with }

/-! ### What a command does -/

/-- What one command that leaves the part running can make of the table and the active set. -/
inductive SeltChange (s : State) : Selt → Prop
  /-- The outcomes of drive work, and the writes of stock, fault and admin. -/
  | worked {t : State} (h : Worked s t) : SeltChange s t.selt
  | defined (d : DefineReq) (h : s.defineRefusal d = none) :
    SeltChange s { s.selt with table := putSel (defineRecord d) s.selt.table }
  | retired (code : Nat) : SeltChange s { s.selt with table := removeSel code s.selt.table }
  | priced (code price : Nat) (x : PriceSet) (range : 1 ≤ price ∧ price ≤ 60000)
    (free : s.inUse x = false) :
    SeltChange s { s.selt with table := updateSel (fun r => r.withPrice x price) code s.selt.table }
  | swapped : SeltChange s { s.selt with active := otherSet s.selt.active }

/-- What one command can make of the table, the active set and the store. -/
inductive TableChange (s t : State) : Prop
  | ran (h : SeltChange s t.selt) (k : t.rst = s.rst)
  | saveStarted (h : SeltChange s t.selt)
    (k : t.rst = { s.rst with image := none, saving := some t.snapshot })
  | saveEnded (x : Image) (h : t.selt = s.selt) (hx : s.rst.saving = some x)
    (k : t.rst = { s.rst with image := some x, saving := none })
  | restarted (straps : BitVec 2) (h : t = s.boot straps)
  | lost (h : t = s.losePower)

theorem TableChange.of_worked {t : State} (h : Worked s t) : TableChange s t := .ran (.worked h) h.rst

theorem TableChange.of_tables {t : State} (h : t.selt = s.selt ∧ t.rst = s.rst) : TableChange s t :=
  .of_worked s (.of_tables h)

/-- An event of the powered part whose own steps close what they open. -/
theorem State.on_change (f : State → State) (h : TableChange s (f s)) : TableChange s (s.on f) := by
  unfold State.on
  split
  · exact .of_tables s ⟨rfl, rfl⟩
  · exact h

theorem State.event_change (f : State → State) (h : Worked s (f s)) : TableChange s (s.event f) :=
  s.on_change _ (.of_worked s (h.then (by simp)))

theorem State.event_tables (f : State → State) (h : (f s).selt = s.selt ∧ (f s).rst = s.rst) :
    TableChange s (s.event f) := s.event_change f (.of_tables h)

theorem State.elapse_worked (d : Nat) : Worked s (s.elapse d) := .of_tables ⟨rfl, rfl⟩

/-- An expiry does what its effect does after its time. -/
theorem State.expire_worked (left : Option Nat) (f : State → State) (h : ∀ x, Worked x (f x)) :
    Worked s (s.expire left f) := by
  cases left with
  | none => exact .of_tables ⟨rfl, rfl⟩
  | some d => exact (s.elapse_worked d).trans (h _)

theorem State.expire_tables (left : Option Nat) (f : State → State)
    (h : ∀ x : State, (f x).selt = x.selt ∧ (f x).rst = x.rst) : Worked s (s.expire left f) :=
  s.expire_worked left f fun x => .of_tables (h x)

/-- A host request does to table and store what its owner's event does. -/
theorem State.host_change (code want len : Nat) (f : State → Reply)
    (h : SeltChange s (f s).state.selt) (k : (f s).state.rst = s.rst) :
    TableChange s (s.host code want len f) := by
  unfold State.host
  split
  · split
    · exact .ran (by simpa using h) (by simpa using k)
    · exact .of_tables s ⟨rfl, rfl⟩
  · exact .of_tables s ⟨rfl, rfl⟩

theorem State.host_worked (code want len : Nat) (f : State → Reply) (h : Worked s (f s).state) :
    TableChange s (s.host code want len f) := s.host_change code want len f (.worked h) h.rst

theorem State.host_tables (code want len : Nat) (f : State → Reply)
    (h : (f s).state.selt = s.selt ∧ (f s).state.rst = s.rst) :
    TableChange s (s.host code want len f) := s.host_worked code want len f (.of_tables h)

theorem State.hostSave_change (code len : Nat) (isRestart : Bool) :
    TableChange s (s.hostSave code len isRestart) := by
  unfold State.hostSave
  split
  · split
    · have same : SeltChange s s.selt := .worked (.of_tables (t := s) ⟨rfl, rfl⟩)
      exact .saveStarted same rfl
    · exact .of_tables s ⟨rfl, rfl⟩
  · exact .of_tables s ⟨rfl, rfl⟩

theorem State.assertWarning_change : TableChange s s.assertWarning := by
  unfold State.assertWarning
  split
  · exact .of_tables s ⟨rfl, rfl⟩
  · have work := s.warnBlocks_worked.then
      (u := s.warnBlocks.closeEvent s.sesc) (by simp)
    have change : SeltChange s (s.warnBlocks.closeEvent s.sesc).selt := .worked work
    refine .saveStarted change ?_
    simp only [State.startSave, State.setRst_rst, work.rst]
    rfl

theorem State.endSave_change : TableChange s s.endSave := by
  unfold State.endSave
  split
  · exact .of_tables s ⟨rfl, rfl⟩
  · next x hx =>
    refine .saveEnded x ?_ hx ?_ <;> unfold State.answerSave <;> split <;> rfl

theorem State.endResponse_change (straps : BitVec 2) : TableChange s (s.endResponse straps) := by
  unfold State.endResponse
  split
  · exact .restarted straps rfl
  all_goals exact .of_tables s ⟨rfl, rfl⟩

theorem State.onLink_change (f : State → State) (h : TableChange s (f s)) :
    TableChange s (s.onLink f) := by
  unfold State.onLink
  split
  · exact h
  · exact .of_tables s ⟨rfl, rfl⟩

theorem State.defineSelection_change (d : DefineReq) :
    SeltChange s (s.defineSelection d).state.selt ∧ (s.defineSelection d).state.rst = s.rst := by
  unfold State.defineSelection
  split
  · exact ⟨.worked (.of_tables (t := s) ⟨rfl, rfl⟩), rfl⟩
  · next h => exact ⟨.defined d h, rfl⟩

theorem State.retireSelection_change (code : Half) :
    SeltChange s (s.retireSelection code).state.selt ∧ (s.retireSelection code).state.rst = s.rst := by
  have same : SeltChange s s.selt := .worked (.of_tables (t := s) ⟨rfl, rfl⟩)
  unfold State.retireSelection
  rcases s.withSel_cases code _ with ⟨-, h⟩ | ⟨r, -, h⟩
  · rw [h]; exact ⟨same, rfl⟩
  · rw [h]
    split
    · exact ⟨same, rfl⟩
    · exact ⟨.retired _, rfl⟩

theorem State.setPrice_change (code : Half) (set : Option PriceSet) (price : Half) :
    SeltChange s (s.setPrice code set price).state.selt ∧
      (s.setPrice code set price).state.rst = s.rst := by
  have same : SeltChange s s.selt := .worked (.of_tables (t := s) ⟨rfl, rfl⟩)
  unfold State.setPrice
  rcases s.withSel_cases code _ with ⟨-, h⟩ | ⟨r, -, h⟩
  · rw [h]; exact ⟨same, rfl⟩
  · rw [h]
    split
    · exact ⟨same, rfl⟩
    · next x =>
      split
      · exact ⟨same, rfl⟩
      · next range =>
        split
        · exact ⟨same, rfl⟩
        · next free =>
          have := inRange_iff.1 (by simpa using range)
          exact ⟨.priced _ _ x (by omega) (by simpa using free), rfl⟩

/-! ### The requests that read, and those of other blocks -/

@[simp] theorem State.withTube_tables (i : Byte) (f : Tube → TubeAssign → Reply)
    (h : ∀ t a, (f t a).state.selt = s.selt ∧ (f t a).state.rst = s.rst) :
    (s.withTube i f).state.selt = s.selt ∧ (s.withTube i f).state.rst = s.rst := by
  unfold State.withTube
  split
  · split
    · exact h _ _
    · exact ⟨rfl, rfl⟩
  · exact ⟨rfl, rfl⟩

@[simp] theorem State.findSelection_tables (code : Half) :
    (s.findSelection code).state.selt = s.selt ∧ (s.findSelection code).state.rst = s.rst := by
  unfold State.findSelection State.withSel
  split
  · split <;> exact ⟨rfl, rfl⟩
  · exact ⟨rfl, rfl⟩

@[simp] theorem State.nextSelections_tables (after : Half) :
    (s.nextSelections after).state.selt = s.selt ∧ (s.nextSelections after).state.rst = s.rst := by
  unfold State.nextSelections
  split <;> exact ⟨rfl, rfl⟩

@[simp] theorem State.readSetting_tables (num : Nat) :
    (s.readSetting num).state.selt = s.selt ∧ (s.readSetting num).state.rst = s.rst := by
  unfold State.readSetting
  split <;> exact ⟨rfl, rfl⟩

@[simp] theorem State.writeSetting_tables (num : Nat) (v : Int) :
    (s.writeSetting num v).state.selt = s.selt ∧ (s.writeSetting num v).state.rst = s.rst := by
  unfold State.writeSetting
  split
  · exact ⟨rfl, rfl⟩
  · simp

@[simp] theorem State.testRequest_tables (row col : Nat) :
    (s.testRequest row col).state.selt = s.selt ∧ (s.testRequest row col).state.rst = s.rst := by
  unfold State.testRequest
  split
  · exact ⟨rfl, rfl⟩
  · split
    · exact ⟨rfl, rfl⟩
    · split
      · exact ⟨rfl, rfl⟩
      · simp

@[simp] theorem State.defineTube_tables (i : Byte) (d : Half) (c m : Byte) :
    (s.defineTube i d c m).state.selt = s.selt ∧ (s.defineTube i d c m).state.rst = s.rst := by
  unfold State.defineTube
  split
  · exact ⟨rfl, rfl⟩
  · simp only
    split
    · exact ⟨rfl, rfl⟩
    · split
      · exact ⟨rfl, rfl⟩
      · split
        · exact ⟨rfl, rfl⟩
        · simp

@[simp] theorem State.setCount_tables (i : Byte) (n : Half) :
    (s.setCount i n).state.selt = s.selt ∧ (s.setCount i n).state.rst = s.rst := by
  refine s.withTube_tables i _ fun t a => ?_
  split
  · exact ⟨rfl, rfl⟩
  · split
    · exact ⟨rfl, rfl⟩
    · split
      · exact ⟨rfl, rfl⟩
      · simp

@[simp] theorem State.setTubeState_tables (i : Byte) (x : TubeState) :
    (s.setTubeState i x).state.selt = s.selt ∧ (s.setTubeState i x).state.rst = s.rst := by
  refine s.withTube_tables i _ fun t a => ?_
  split
  · exact ⟨rfl, rfl⟩
  · simp

@[simp] theorem State.setClass_tables (cls : Byte) (enabled : Bool) (tube : Option Byte) :
    (s.setClass cls enabled tube).state.selt = s.selt ∧
      (s.setClass cls enabled tube).state.rst = s.rst := by
  unfold State.setClass
  split
  · exact ⟨rfl, rfl⟩
  · split
    · exact ⟨rfl, rfl⟩
    · simp

@[simp] theorem State.setBill_tables (cls : Byte) (enabled : Bool) :
    (s.setBill cls enabled).state.selt = s.selt ∧ (s.setBill cls enabled).state.rst = s.rst := by
  unfold State.setBill
  split
  · exact ⟨rfl, rfl⟩
  · simp

@[simp] theorem State.clearTotals_tables :
    s.clearTotals.state.selt = s.selt ∧ s.clearTotals.state.rst = s.rst := by
  unfold State.clearTotals
  split <;> exact ⟨rfl, rfl⟩

@[simp] theorem State.payoutTest_tables (i n : Byte) :
    (s.payoutTest i n).state.selt = s.selt ∧ (s.payoutTest i n).state.rst = s.rst := by
  refine s.withTube_tables i _ fun t a => ?_
  split
  · exact ⟨rfl, rfl⟩
  · split
    · exact ⟨rfl, rfl⟩
    · split
      · exact ⟨rfl, rfl⟩
      · simp

@[simp] theorem State.setProbes_tables (p1 p2 p3 p4 : Half) :
    (s.setProbes p1 p2 p3 p4).state.selt = s.selt ∧
      (s.setProbes p1 p2 p3 p4).state.rst = s.rst := by
  simp [State.setProbes]

@[simp] theorem State.busReset_tables (address : Byte) :
    (s.busReset address).state.selt = s.selt ∧ (s.busReset address).state.rst = s.rst := by
  unfold State.busReset
  split
  · exact ⟨rfl, rfl⟩
  · split <;> exact ⟨rfl, rfl⟩

@[simp] theorem State.setZoneRequest_tables (q : ZoneReq) :
    (s.setZoneRequest q).state.selt = s.selt ∧ (s.setZoneRequest q).state.rst = s.rst := by
  unfold State.setZoneRequest
  split
  · split
    · exact ⟨rfl, rfl⟩
    · simp
  · exact ⟨rfl, rfl⟩

@[simp] theorem State.clearHoldRequest_tables (zone : Byte) :
    (s.clearHoldRequest zone).state.selt = s.selt ∧
      (s.clearHoldRequest zone).state.rst = s.rst := by
  unfold State.clearHoldRequest
  split
  · exact ⟨rfl, rfl⟩
  · split
    · exact ⟨rfl, rfl⟩
    · split
      · exact ⟨rfl, rfl⟩
      · split
        · exact ⟨rfl, rfl⟩
        · simp

@[simp] theorem State.defrostRequest_tables :
    s.defrostRequest.state.selt = s.selt ∧ s.defrostRequest.state.rst = s.rst := by
  unfold State.defrostRequest
  split
  · exact ⟨rfl, rfl⟩
  · simp

/-- Every command in every state does to table, active set and store one of the things of `TableChange`. -/
theorem exec_tableChange (c : Instr) : ∃ t, exec c s = .next t ∧ TableChange s t :=
  match c with
  | .powerOn straps => ⟨_, rfl, .restarted straps rfl⟩
  | .resetPin straps => ⟨_, rfl, s.on_change _ (.restarted straps rfl)⟩
  | .restoreEnd => ⟨_, rfl, .of_tables s (by unfold State.endRestore; split <;> exact ⟨rfl, rfl⟩)⟩
  | .pfwAssertion => ⟨_, rfl, s.on_change _ s.assertWarning_change⟩
  | .pfwDeassertion => ⟨_, rfl, s.event_tables _ s.deassertWarning_tables⟩
  | .saveEnd => ⟨_, rfl, s.on_change _ s.endSave_change⟩
  | .doorChange isOpen => ⟨_, rfl, s.event_tables _ (s.changeDoor_tables isOpen)⟩
  | .badFrame => ⟨_, rfl, .of_tables s (by split <;> exact ⟨rfl, rfl⟩)⟩
  | .unknownRequest _ => ⟨_, rfl, .of_tables s (by split <;> exact ⟨rfl, rfl⟩)⟩
  | .discardQuietTimeExpiry =>
    ⟨_, rfl, s.onLink_change _ (.of_tables s (by split <;> exact ⟨rfl, rfl⟩))⟩
  | .frameGapExpiry => ⟨_, rfl, s.onLink_change _ (.of_tables s (by split <;> exact ⟨rfl, rfl⟩))⟩
  | .responseEnd straps => ⟨_, rfl, s.onLink_change _ (s.endResponse_change straps)⟩
  | .ident _ => ⟨_, rfl, s.host_tables _ _ _ _ ⟨rfl, rfl⟩⟩
  | .noticesRead _ => ⟨_, rfl, s.host_tables _ _ _ _ ⟨rfl, rfl⟩⟩
  | .settingRead _ num => ⟨_, rfl, s.host_tables _ _ _ _ (s.readSetting_tables _)⟩
  | .settingWrite _ num value => ⟨_, rfl, s.host_tables _ _ _ _ (s.writeSetting_tables _ _)⟩
  | .storeSave len => ⟨_, rfl, s.hostSave_change _ len false⟩
  | .restart len => ⟨_, rfl, s.hostSave_change _ len true⟩
  | .selFind _ code => ⟨_, rfl, s.host_tables _ _ _ _ (s.findSelection_tables code)⟩
  | .selNext _ after => ⟨_, rfl, s.host_tables _ _ _ _ (s.nextSelections_tables after)⟩
  | .selDefine _ d =>
    ⟨_, rfl, s.host_change _ _ _ _ (s.defineSelection_change d).1 (s.defineSelection_change d).2⟩
  | .selStockSet _ code index known n =>
    ⟨_, rfl, s.host_worked _ _ _ _ (s.stockSet_worked code index known n)⟩
  | .selStockAdd _ code index n => ⟨_, rfl, s.host_worked _ _ _ _ (s.stockAdd_worked code index n)⟩
  | .selSuspend _ code => ⟨_, rfl, s.host_worked _ _ _ _ (s.setAdmin_worked code .suspended)⟩
  | .selResume _ code => ⟨_, rfl, s.host_worked _ _ _ _ (s.setAdmin_worked code .enabled)⟩
  | .selClearFault _ code index => ⟨_, rfl, s.host_worked _ _ _ _ (s.clearFault_worked code index)⟩
  | .selRetire _ code =>
    ⟨_, rfl, s.host_change _ _ _ _ (s.retireSelection_change code).1 (s.retireSelection_change code).2⟩
  | .priceSet _ code set price =>
    ⟨_, rfl, s.host_change _ _ _ _ (s.setPrice_change code set price).1
      (s.setPrice_change code set price).2⟩
  | .priceSwap _ => ⟨_, rfl, s.host_change _ _ _ _ .swapped rfl⟩
  | .vend _ code => ⟨_, rfl, s.host_tables _ _ _ _ (s.vendRequest_tables code)⟩
  | .cancel _ => ⟨_, rfl, s.host_tables _ _ _ _ s.cancelRequest_tables⟩
  | .cashlessOpen _ amount => ⟨_, rfl, s.host_tables _ _ _ _ (s.cashlessOpenRequest_tables amount)⟩
  | .cashlessClose _ => ⟨_, rfl, s.host_tables _ _ _ _ s.cashlessCloseRequest_tables⟩
  | .sessionRead _ => ⟨_, rfl, s.host_tables _ _ _ _ ⟨rfl, rfl⟩⟩
  | .driveTest _ row col => ⟨_, rfl, s.host_tables _ _ _ _ (s.testRequest_tables _ _)⟩
  | .driveRead _ => ⟨_, rfl, s.host_tables _ _ _ _ ⟨rfl, rfl⟩⟩
  | .tubeDefine _ tube denom capacity lowMark =>
    ⟨_, rfl, s.host_tables _ _ _ _ (s.defineTube_tables tube denom capacity lowMark)⟩
  | .tubeSetCount _ tube count => ⟨_, rfl, s.host_tables _ _ _ _ (s.setCount_tables tube count)⟩
  | .tubeEnable _ tube => ⟨_, rfl, s.host_tables _ _ _ _ (s.setTubeState_tables tube .ok)⟩
  | .tubeDisable _ tube => ⟨_, rfl, s.host_tables _ _ _ _ (s.setTubeState_tables tube .disabled)⟩
  | .tubeRead _ => ⟨_, rfl, s.host_tables _ _ _ _ ⟨rfl, rfl⟩⟩
  | .classSet _ cls enabled tube =>
    ⟨_, rfl, s.host_tables _ _ _ _ (s.setClass_tables cls enabled tube)⟩
  | .billSet _ cls enabled => ⟨_, rfl, s.host_tables _ _ _ _ (s.setBill_tables cls enabled)⟩
  | .classRead _ => ⟨_, rfl, s.host_tables _ _ _ _ ⟨rfl, rfl⟩⟩
  | .totalsRead _ => ⟨_, rfl, s.host_tables _ _ _ _ ⟨rfl, rfl⟩⟩
  | .totalsClear _ => ⟨_, rfl, s.host_tables _ _ _ _ s.clearTotals_tables⟩
  | .payoutTest _ tube n => ⟨_, rfl, s.host_tables _ _ _ _ (s.payoutTest_tables tube n)⟩
  | .probeSet _ p1 p2 p3 p4 => ⟨_, rfl, s.host_tables _ _ _ _ (s.setProbes_tables p1 p2 p3 p4)⟩
  | .payoutRead _ => ⟨_, rfl, s.host_tables _ _ _ _ ⟨rfl, rfl⟩⟩
  | .cashbusReset _ address => ⟨_, rfl, s.host_tables _ _ _ _ (s.busReset_tables address)⟩
  | .cashbusRead _ => ⟨_, rfl, s.host_tables _ _ _ _ ⟨rfl, rfl⟩⟩
  | .loadRead _ => ⟨_, rfl, s.host_tables _ _ _ _ ⟨rfl, rfl⟩⟩
  | .measRead _ => ⟨_, rfl, s.host_tables _ _ _ _ ⟨rfl, rfl⟩⟩
  | .zoneSet _ z => ⟨_, rfl, s.host_tables _ _ _ _ (s.setZoneRequest_tables z)⟩
  | .zoneRead _ => ⟨_, rfl, s.host_tables _ _ _ _ ⟨rfl, rfl⟩⟩
  | .zoneClearHold _ zone => ⟨_, rfl, s.host_tables _ _ _ _ (s.clearHoldRequest_tables zone)⟩
  | .refrigDefrost _ => ⟨_, rfl, s.host_tables _ _ _ _ s.defrostRequest_tables⟩
  | .refrigRead _ => ⟨_, rfl, s.host_tables _ _ _ _ ⟨rfl, rfl⟩⟩
  | .inactivityExpiry => ⟨_, rfl, s.event_change _ (s.expire_tables _ _ State.timeOut_tables)⟩
  | .serveSlot => ⟨_, rfl, s.on_change _ (.of_tables s (by simp))⟩
  | .masterFrameSent => ⟨_, rfl, s.on_change _ (.of_tables s s.frameSent_tables)⟩
  | .replyWindowExpiry =>
    ⟨_, rfl, s.on_change _ (.of_worked s (s.expire_tables _ _ State.replyFails_tables))⟩
  | .replyGapExpiry => ⟨_, rfl, s.on_change _ (.of_tables s s.replyFails_tables)⟩
  | .ack => ⟨_, rfl, s.on_change _ (.of_tables s s.replyAck_tables)⟩
  | .nak => ⟨_, rfl, s.on_change _ (.of_tables s s.replyFails_tables)⟩
  | .badReply => ⟨_, rfl, s.on_change _ (.of_tables s s.replyFails_tables)⟩
  | .setupReply chars => ⟨_, rfl, s.on_change _ (.of_tables s (s.replySetup_tables chars))⟩
  | .pollReply chars => ⟨_, rfl, s.on_change _ (.of_tables s (s.replyPoll_tables chars))⟩
  | .confirmationSent => ⟨_, rfl, s.on_change _ (.of_tables s s.confirmed_tables)⟩
  | .probeTimeExpiry p => ⟨_, rfl, s.on_change _ (.of_tables s (by split <;> exact ⟨rfl, rfl⟩))⟩
  | .stackWatchExpiry =>
    ⟨_, rfl, s.event_change _ (s.expire_tables _ _ fun x => x.goOffline_tables .bill)⟩
  | .fullSwitchChange tube active => ⟨_, rfl, s.event_tables _ (s.fullReads_tables _ active)⟩
  | .lowSwitchChange tube low => ⟨_, rfl, s.event_tables _ (s.lowReads_tables _ low)⟩
  | .payoutGrant => ⟨_, rfl, s.event_tables _ s.takePayout_tables⟩
  | .pulseEnd => ⟨_, rfl, s.event_change _ (s.expire_tables _ _ fun x => ⟨rfl, rfl⟩)⟩
  | .exitCount => ⟨_, rfl, s.event_tables _ s.exitCount_tables⟩
  | .exitWindowExpiry => ⟨_, rfl, s.event_tables _ (by split <;> simp)⟩
  | .spiralGrant homeOpen => ⟨_, rfl, s.event_tables _ (s.takeSpiral_tables homeOpen)⟩
  | .powerTimerExpiry =>
    ⟨_, rfl, s.event_change _ (s.expire_worked _ _ fun x => x.endEntry_worked .noPower)⟩
  | .homeSwitchOpens => ⟨_, rfl, s.event_tables _ s.homeOpens_tables⟩
  | .homeSwitchCloses => ⟨_, rfl, s.event_change _ (by
      split
      · exact s.revolution_worked
      · exact .of_tables ⟨rfl, rfl⟩)⟩
  | .leaveTimerExpiry =>
    ⟨_, rfl, s.event_change _ (s.expire_worked _ _ fun x => x.endFailed_worked .jammed)⟩
  | .turnTimerExpiry =>
    ⟨_, rfl, s.event_change _ (s.expire_worked _ _ fun x => x.endFailed_worked .jammed)⟩
  | .currentSample code => ⟨_, rfl, s.event_change _ (by
      split
      · exact (s.elapse_worked _).trans (State.takeSample_worked _ _ _)
      · exact .of_tables ⟨rfl, rfl⟩)⟩
  | .settleWindowExpiry =>
    ⟨_, rfl, s.event_change _ (s.expire_worked _ _ State.settleEnds_worked)⟩
  | .curtainInterruptionBegins => ⟨_, rfl, s.event_change _ s.curtainBegins_worked⟩
  | .curtainInterruptionEnds => ⟨_, rfl, s.event_tables _ (by split <;> exact ⟨rfl, rfl⟩)⟩
  | .blockTimerExpiry => ⟨_, rfl, s.event_change _ (s.expire_tables _ _ fun x => ⟨rfl, rfl⟩)⟩
  | .passEnd codes => ⟨_, rfl, s.event_tables _ (by simp)⟩
  | .zoneTemperature zone => ⟨_, rfl, s.event_tables _ (s.zoneTakes_tables zone)⟩
  | .vdriveValue => ⟨_, rfl, s.event_tables _ s.vdriveTakes_tables⟩
  | .evaporatorValue => ⟨_, rfl, s.event_tables _ s.evapTakes_tables⟩
  | .promotion load => ⟨_, rfl, s.event_change _ (s.expire_tables _ _ fun x => x.promote_tables load)⟩
  | .damperGrant => ⟨_, rfl, s.event_tables _ s.takeDamper_tables⟩
  | .damperMoveEnd => ⟨_, rfl, s.event_change _ (s.expire_tables _ _ State.endMove_tables)⟩
  | .minuteMark => ⟨_, rfl, s.event_tables _ (by simp)⟩
  | .compressorGrant => ⟨_, rfl, s.event_tables _ s.takeCompressor_tables⟩
  | .defrostGrant => ⟨_, rfl, s.event_tables _ s.takeDefrost_tables⟩
  | .lockoutExpiry => ⟨_, rfl, s.event_change _ (s.expire_tables _ _ State.lockoutEnds_tables)⟩
  | .startWindowEnd => ⟨_, rfl, s.event_change _ (s.expire_tables _ _ State.startWindowEnds_tables)⟩
  | .minRunExpiry =>
    ⟨_, rfl, s.event_change _ (s.expire_tables _ _ fun x => by split <;> simp)⟩
  | .maxContinuousRunExpiry =>
    ⟨_, rfl, s.event_change _ (s.expire_tables _ _ State.defrostDue_tables)⟩
  | .defrostIntervalExpiry =>
    ⟨_, rfl, s.event_change _ (s.expire_tables _ _ State.defrostDue_tables)⟩
  | .heaterTimeLimitExpiry =>
    ⟨_, rfl, s.event_change _ (s.expire_tables _ _ State.endDefrost_tables)⟩
  | .defrostWallTimeExpiry =>
    ⟨_, rfl, s.event_change _ (s.expire_tables _ _ State.endDefrost_tables)⟩
  | .dripTimeExpiry => ⟨_, rfl, s.event_change _ (s.expire_tables _ _ State.dripEnds_tables)⟩
  | .recoveryWindowExpiry =>
    ⟨_, rfl, s.event_change _ (s.expire_tables _ _ State.recoveryEnds_tables)⟩
  | .powerLoss => ⟨_, rfl, .lost rfl⟩
  | .frameStart => ⟨_, rfl, s.onLink_change _ (.of_tables s (by split <;> exact ⟨rfl, rfl⟩))⟩
  | .lenOutOfRange => ⟨_, rfl, s.onLink_change _ (.of_tables s (by split <;> exact ⟨rfl, rfl⟩))⟩
  | .curtainFirstReading interrupted => ⟨_, rfl, s.event_tables _ (by
      split
      · exact ⟨rfl, rfl⟩
      · split <;> exact ⟨rfl, rfl⟩)⟩

/-- A step does to table and store what its command does; an idle step leaves both. -/
theorem step_tableChange {s t : State} (h : step s = .next t) :
    ∃ q, TableChange (s.withPending q) t := by
  unfold step at h
  split at h
  · cases h
    refine ⟨s.pending, .of_tables _ ?_⟩
    unfold State.idle State.on
    split <;> exact ⟨rfl, rfl⟩
  · next c rest _ =>
    obtain ⟨u, hu, change⟩ := exec_tableChange (s.withPending rest) c
    rw [hu] at h
    cases h
    exact ⟨rest, change⟩

/-! ### The price law (R10) -/

/-- A price written to one set leaves the other set's. -/
theorem Selection.withPrice_price_ne (r : Selection) {p y : PriceSet} (n : Nat) (h : p ≠ y) :
    (r.withPrice y n).price p = r.price p := by
  cases y <;> cases p
  · exact absurd rfl h
  · rfl
  · rfl
  · exact absurd rfl h

/-- A price in use of a selection that stays is not changed by a change of the table (R10). -/
theorem SeltChange.price {s : State} {x : Selt} (change : SeltChange s x) {code : Nat}
    {r q : Selection} (hr : findSel s.selt.table code = some r) (hq : findSel x.table code = some q)
    {p : PriceSet} (used : s.inUse p = true) : q.price p = r.price p := by
  cases change with
  | worked h => exact findSel_price_of_tags h.tags hr hq p
  | defined d h =>
    obtain ⟨-, -, -, free⟩ := State.defineRefusal_eq_none h
    rw [findSel_putSel] at hq
    split at hq
    · next e =>
      cases hq
      rw [e] at hr
      have hr' : findSel s.selt.table d.code.toNat = some r := hr
      simp only [State.definePriceInUse, hr', Bool.or_eq_false_iff, Bool.and_eq_false_iff,
        bne_eq_false_iff_eq] at free
      obtain ⟨freeA, freeB⟩ := free
      cases p
      · exact (freeA.resolve_right (by simp [used])).symm
      · exact (freeB.resolve_right (by simp [used])).symm
    · rw [hr] at hq; cases hq; rfl
  | retired c =>
    rw [findSel_removeSel] at hq
    split at hq
    · cases hq
    · rw [hr] at hq; cases hq; rfl
  | priced c price y range free =>
    rw [findSel_updateSel _ _ _ _ (by intro r; cases y <;> rfl), hr] at hq
    split at hq
    · cases hq
      exact r.withPrice_price_ne price fun e => by rw [e, free] at used; cases used
    · cases hq; rfl
  | swapped => rw [hr] at hq; cases hq; rfl

/-- Settles O18: of the changes a step can make (`step_tableChange`) only those that leave the part running
matter, and none of them changes a price in use. -/
theorem priceLaw : Obligations.PriceLaw := by
  intro s t code r r' p hstep running hr hr' hp
  obtain ⟨q, change⟩ := step_tableChange hstep
  have used : (s.withPending q).inUse p = true := by
    simpa [State.inUse] using hp
  cases change with
  | ran h _ => exact h.price hr hr' used
  | saveStarted h _ => exact h.price hr hr' used
  | saveEnded x h _ _ =>
    rw [h] at hr'
    exact (Option.some.inj (hr.symm.trans hr')) ▸ rfl
  | restarted straps h => subst h; cases running
  | lost h => subst h; cases running

/-! ### The table law (R1 to R4) -/

theorem TableLaw.nil : TableLaw [] := ⟨by simp, by simp, by simp, by simp⟩

theorem SeltChange.law {s : State} {x : Selt} (change : SeltChange s x) (law : TableLaw s.selt.table) :
    TableLaw x.table := by
  cases change with
  | worked h => exact h.law law
  | defined d h => exact law.define h
  | retired c => exact law.removeSel c
  | priced c price y range free =>
    refine law.updateSel _ c (by intro r; cases y <;> rfl) fun r hr _ => ?_
    cases y
    · exact ⟨rfl, { law.records r hr with priceA := range }⟩
    · exact ⟨rfl, { law.records r hr with priceB := range }⟩
  | swapped => exact law

/-- The table a power-on starts with is the image's or empty. -/
theorem boot_table_law {s : State} (image : ∀ x, s.rst.image = some x → TableLaw x.table) :
    TableLaw (s.rst.image.getD Image.default).table := by
  cases h : s.rst.image with
  | none => exact .nil
  | some x => exact image x h

/-- Settles O52: each change a step can make (`step_tableChange`) keeps the law of the table, of the image and of
a snapshot. -/
theorem tablesKept : Obligations.TablesKept := by
  intro s t ⟨live, image, saving⟩ hstep
  obtain ⟨q, change⟩ := step_tableChange hstep
  cases change with
  | ran h k => exact ⟨h.law live, by rw [k]; exact image, by rw [k]; exact saving⟩
  | saveStarted h k =>
    refine ⟨h.law live, ?_, ?_⟩ <;> intro x hx <;> rw [k] at hx <;> cases hx
    exact h.law live
  | saveEnded y h hy k =>
    refine ⟨by rw [h]; exact live, ?_, ?_⟩ <;> intro x hx <;> rw [k] at hx <;> cases hx
    exact saving _ hy
  | restarted straps h =>
    subst h
    exact ⟨boot_table_law image, image, by intro x hx; cases hx⟩
  | lost h =>
    subst h
    exact ⟨.nil, image, by intro x hx; cases hx⟩

end Sys2Proof.Machine
end


section
/-! SUPPORT. The requests SELT owns, the requests that read, the state after reset and the power-on: what each
answers and writes. -/

namespace Sys2Proof.Machine

variable {s : State}

/-! ### Requests -/

/-- A request with the length of its row is answered with its owner's reply; the owner's event notes no session
it has left as it was (R28, R193). -/
theorem State.host_answers (ready : s.linkReady = true) {code want : Nat} {f : State → Reply} {r : Reply}
    (hf : f s = r) (view : r.state.sesc.view = s.sesc.view := by rfl) :
    (.next (s.host code want want f) : Result) = .next (r.state.answer code r.status r.body) := by
  simp only [State.host, ready, hf, if_true, State.closeEvent_of_view _ view]

/-- A request its owner refuses, or answers without a change. -/
theorem State.host_replies (ready : s.linkReady = true) {code want : Nat} {f : State → Reply} {st : Status}
    {body : List Field} (hf : f s = s.reply st body) :
    (.next (s.host code want want f) : Result) = .next (s.answer code st body) :=
  State.host_answers ready hf

/-! ### Requests that read -/

/-- Settles O7, a request's owner at a time: each answers without a change, or refuses. -/
theorem readsChangeNothing : Obligations.ReadsChangeNothing := by
  intro s ready
  have reads {code want : Nat} {f : State → Reply} {st : Status} {body : List Field}
      (hf : f s = s.reply st body) := State.host_replies ready (code := code) (want := want) hf
  refine ⟨reads rfl, fun num v hv => reads ?_, fun num hv => reads ?_, fun code h => reads ?_,
    fun code h1 h2 hr => reads ?_, fun after h => reads ?_, fun code r h1 h2 hr => reads ?_,
    fun after h => reads ?_, reads rfl, reads rfl, reads rfl, reads rfl, reads rfl, reads rfl, reads rfl,
    reads rfl, reads rfl, reads rfl⟩
  · simp only [State.readSetting, hv]
    rfl
  · simp only [State.readSetting, hv]
  · have : inRange 1 999 code.toNat = false := by
      rw [Bool.eq_false_iff, Ne, inRange_iff]; omega
    simp [State.findSelection, this]
  · have : inRange 1 999 code.toNat = true := inRange_iff.2 (by omega)
    simp [State.findSelection, this, State.withSel, hr]
  · simp [State.nextSelections, Nat.not_le.2 h]
  · have : inRange 1 999 code.toNat = true := inRange_iff.2 (by omega)
    simp [State.findSelection, this, State.withSel, hr, State.findFields]
  · simp [State.nextSelections, h]

end Sys2Proof.Machine
end


section
/-! SUPPORT. What the requests of SELT write and answer (R11, R12, R16 to R23). -/

namespace Sys2Proof.Machine

variable {s : State}

/-! ### SEL.DEFINE (R16 to R18) -/

/-- The model's length check of SEL.DEFINE is the request table's (R193). -/
theorem defineLength_eq_wantLength (d : DefineReq) : defineLength d.count = d.wantLength := by
  unfold defineLength DefineReq.wantLength
  by_cases h : 1 ≤ d.count.toNat ∧ d.count.toNat ≤ 4
  · rw [if_pos h, if_pos (inRange_iff.2 (by omega))]
  · rw [if_neg h, if_neg fun k => h (by have := inRange_iff.1 k; omega)]

/-- A SEL.DEFINE that fails a check is answered with its status and changes nothing (R16). -/
theorem exec_selDefine_refused (ready : s.linkReady = true) {d : DefineReq} {st : Status}
    (h : s.defineRefusal d = some st) :
    exec (.selDefine d.wantLength d) s = .next (s.answer 0x12 st []) := by
  rw [← defineLength_eq_wantLength]
  exact State.host_replies ready (by simp only [State.defineSelection, h])

/-- A SEL.DEFINE that passes its checks writes its record and answers it (R18). -/
theorem exec_selDefine_written (ready : s.linkReady = true) {d : DefineReq}
    (h : s.defineRefusal d = none) :
    exec (.selDefine d.wantLength d) s =
      .next ((s.setTable (putSel (defineRecord d) s.selt.table)).answer 0x12 .ok
        (.flag (findSel s.selt.table d.code.toNat).isSome ::
          (s.setTable (putSel (defineRecord d) s.selt.table)).selFields (defineRecord d))) := by
  rw [← defineLength_eq_wantLength]
  have hf : s.defineSelection d = ⟨s.setTable (putSel (defineRecord d) s.selt.table), .ok,
      .flag (findSel s.selt.table d.code.toNat).isSome ::
        (s.setTable (putSel (defineRecord d) s.selt.table)).selFields (defineRecord d)⟩ := by
    simp only [State.defineSelection, h]
  exact State.host_answers (f := fun s => s.defineSelection d) ready hf

/-- Settles O14: the checks of `State.defineRefusal` one after another, then the record written. -/
theorem defineWrites : Obligations.DefineWrites := by
  intro s len d ready hlen absent
  subst hlen
  have absent_iff : (findSel s.selt.table d.code.toNat).isNone = true ↔ absent :=
    Option.isNone_iff_eq_none
  refine ⟨fun range => exec_selDefine_refused ready (by simp [State.defineRefusal, range]),
    fun range => ⟨fun full => ?_, fun room => ⟨fun conflict => ?_, fun own => ⟨fun busy => ?_,
      fun idle => ⟨fun price => ?_, fun free => ?_⟩⟩⟩⟩⟩
  · rw [← absent_iff] at full
    exact exec_selDefine_refused ready (by simp [State.defineRefusal, range, full])
  all_goals rw [← absent_iff] at room
  · exact exec_selDefine_refused ready (by
      simp only [State.defineRefusal, range, room, conflict]; rfl)
  · exact exec_selDefine_refused ready (by
      simp only [State.defineRefusal, range, room, own, busy]; rfl)
  · exact exec_selDefine_refused ready (by
      simp only [State.defineRefusal, range, room, own, idle, price]; rfl)
  · have passes : s.defineRefusal d = none := by
      simp only [State.defineRefusal, range, room, own, idle, free]; rfl
    refine ⟨_, exec_selDefine_written ready passes, ?_, fun code hc => ?_, rfl, rfl⟩
    · simp [findSel_putSel, defineRecord]
    · simp [findSel_putSel, defineRecord, hc]

/-! ### SEL.STOCK and SEL.CLEAR_FAULT (R19, R20, R22) -/

theorem State.withSel_found {code : Half} {r : Selection} (f : Selection → Reply)
    (hr : findSel s.selt.table code.toNat = some r) : s.withSel code f = f r := by
  simp only [State.withSel, hr]

theorem State.withSel_absent {code : Half} (f : Selection → Reply)
    (hr : findSel s.selt.table code.toNat = none) : s.withSel code f = s.reply .notFound [] := by
  simp only [State.withSel, hr]

section Position

variable {code : Half} {index : Byte} {r : Selection} {p : Position} (ok : Bool)
  (f : Position → Reply)

theorem State.withPosition_absent (hr : findSel s.selt.table code.toNat = none) :
    s.withPosition code index ok f = s.reply .notFound [] := State.withSel_absent _ hr

/-- An index without a position, or an operand out of range, is refused (R19, R22). -/
theorem State.withPosition_range (hr : findSel s.selt.table code.toNat = some r)
    (h : r.positions.length ≤ index.toNat ∨ ok = false) :
    s.withPosition code index ok f = s.reply .range [] := by
  unfold State.withPosition
  rw [State.withSel_found _ hr]
  cases hp : r.positions[index.toNat]? with
  | none => rfl
  | some p =>
    have bad : ok = false := h.resolve_left fun hl => by
      rw [List.getElem?_eq_none hl] at hp; cases hp
    simp only [bad, if_true]

theorem State.withPosition_busy (hr : findSel s.selt.table code.toNat = some r)
    (hp : r.positions[index.toNat]? = some p) (hok : ok = true)
    (he : s.engaged code.toNat index.toNat p = true) :
    s.withPosition code index ok f = s.reply .busy [] := by
  unfold State.withPosition
  rw [State.withSel_found _ hr]
  simp [hp, hok, he]

theorem State.withPosition_free (hr : findSel s.selt.table code.toNat = some r)
    (hp : r.positions[index.toNat]? = some p) (hok : ok = true)
    (he : s.engaged code.toNat index.toNat p = false) :
    s.withPosition code index ok f = f p := by
  unfold State.withPosition
  rw [State.withSel_found _ hr]
  simp [hp, hok, he]

end Position

/-- An operand of SEL.STOCK SET in range: a known operation and at most 255 (R19). -/
theorem stockSet_operand {n : Half} (h : n.toNat ≤ 255) :
    (true && decide (n.toNat ≤ 255)) = true := by simpa using h

theorem stockAdd_operand_iff {n : Half} :
    inRange (-255) 255 n.toInt = true ↔ -255 ≤ n.toInt ∧ n.toInt ≤ 255 := inRange_iff

/-- A position written is answered with its stock and its fault (R19, R20, R22). -/
theorem host_wrotePosition (ready : s.linkReady = true) (k want : Nat) (f : State → Reply)
    {code : Half} {index : Byte} {q : Position} {st : Status}
    (hf : f s = s.wrotePosition code index q st) :
    (.next (s.host k want want f) : Result) =
      .next ((s.setTable (updateSel (fun x => x.setPosition (fun _ => q) index.toNat)
        code.toNat s.selt.table)).answer k st [.byte q.stock, .flag q.fault.isSome]) :=
  State.host_answers ready hf

theorem clampInt_of_mem {lo hi v : Int} (h1 : lo ≤ v) (h2 : v ≤ hi) : clampInt lo hi v = v := by
  unfold clampInt
  rw [if_neg (by omega), if_neg (by omega)]

/-- Settles O15. -/
theorem stockWrites : Obligations.StockWrites := by
  refine ⟨?_, ?_, ?_⟩
  · intro s code index r p ready hr hp free put
    have written {k want : Nat} {f : State → Reply} {q : Position} {st : Status}
        (hf : f s = s.wrotePosition code index q st) := host_wrotePosition ready k want f hf
    refine ⟨fun n fits small => written ?_, fun n above small => written ?_, written ?_⟩
    · rw [State.stockSet, State.withPosition_free _ _ hr hp (stockSet_operand small) free,
        Nat.min_eq_left fits, if_pos fits]
    · rw [State.stockSet, State.withPosition_free _ _ hr hp (stockSet_operand small) free,
        Nat.min_eq_right (by omega), if_neg (by omega)]
    · rw [State.clearFault, State.withPosition_free _ _ hr hp rfl free]
  · intro s code index r p n ready hr hp free low high put body sum
    have written {k : Nat} {st : Status}
        (hk : (clampInt 0 p.capacity sum).toNat = k)
        (hst : (if inRange 0 p.capacity sum then Status.ok else .clamped) = st) :
        exec (.selStockAdd 6 code index n) s = .next ((put k).answer 0x13 st (body k)) := by
      refine host_wrotePosition (q := { p with stock := k }) ready 0x13 6 _ ?_
      rw [State.stockAdd,
        State.withPosition_free _ _ hr hp (stockAdd_operand_iff.2 ⟨low, high⟩) free, ← hk, ← hst]
    refine ⟨fun h0 hc => written ?_ ?_, fun above => written ?_ ?_, fun neg => written ?_ ?_⟩
    · rw [clampInt_of_mem h0 hc]
    · rw [if_pos (inRange_iff.2 ⟨h0, hc⟩)]
    · unfold clampInt
      rw [if_neg (by omega), if_pos above, Int.toNat_natCast]
    · rw [if_neg fun k => by have := inRange_iff.1 k; omega]
    · unfold clampInt
      rw [if_pos neg, Int.toNat_zero]
    · rw [if_neg fun k => by have := inRange_iff.1 k; omega]
  · intro s code index ready
    have refused {k want : Nat} {f : State → Reply} {st : Status} (hf : f s = s.reply st []) :
        ∃ body, (.next (s.host k want want f) : Result) = .next (s.answer k st body) :=
      ⟨[], State.host_replies ready hf⟩
    refine ⟨fun hr => ⟨fun known n => refused ?_, fun n => refused ?_, refused ?_⟩,
      fun r hr => ⟨fun hi => ⟨fun known n => refused ?_, fun n => refused ?_, refused ?_⟩,
        ⟨fun n hn => refused ?_, fun n => refused ?_, fun n hn => refused ?_⟩,
        fun p hp he => ⟨fun n hn => refused ?_, fun n low high => refused ?_, refused ?_⟩⟩⟩
    · exact State.withPosition_absent _ _ hr
    · exact State.withPosition_absent _ _ hr
    · exact State.withPosition_absent _ _ hr
    · exact State.withPosition_range _ _ hr (.inl hi)
    · exact State.withPosition_range _ _ hr (.inl hi)
    · exact State.withPosition_range _ _ hr (.inl hi)
    · exact State.withPosition_range _ _ hr (.inr (by simpa using hn))
    · exact State.withPosition_range _ _ hr (.inr rfl)
    · refine State.withPosition_range _ _ hr (.inr ?_)
      rw [Bool.eq_false_iff, Ne, stockAdd_operand_iff]
      omega
    · exact State.withPosition_busy _ _ hr hp (stockSet_operand hn) he
    · exact State.withPosition_busy _ _ hr hp (stockAdd_operand_iff.2 ⟨low, high⟩) he
    · exact State.withPosition_busy _ _ hr hp rfl he

/-! ### SEL.SUSPEND, SEL.RESUME and SEL.RETIRE (R13, R21, R23) -/

/-- An admin write of a code with a record answers the sale state after it (R21). -/
theorem State.setAdmin_found {code : Half} {r : Selection} (a : Admin)
    (hr : findSel s.selt.table code.toNat = some r) :
    s.setAdmin code a = ⟨s.setTable (updateSel (fun x => { x with admin := a }) code.toNat s.selt.table),
      .ok, [s.saleField { r with admin := a }]⟩ := State.withSel_found _ hr

/-- Settles O16. -/
theorem suspendResumeRetire : Obligations.SuspendResumeRetire := by
  refine ⟨fun s code ready => ⟨fun hr => ?_, fun r hr => ⟨?_, ?_⟩⟩,
    fun s code ready => ⟨fun hr => ?_, fun r hr => ⟨fun busy => ?_, fun h1 h2 => ?_⟩⟩⟩
  · exact ⟨[], State.host_replies ready (State.withSel_absent _ hr),
      [], State.host_replies ready (State.withSel_absent _ hr)⟩
  · exact State.host_answers (f := fun s => s.setAdmin code .suspended) ready
      (State.setAdmin_found .suspended hr)
  · exact State.host_answers (f := fun s => s.setAdmin code .enabled) ready
      (State.setAdmin_found .enabled hr)
  · exact ⟨[], State.host_replies ready (State.withSel_absent _ hr)⟩
  · refine ⟨[], State.host_replies ready ?_⟩
    rw [State.retireSelection, State.withSel_found _ hr, if_pos (by simpa using busy)]
  · have hf : s.retireSelection code = ⟨s.setTable (removeSel code.toNat s.selt.table), .ok,
        [.byte (removeSel code.toNat s.selt.table).length]⟩ := by
      rw [State.retireSelection, State.withSel_found _ hr, if_neg (by simp [h1, h2])]
      rfl
    refine ⟨_, State.host_answers ready hf, ?_, fun k hk => ?_, rfl, rfl⟩
    · simp [findSel_removeSel]
    · simp [findSel_removeSel, hk]

/-! ### PRICE.SET and PRICE.SWAP (R11, R12) -/

/-- Settles O17. -/
theorem priceWrites : Obligations.PriceWrites := by
  intro s ready
  refine ⟨fun code set price hr => ?_, fun code price r hr => ⟨?_, fun x => ⟨fun bad => ?_,
    fun low high => ⟨fun used => ?_, fun free => ?_⟩⟩⟩, ?_⟩
  · exact State.host_replies ready (State.withSel_absent _ hr)
  · exact State.host_replies ready (State.withSel_found _ hr)
  · refine State.host_replies ready ?_
    have : inRange 1 60000 price.toNat = false := by
      rw [Bool.eq_false_iff, Ne, inRange_iff]; omega
    rw [State.setPrice, State.withSel_found _ hr]
    simp only [this, if_true]
    rfl
  · refine State.host_replies ready ?_
    have : inRange 1 60000 price.toNat = true := inRange_iff.2 (by omega)
    rw [State.setPrice, State.withSel_found _ hr]
    simp only [this, used, if_true]
    rfl
  · have : inRange 1 60000 price.toNat = true := inRange_iff.2 (by omega)
    have hf : s.setPrice code (some x) price =
        ⟨s.setTable (updateSel (fun q => q.withPrice x price.toNat) code.toNat s.selt.table), .ok,
          s.priceFields (r.withPrice x price.toNat)⟩ := by
      rw [State.setPrice, State.withSel_found _ hr]
      simp only [this, free]
      rfl
    refine (State.host_answers ready hf).trans ?_
    cases x <;> rfl
  · refine (State.host_answers (r := s.swapPrices) ready rfl).trans ?_
    cases h : s.selt.active <;> simp [State.swapPrices, otherSet, setField, h]

end Sys2Proof.Machine
end


section
/-! SUPPORT. The state after reset, the power-on, saves and the restore (R201 to R206). -/

namespace Sys2Proof.Machine

variable {s : State}

/-! ### After reset -/

theorem reset_balance : BalanceLaw State.reset where
  live := by unfold balanced; decide
  idle := fun _ => rfl
  image := by intro x h; cases h
  saving := by intro x h; cases h

theorem reset_tables : TablesLaw State.reset where
  live := .nil
  image := by intro x h; cases h
  saving := by intro x h; cases h

theorem reset_coins : CoinLaw State.reset where
  six := rfl
  count := by
    intro t ht
    cases List.eq_of_mem_replicate ht
    rfl
  mapping := by
    intro c hc i hi
    cases List.eq_of_mem_replicate hc
    cases hi
  image := by intro x h; cases h
  saving := by intro x h; cases h

theorem reset_holds : HoldLaw State.reset where
  live := by intro z; cases z <;> constructor <;> decide
  sensor := by intro z; cases z <;> decide
  image := by intro x h; cases h
  saving := by intro x h; cases h

theorem reset_dampers : DamperLaw State.reset where
  once := by decide
  queued := by decide
  reached := by intro z; cases z <;> decide

theorem reset_demand : DemandLaw State.reset where
  wanted := by
    refine ⟨fun h => (by cases h), fun ⟨z, h, _⟩ => ?_⟩
    cases z <;> cases h
  handed := rfl

theorem reset_bus : BusLaw State.reset where
  records := by
    intro p
    cases p <;> exact ⟨fun _ => ⟨rfl, rfl, rfl⟩, by intro o h; cases h⟩
  coin := rfl
  late := fun _ => rfl

theorem reset_measure : MeasureLaw State.reset where
  th1 := by constructor <;> decide
  th2 := by constructor <;> decide
  th3 := by constructor <;> decide
  thEvap := by constructor <;> decide
  thAmb := by constructor <;> decide
  failCount := by decide
  refFault := by decide

/-- Every law holds of the state after reset. -/
theorem reset_safe : Safe State.reset where
  balance := reset_balance
  tables := reset_tables
  coins := reset_coins
  holds := reset_holds
  budget := .inl (by decide)
  handing := ⟨by decide, by decide, by decide⟩
  grants := by constructor <;> decide
  offTime := by unfold OffTimeLaw; decide
  session := by constructor <;> decide
  work := by constructor <;> decide
  dampers := reset_dampers
  demand := reset_demand
  bus := reset_bus
  measure := reset_measure
  notices := by unfold NoticeLaw; decide
  store := by unfold StoreLaw; decide

/-- Settles O3. -/
theorem resetIsSafe : Obligations.ResetIsSafe := by
  refine ⟨reset_safe, rfl, rfl, rfl, rfl, rfl, rfl, rfl, fun t ht => List.eq_of_mem_replicate ht, rfl,
    fun p => ?_, rfl, rfl, rfl, fun z => ?_, rfl, rfl, rfl, rfl, rfl⟩
  · cases p <;> exact ⟨rfl, rfl⟩
  · cases z <;> exact ⟨rfl, rfl, rfl⟩

/-! ### Power-on (R206) -/

/-- A tube restored keeps what the image keeps of it. -/
theorem SavedTube.start_save (x : SavedTube) : x.start.save = x := rfl

theorem map_start_save (xs : List SavedTube) : (xs.map SavedTube.start).map Tube.save = xs := by
  simp [SavedTube.start_save, Function.comp_def]

/-- A power-on with a VALID image starts from it. -/
theorem boot_of_image {x : Image} (straps : BitVec 2) (h : s.rst.image = some x) :
    (s.boot straps).settings = x.settings ∧ (s.boot straps).selt = ⟨x.table, x.active⟩ ∧
    (s.boot straps).sesc = x.session ∧ (s.boot straps).chu = x.chu ∧
    (s.boot straps).ztc = Ztc.initial x.z1 x.z2 x.z3 ∧ (s.boot straps).rfc = x.rfc ∧
    (s.boot straps).hli = Hli.initial .restored straps := by
  simp [State.boot, h]

/-- A power-on with an INVALID or absent image starts from the defaults. -/
theorem boot_of_none (straps : BitVec 2) (h : s.rst.image = none) :
    (s.boot straps).settings = Settings.default ∧ (s.boot straps).selt = ⟨[], .a⟩ ∧
    (s.boot straps).sesc = Session.idle ∧ (s.boot straps).chu = Image.default.chu ∧
    (s.boot straps).ztc = Ztc.initial SavedZone.initial SavedZone.initial SavedZone.initial ∧
    (s.boot straps).rfc = Rfc.initial 0 false := by
  have rfc : Image.default.rfc = Rfc.initial 0 false := by
    simp [Image.rfc, Image.default, Settings.intervalMs, Settings.default]
  simp only [State.boot, h]
  exact ⟨rfl, rfl, rfl, rfl, rfl, rfc⟩

/-- The session restored (R49). -/
theorem Image.session_spec (x : Image) :
    x.session.credit = x.credit ∧ x.session.escrow = none ∧ x.session.authorized = none ∧
    x.session.pendingVend = none ∧ x.session.kind = .cash ∧ x.session.sessionSet = x.sessionSet ∧
    (x.credit = 0 → x.session.phase = .idle ∧ x.session.inactivity = none) ∧
    (x.credit ≠ 0 → x.session.phase = .cashCredit ∧ x.session.inactivity =
      if x.settings.inactivityTime = 0 then none else some (x.settings.inactivityTime * 1000)) := by
  refine ⟨rfl, rfl, rfl, rfl, rfl, rfl, fun h => ?_, fun h => ?_⟩
  · simp [Image.session, h]
  · have : ¬x.credit = 0#32 := h
    simp [Image.session, this, Settings.inactivityMs]

/-- Settles O10: each record of `State.boot` is written out; what depends on the image is read from
`boot_of_image` and `boot_of_none`. -/
theorem powerOnStarts : Obligations.PowerOnStarts := by
  refine fun s straps => ⟨⟨s.boot straps, rfl, rfl, rfl, rfl, rfl, rfl, rfl, rfl, rfl,
    ⟨rfl, rfl, rfl, rfl, rfl, rfl⟩, ⟨rfl, rfl, rfl, rfl, rfl, ?_⟩, ⟨rfl, ?_, rfl, rfl, rfl⟩,
    ⟨rfl, rfl, rfl, rfl, rfl, rfl⟩, ?_, fun x hx => ?_, fun hx => ?_⟩, fun on => ?_,
    fun r running slot => ?_⟩
  · intro l hl
    cases l
    case damper => exact absurd rfl hl
    all_goals rfl
  · intro x hx
    obtain ⟨y, -, rfl⟩ := List.mem_map.1 hx
    exact ⟨rfl, rfl⟩
  · intro z
    cases z <;> exact ⟨rfl, rfl, rfl, beq_iff_eq⟩
  · obtain ⟨settings, selt, sesc, chu, ztc, rfc, -⟩ := boot_of_image straps hx
    have zone (z : ZoneNo) : (s.boot straps).zone z = (Ztc.initial x.z1 x.z2 x.z3).get z :=
      congrArg (Ztc.get · z) ztc
    rw [settings, selt, sesc, chu, zone, zone, zone, rfc]
    exact ⟨rfl, rfl, x.session_spec, rfl, map_start_save x.tubes, rfl, rfl, rfl, rfl, rfl, rfl, rfl,
      rfl⟩
  · obtain ⟨settings, selt, sesc, chu, ztc, rfc⟩ := boot_of_none straps hx
    rw [settings, selt, sesc, chu, rfc]
    refine ⟨rfl, rfl, rfl, rfl, rfl, rfl, rfl, rfl, fun z => ?_, rfl, rfl⟩
    rw [State.zone, ztc]
    cases z <;> rfl
  · exact congrArg Host.Outcome.next (if_neg on)
  · refine congrArg Host.Outcome.next ?_
    simp only [State.onLink, running, if_true, State.endResponse, slot]

/-! ### Saves and the restore (R202 to R206) -/

/-- A request answered when a save ends starts the save (R204, R205). -/
theorem State.hostSave_starts (ready : s.linkReady = true) (code : Nat) (isRestart : Bool) :
    s.hostSave code 0 isRestart = ({ s with rst :=
      { s.rst with image := none, saving := some s.snapshot } }.setSlot (.waitingSave isRestart)) := by
  simp only [State.hostSave, ready, if_true]
  rfl

/-- The end of the writing: the image, the STORE notice and the answer that waited (R202). -/
theorem State.endSave_writes {x : Image} (h : s.rst.saving = some x) :
    s.endSave.rst = { s.rst with image := some x, saving := none } ∧
    s.endSave.hli.notices = insertNotice (.store .saved) s.hli.notices ∧
    (s.hli.slot = .waitingSave false → s.endSave.hli.slot = .answering ⟨0x85, .ok, []⟩ false) ∧
    (s.hli.slot = .waitingSave true → s.endSave.hli.slot = .answering ⟨0x86, .ok, []⟩ true) ∧
    s.endSave = { s with rst := s.endSave.rst, hli := s.endSave.hli } := by
  have e : s.endSave = ((s.setRst { s.rst with image := some x, saving := none }).raise
      (.store .saved)).answerSave := by
    simp only [State.endSave, h]
  rw [e]
  refine ⟨?_, ?_, fun slot => ?_, fun slot => ?_, ?_⟩
  · unfold State.answerSave; split <;> rfl
  · unfold State.answerSave; split <;> rfl
  · simp [State.answerSave, slot]
  · simp [State.answerSave, slot]
  · unfold State.answerSave; split <;> rfl

/-- What is kept of a snapshot's image is what the snapshot took. -/
theorem boot_of_snapshot {u : State} (straps : BitVec 2) (h : u.rst.image = some s.snapshot) :
    (u.boot straps).selt = s.selt ∧ (u.boot straps).settings = s.settings ∧
    (u.boot straps).chu.tubes.map Tube.save = s.chu.tubes.map Tube.save ∧
    (u.boot straps).chu.coins = s.chu.coins ∧ (u.boot straps).chu.bills = s.chu.bills ∧
    (u.boot straps).chu.totals = s.chu.totals ∧ (u.boot straps).chu.probes = s.chu.probes ∧
    (u.boot straps).sesc.credit = s.sesc.credit ∧
    (u.boot straps).sesc.sessionSet = s.sesc.sessionSet ∧
    (u.boot straps).sesc.phase = (if s.sesc.credit = 0 then .idle else .cashCredit) ∧
    (∀ z, ((u.boot straps).zone z).cfg = (s.zone z).cfg ∧
      ((u.boot straps).zone z).exposure = (s.zone z).exposure ∧
      ((u.boot straps).zone z).hold = (s.zone z).hold) ∧
    (u.boot straps).rfc.accumulator = s.rfc.accumulator ∧
    (u.boot straps).rfc.defrostPending = (s.rfc.defrostPending ||
      decide (s.settings.defrostInterval * 3600000 ≤ s.rfc.accumulator)) ∧
    (u.boot straps).hli.notices = [(.store .restored, false)] := by
  obtain ⟨settings, selt, sesc, chu, ztc, rfc, hli⟩ := boot_of_image straps h
  rw [settings, selt, sesc, chu, rfc, hli]
  refine ⟨rfl, rfl, map_start_save _, rfl, rfl, rfl, rfl, rfl, rfl, rfl, fun z => ?_, rfl, rfl, rfl⟩
  rw [State.zone, ztc]
  cases z <;> exact ⟨rfl, rfl, rfl⟩

/-- Settles O11. -/
theorem savesRunAndRestore : Obligations.SavesRunAndRestore := by
  refine ⟨fun s => ⟨fun ready => ⟨?_, ?_⟩, fun x on hx => ?_, ?_, fun restoring => ?_⟩,
    fun s straps on hsave => ?_⟩
  · exact congrArg Host.Outcome.next (State.hostSave_starts ready 0x05 false)
  · exact congrArg Host.Outcome.next (State.hostSave_starts ready 0x06 true)
  · obtain ⟨rst, notices, saved, restarted, frame⟩ := State.endSave_writes hx
    refine ⟨s.endSave, congrArg Host.Outcome.next (if_neg on), rst, ?_, saved, restarted, frame⟩
    rw [notices]
    exact insertNotice_mem _ _
  · exact ⟨s.losePower, rfl, rfl, rfl, rfl⟩
  · exact congrArg Host.Outcome.next (if_pos restoring)
  · obtain ⟨rst, -⟩ := State.endSave_writes hsave
    exact ⟨s.endSave, s.endSave.boot straps, congrArg Host.Outcome.next (if_neg on), rfl,
      boot_of_snapshot straps (by rw [rst])⟩

end Sys2Proof.Machine
end


section
/-! SUPPORT. The draw rule (R6), SELT's outcomes (R7 to R9), and DRIVE.TEST (R52). -/

namespace Sys2Proof.Machine

/-! ### The draw rule (R6) -/

/-- The position the draw rule takes at an index, if it is usable. -/
def Selection.usableAt (r : Selection) (i : Nat) : Option (Nat × Position) :=
  match r.positions[i]? with
  | some p => if p.usable then some (i, p) else none
  | none => none

theorem Selection.choose_eq (r : Selection) : r.choose = r.drawOrder.findSome? r.usableAt := rfl

theorem Selection.usableAt_eq_some_iff {r : Selection} {i j : Nat} {p : Position} :
    r.usableAt i = some (j, p) ↔ i = j ∧ r.positions[i]? = some p ∧ p.usable = true := by
  unfold Selection.usableAt
  split
  · next q hq =>
    by_cases hu : q.usable = true
    · simp only [hu, if_true, hq, Option.some.injEq, Prod.mk.injEq]
      exact ⟨fun ⟨e, k⟩ => ⟨e, k, k ▸ hu⟩, fun ⟨e, k, _⟩ => ⟨e, k⟩⟩
    · rw [if_neg hu, hq]
      simp only [reduceCtorEq, false_iff, Option.some.injEq]
      rintro ⟨-, rfl, k⟩
      exact hu k
  · next h => simp [h]

theorem Selection.usable_of_usableAt_none {r : Selection} {i : Nat} {p : Position}
    (h : r.usableAt i = none) (hp : r.positions[i]? = some p) : p.usable = false := by
  cases hu : p.usable with
  | false => rfl
  | true => rw [Selection.usableAt_eq_some_iff.2 ⟨rfl, hp, hu⟩] at h; cases h

/-- The draw rule visits every position's index, whatever the cursor. -/
theorem Selection.mem_drawOrder {r : Selection} {i : Nat} :
    i ∈ r.drawOrder ↔ i < r.positions.length := by
  unfold Selection.drawOrder
  cases r.draw
  · exact List.mem_range
  · have : i ∈ (List.range r.positions.length).drop r.cursor ++
        (List.range r.positions.length).take r.cursor ↔ i ∈ List.range r.positions.length := by
      rw [List.mem_append, or_comm, ← List.mem_append, List.take_append_drop]
    exact this.trans List.mem_range

theorem Selection.choose_eq_none_iff {r : Selection} :
    r.choose = none ↔ ∀ p ∈ r.positions, p.usable = false := by
  rw [Selection.choose_eq, List.findSome?_eq_none_iff]
  refine ⟨fun h p hp => ?_, fun h i _ => ?_⟩
  · obtain ⟨i, hi⟩ := List.mem_iff_getElem?.1 hp
    have hlt : i < r.positions.length := (List.getElem?_eq_some_iff.1 hi).1
    exact Selection.usable_of_usableAt_none (h i (Selection.mem_drawOrder.2 hlt)) hi
  · cases hu : r.usableAt i with
    | none => rfl
    | some x =>
      obtain ⟨-, hp, hx⟩ := Selection.usableAt_eq_some_iff.1 hu
      rw [h x.2 (List.mem_of_getElem? hp)] at hx
      cases hx

/-- What the draw rule chooses, and what it has passed over when its visits come by rising `key`. -/
theorem Selection.choose_eq_some {r : Selection} {i : Nat} {p : Position}
    (h : r.choose = some (i, p)) :
    r.positions[i]? = some p ∧ p.usable = true ∧
      ∀ key : Nat → Nat, r.drawOrder.Pairwise (fun a b => key a < key b) →
        ∀ j q, key j < key i → r.positions[j]? = some q → q.usable = false := by
  rw [Selection.choose_eq, List.findSome?_eq_some_iff] at h
  obtain ⟨before, a, after, horder, ha, hnone⟩ := h
  obtain ⟨rfl, hp, hu⟩ := Selection.usableAt_eq_some_iff.1 ha
  refine ⟨hp, hu, fun key sorted j q hj hq => ?_⟩
  have visited : j ∈ r.drawOrder :=
    Selection.mem_drawOrder.2 (List.getElem?_eq_some_iff.1 hq).1
  rw [horder] at sorted visited
  have later : ∀ b ∈ after, key a < key b :=
    (List.pairwise_cons.1 (List.pairwise_append.1 sorted).2.1).1
  rcases List.mem_append.1 visited with hj' | hj'
  · exact Selection.usable_of_usableAt_none (hnone j hj') hq
  · rcases List.mem_cons.1 hj' with rfl | hj'
    · exact absurd hj (Nat.lt_irrefl _)
    · exact absurd (later j hj') (by omega)

/-- FIRST visits by rising index. -/
theorem Selection.drawOrder_first {r : Selection} (h : r.draw = .first) :
    r.drawOrder.Pairwise (fun a b => a < b) := by
  simp only [Selection.drawOrder, h]
  exact List.pairwise_lt_range

/-- ROTATE visits by rising distance from the cursor, upward and around. -/
theorem Selection.drawOrder_rotate {r : Selection} (h : r.draw = .rotate)
    (hc : r.cursor < r.positions.length) :
    r.drawOrder.Pairwise (fun a b => (a + r.positions.length - r.cursor) % r.positions.length <
      (b + r.positions.length - r.cursor) % r.positions.length) := by
  have order : r.drawOrder =
      List.range' r.cursor (r.positions.length - r.cursor) ++ List.range r.cursor := by
    simp only [Selection.drawOrder, h, List.take_range, Nat.min_eq_left hc.le]
    rw [List.range_eq_range', List.drop_range']
    simp
  generalize r.positions.length = n at *
  generalize r.cursor = c at *
  have upper {a : Nat} (ha : a ∈ List.range' c (n - c)) : (a + n - c) % n = a - c := by
    have := List.mem_range'_1.1 ha
    rw [show a + n - c = a - c + n by omega, Nat.add_mod_right, Nat.mod_eq_of_lt (by omega)]
  have lower {a : Nat} (ha : a ∈ List.range c) : (a + n - c) % n = a + n - c := by
    have := List.mem_range.1 ha
    exact Nat.mod_eq_of_lt (by omega)
  rw [order, List.pairwise_append]
  refine ⟨?_, ?_, fun a ha b hb => ?_⟩
  · refine List.Pairwise.imp_of_mem (fun ha hb hab => ?_) (List.pairwise_lt_range' 1)
    have := List.mem_range'_1.1 ha
    rw [upper ha, upper hb]
    omega
  · refine List.Pairwise.imp_of_mem (fun ha hb hab => ?_) List.pairwise_lt_range
    have := List.mem_range.1 ha
    rw [lower ha, lower hb]
    omega
  · have := List.mem_range'_1.1 ha
    have := List.mem_range.1 hb
    rw [upper ha, lower hb]
    omega

/-! ### What SELT does with outcomes (R7 to R9) -/

variable {s : State}

/-- The table after the outcome of a VEND entry. -/
theorem findSel_seltVend (code i k : Nat) (o : DriveOutcome) :
    findSel (s.seltVend code i o).selt.table k =
      if k = code then (findSel s.selt.table k).map fun r =>
        { (r.setPosition (vendPosition o) i) with cursor := r.cursorAfter o i }
      else findSel s.selt.table k :=
  findSel_updateSel _ code k _ fun _ => rfl

theorem seltTest_of_free {row col : Nat} (o : DriveOutcome)
    (h : ownerOf s.selt.table row col = none) : s.seltTest row col o = s := by
  simp only [State.seltTest, h]

/-- The table after the outcome of a TEST entry at an owned address. -/
theorem findSel_seltTest {row col code i : Nat} (k : Nat) (o : DriveOutcome)
    (h : ownerOf s.selt.table row col = some (code, i)) :
    findSel (s.seltTest row col o).selt.table k =
      if k = code then (findSel s.selt.table k).map (Selection.setPosition (testPosition o) i)
      else findSel s.selt.table k := by
  simp only [State.seltTest, h]
  exact findSel_updateSel _ code k _ fun _ => rfl

/-- Settles O19. -/
theorem drawAndOutcomes : Obligations.DrawAndOutcomes := by
  refine ⟨fun r => ⟨Selection.choose_eq_none_iff, fun i p h => ?_, fun first i p h => ?_,
    fun rotate hc i p h => ?_⟩, fun s code i r p o hr hp => ?_, fun s row col o => seltTest_of_free o,
    fun s row col code i r p o owner hr hp => ?_⟩
  · obtain ⟨hp, hu, -⟩ := Selection.choose_eq_some h
    exact ⟨hp, hu⟩
  · obtain ⟨-, -, passed⟩ := Selection.choose_eq_some h
    exact passed (fun a => a) (Selection.drawOrder_first first)
  · obtain ⟨-, -, passed⟩ := Selection.choose_eq_some h
    exact fun j q hq hj => passed _ (Selection.drawOrder_rotate rotate hc) j q hj hq
  · refine ⟨_, by rw [findSel_seltVend, if_pos rfl, hr]; rfl, ?_, rfl, fun j hj => ?_,
      fun k hk => by rw [findSel_seltVend, if_neg hk]⟩
    · simp only [Selection.setPosition, modifyAt_getElem?_self, hp, Option.map_some]
      cases o <;> rfl
    · exact modifyAt_getElem?_ne _ _ hj
  · refine ⟨r.setPosition (testPosition o) i,
      by rw [findSel_seltTest _ o owner, if_pos rfl, hr]; rfl, ?_, rfl, fun k hk => by rw [findSel_seltTest _ o owner, if_neg hk]⟩
    simp only [Selection.setPosition, modifyAt_getElem?_self, hp, Option.map_some]
    cases o <;> rfl

/-! ### The unit of a TEST entry (R4, R52) -/

/-- Elements that share an image under a list's duplicate-free expansion are one. -/
theorem eq_of_mem_flatMap {α β : Type} {l : List α} {f : α → List β} (h : (l.flatMap f).Nodup) {x y : α}
    {b : β} (hx : x ∈ l) (hy : y ∈ l) (hbx : b ∈ f x) (hby : b ∈ f y) : x = y := by
  obtain ⟨-, disjoint⟩ := List.nodup_flatMap.1 h
  by_contra ne
  have symm : Std.Symm (Function.onFun List.Disjoint f) := ⟨fun _ _ d => d.symm⟩
  exact disjoint.forall hx hy ne hbx hby

/-- In a table that keeps its law one position at most claims an address (R4). -/
theorem TableLaw.owner_unique {t : List Selection} (law : TableLaw t) {r r' : Selection}
    {p p' : Position} {a : Nat × Nat} (hr : r ∈ t) (hp : p ∈ r.positions) (ha : a ∈ p.unit.addrs)
    (hr' : r' ∈ t) (hp' : p' ∈ r'.positions) (ha' : a ∈ p'.unit.addrs) : p = p' := by
  have nodup : ((t.flatMap Selection.positions).flatMap fun p => p.unit.addrs).Nodup := by
    rw [List.flatMap_assoc]; exact law.owners
  exact eq_of_mem_flatMap nodup (List.mem_flatMap.2 ⟨r, hr, hp⟩) (List.mem_flatMap.2 ⟨r', hr', hp'⟩)
    ha ha'

/-- A TEST of an address no position claims drives the single motor (R52). -/
theorem testEntry_unit_of_free {row col : Nat}
    (h : ∀ r ∈ s.selt.table, ∀ p ∈ r.positions, (row, col) ∉ p.unit.addrs) :
    (s.testEntry row col).unit = ⟨row, col, false⟩ := by
  have none : (s.selt.table.findSome? fun r =>
      r.positions.find? fun p => p.unit.addrs.contains (row, col)) = none := by
    rw [List.findSome?_eq_none_iff]
    intro r hr
    rw [List.find?_eq_none]
    intro p hp
    simpa using h r hr p hp
  simp only [State.testEntry]
  rw [none]

/-- A TEST of an address a position claims drives that position's twin pair, or the single motor (R52). -/
theorem testEntry_unit_of_owner {row col : Nat} (law : TableLaw s.selt.table) {r : Selection}
    {p : Position} (hr : r ∈ s.selt.table) (hp : p ∈ r.positions) (ha : (row, col) ∈ p.unit.addrs) :
    (s.testEntry row col).unit = if p.unit.twin then p.unit else ⟨row, col, false⟩ := by
  have found : (s.selt.table.findSome? fun r =>
      r.positions.find? fun p => p.unit.addrs.contains (row, col)) = some p := by
    cases h : s.selt.table.findSome? fun r =>
        r.positions.find? fun p => p.unit.addrs.contains (row, col) with
    | none =>
      have := List.find?_eq_none.1 (List.findSome?_eq_none_iff.1 h r hr) p hp
      simp [ha] at this
    | some q =>
      obtain ⟨r', hr', hq⟩ := List.exists_of_findSome?_eq_some h
      have hq' := List.find?_some hq
      rw [law.owner_unique hr hp ha hr' (List.mem_of_find?_eq_some hq) (by simpa using hq')]
  simp only [State.testEntry]
  rw [found]

/-! ### DRIVE.TEST (R52, R56) -/

/-- A sequencer at work takes no head. -/
theorem State.takeHead_of_busy (h : s.sdc.seq ≠ .idle) : s.takeHead = s := by
  simp only [State.takeHead, h, if_false]

/-- An IDLE sequencer takes the head: RUNNING, unmarked, and AWAIT_POWER is entered for its unit (R56). -/
theorem State.takeHead_of_idle {e : DriveEntry} {rest : List DriveEntry} (h : s.sdc.seq = .idle)
    (hl : s.sdc.list = e :: rest) :
    s.takeHead = (s.setList ({ e with
      running := true, delivered := false, revolutions := 0, extra := false } :: rest)).enterAwaitPower
        e.unit := by
  simp only [State.takeHead, h, if_true, hl, State.editHead, modifyAt]

/-- Settles O24. -/
theorem testQueued : Obligations.TestQueued := by
  refine ⟨fun s row col ready => ⟨fun bad => ?_, fun h1 h2 => ⟨fun closed => ?_,
    fun doorOpen full => ?_⟩⟩, fun s row col ready hrow hcol doorOpen room => ?_⟩
  · have : motorAddrOk row.toNat col.toNat = false := by
      rw [Bool.eq_false_iff, Ne, motorAddrOk_iff]; omega
    exact State.host_replies ready (by simp only [State.testRequest, this, if_true])
  · have : motorAddrOk row.toNat col.toNat = true := motorAddrOk_iff.2 ⟨h1, h2⟩
    exact State.host_replies ready (by simp [State.testRequest, this, closed])
  · have : motorAddrOk row.toNat col.toNat = true := motorAddrOk_iff.2 ⟨h1, h2⟩
    exact State.host_replies ready (by simp [State.testRequest, this, doorOpen, full])
  · have addr : motorAddrOk row.toNat col.toNat = true := motorAddrOk_iff.2 ⟨hrow, hcol⟩
    have hf : s.testRequest row.toNat col.toNat =
        ⟨(s.setList (s.sdc.list ++ [s.testEntry row.toNat col.toNat])).takeHead, .accepted,
          [.byte s.sdc.list.length]⟩ := by
      simp only [State.testRequest, addr, doorOpen, Nat.not_le.2 room]
      rfl
    have answered : exec (.driveTest 2 row col) s = _ :=
      State.host_answers (f := fun s => s.testRequest row.toNat col.toNat) ready hf (by simp)
    have free (h : ∀ r ∈ s.selt.table, ∀ p ∈ r.positions, (row.toNat, col.toNat) ∉ p.unit.addrs) :=
      testEntry_unit_of_free h
    by_cases h : s.sdc.seq = .idle ∧ s.sdc.list = []
    · obtain ⟨seq, list⟩ := h
      refine ⟨_, { s.testEntry row.toNat col.toNat with running := true }, answered, ?_, rfl, rfl, rfl,
        rfl, free, fun law r hr p hp ha => testEntry_unit_of_owner law hr hp ha,
        fun busy => absurd seq busy, fun _ _ => ⟨rfl, ?_⟩, ?_⟩
      · simp
      · have head := State.takeHead_of_idle
          (s := s.setList (s.sdc.list ++ [s.testEntry row.toNat col.toNat]))
          (e := s.testEntry row.toNat col.toNat) (rest := []) seq (by simp [list])
        simp only [head, State.answer_sdc, State.enterAwaitPower_unchanged]
        rfl
      · simp
    · refine ⟨_, s.testEntry row.toNat col.toNat, answered, ?_, rfl, rfl, rfl, rfl, free,
        fun law r hr p hp ha => testEntry_unit_of_owner law hr hp ha,
        fun busy => ⟨rfl, ?_⟩, fun seq list => absurd ⟨seq, list⟩ h, ?_⟩
      · simp
      · have head := State.takeHead_of_busy
          (s := s.setList (s.sdc.list ++ [s.testEntry row.toNat col.toNat])) busy
        simp only [head]
        rfl
      · simp

end Sys2Proof.Machine
end


section
/-! SUPPORT. What a grant pass does to a load record (R142, R143), what requests and releases leave, and the
notices that stay in the set (R198). -/

namespace Sys2Proof.Machine

variable {s : State}

/-! ### The walk -/

/-- The walk leaves a record, or grants a waiting load a weight within the remaining budget. -/
theorem grantWalk_get (order : List Load) (remaining : Nat) (ls : Loads) (l : Load) :
    (grantWalk order remaining ls).get l = ls.get l ∨
      ∃ w t p, ls.get l = .waiting w t p ∧ w ≤ remaining ∧
        (grantWalk order remaining ls).get l = .granted w := by
  induction order generalizing remaining ls with
  | nil => exact .inl rfl
  | cons k order ih =>
    simp only [grantWalk]
    split
    · next w t p hk =>
      split
      · next fits =>
        by_cases e : l = k
        · subst e
          rcases ih (remaining - w) (ls.set l (.granted w)) with h | ⟨w', t', p', h, -⟩
          · exact .inr ⟨w, t, p, hk, fits, by rw [h, Loads.get_set_self]⟩
          · rw [Loads.get_set_self] at h; cases h
        · rcases ih (remaining - w) (ls.set k (.granted w)) with h | ⟨w', t', p', h, le, g⟩
          · exact .inl (by rw [h, Loads.get_set_ne _ _ e])
          · rw [Loads.get_set_ne _ _ e] at h
            exact .inr ⟨w', t', p', h, by omega, g⟩
      · split
        · exact .inl rfl
        · exact ih remaining ls
    · exact ih remaining ls

theorem LoadRec.held_eq_zero_of_not_granted {r : LoadRec} (h : r.isGranted = false) : r.held = 0 := by
  cases r with
  | granted w => cases h
  | none => rfl
  | waiting w t p => rfl

theorem State.held_le_sumHeld (s : State) (l : Load) : (s.load l).held ≤ s.sumHeld := by
  cases l <;> simp only [State.load, Loads.get, State.sumHeld, Loads.sumHeld] <;> omega

/-! ### Revocations (R143) -/

/-- The effective budget is of the settings and the band. -/
theorem State.budget_congr {t : State} (hs : t.settings = s.settings)
    (hb : t.lba.band = s.lba.band) : t.budget = s.budget := by
  simp only [State.budget, hs, hb]

theorem State.revokeDefrost_load (s : State) (l : Load) : s.revokeDefrost.load l = s.load l ∨
    l = .defrost ∧ s.overBudget = true ∧ (s.load l).isGranted = true ∧
      (s.revokeDefrost.load l).isGranted = false := by
  unfold State.revokeDefrost
  split
  · next w hw =>
    split
    · next high =>
      by_cases e : l = .defrost
      · subst e
        exact .inr ⟨rfl, high, by rw [hw]; rfl, rfl⟩
      · exact .inl (State.load_setLoad_ne s _ e)
    · exact .inl rfl
  · exact .inl rfl

theorem State.revokeCompressor_load (s : State) (l : Load) : s.revokeCompressor.load l = s.load l ∨
    l = .compressor ∧ s.overBudget = true ∧ (s.load l).isGranted = true ∧
      (s.revokeCompressor.load l).isGranted = false := by
  unfold State.revokeCompressor
  split
  · next w hw =>
    by_cases e : l = .compressor
    · subst e
      have granted : (s.load .compressor).isGranted = true := by rw [hw]; rfl
      split
      · next high =>
        split
        · exact .inr ⟨rfl, high, granted, rfl⟩
        · split <;> exact .inr ⟨rfl, high, granted, rfl⟩
      · exact .inl rfl
    · have other (r : LoadRec) : (s.setLoad .compressor r).load l = s.load l :=
        State.load_setLoad_ne s r e
      split
      · split
        · exact .inl (other .none)
        · split <;> exact .inl (other _)
      · exact .inl rfl
  · exact .inl rfl

/-- After its revocation DEFROST holds no more than the budget (R143). -/
theorem State.revokeDefrost_held (s : State) : (s.revokeDefrost.load .defrost).held ≤ s.budget := by
  unfold State.revokeDefrost
  split
  · next w hw =>
    split
    · exact Nat.zero_le _
    · next within =>
      have := s.held_le_sumHeld .defrost
      simp only [State.overBudget, decide_eq_true_eq, not_lt] at within
      omega
  · next h =>
    cases e : s.load .defrost with
    | granted w => exact absurd e (h w)
    | none => exact Nat.zero_le _
    | waiting w t p => exact Nat.zero_le _

theorem State.revokeCompressor_held (s : State) :
    (s.revokeCompressor.load .compressor).held ≤ s.budget := by
  unfold State.revokeCompressor
  split
  · next w hw =>
    split
    · split
      · exact Nat.zero_le _
      · split <;> exact Nat.zero_le _
    · next within =>
      have := s.held_le_sumHeld .compressor
      simp only [State.overBudget, decide_eq_true_eq, not_lt] at within
      omega
  · next h =>
    cases e : s.load .compressor with
    | granted w => exact absurd e (h w)
    | none => exact Nat.zero_le _
    | waiting w t p => exact Nat.zero_le _

/-! ### The grant pass (R142) -/

theorem State.revocations_budget (s : State) :
    s.revokeDefrost.revokeCompressor.budget = s.budget ∧ s.revokeDefrost.budget = s.budget := by
  obtain ⟨_, _, h⟩ := s.revokeDefrost_frame
  obtain ⟨_, _, k⟩ := s.revokeDefrost.revokeCompressor_frame
  have e : s.revokeDefrost.budget = s.budget := State.budget_congr (by simp [h]) (by simp [h])
  exact ⟨(State.budget_congr (by simp [k]) (by simp [k])).trans e, e⟩

/-- After the revocations a pass leaves a record, or grants a waiting load a weight within the budget. -/
theorem State.grantPass_load_revoked (s : State) (l : Load) :
    s.grantPass.load l = s.revokeDefrost.revokeCompressor.load l ∨
      ∃ w t p, s.revokeDefrost.revokeCompressor.load l = .waiting w t p ∧ w ≤ s.budget ∧
        s.grantPass.load l = .granted w := by
  simp only [State.grantPass]
  split
  · exact .inl rfl
  · have le : s.revokeDefrost.revokeCompressor.budget ≤ s.budget := s.revocations_budget.1.le
    rcases grantWalk_get (waitOrder s.revokeDefrost.revokeCompressor.settings
        s.revokeDefrost.revokeCompressor.lba.loads)
        (s.revokeDefrost.revokeCompressor.budget - s.revokeDefrost.revokeCompressor.sumHeld)
        s.revokeDefrost.revokeCompressor.lba.loads l with h | ⟨w, t, p, hw, fits, h⟩
    · exact .inl h
    · exact .inr ⟨w, t, p, hw, by omega, h⟩

/-- A pass revokes COMPRESSOR and DEFROST alone: another record it leaves, or grants within the budget. -/
theorem State.grantPass_load (s : State) {l : Load} (hd : l ≠ .defrost) (hc : l ≠ .compressor) :
    s.grantPass.load l = s.load l ∨
      ∃ w t p, s.load l = .waiting w t p ∧ w ≤ s.budget ∧ s.grantPass.load l = .granted w := by
  have e : s.revokeDefrost.revokeCompressor.load l = s.load l := by
    rcases s.revokeDefrost.revokeCompressor_load l with h | ⟨h, -⟩
    · rcases s.revokeDefrost_load l with k | ⟨k, -⟩
      · rw [h, k]
      · exact absurd k hd
    · exact absurd h hc
  rw [← e]
  exact s.grantPass_load_revoked l

/-- A load with no request and no grant stays so through a pass. -/
theorem State.grantPass_load_none {l : Load} (h : s.load l = .none) : s.grantPass.load l = .none := by
  have first : s.revokeDefrost.load l = .none := by
    rcases s.revokeDefrost_load l with k | ⟨-, -, k, -⟩
    · rw [k, h]
    · rw [h] at k; cases k
  have second : s.revokeDefrost.revokeCompressor.load l = .none := by
    rcases s.revokeDefrost.revokeCompressor_load l with k | ⟨-, -, k, -⟩
    · rw [k, first]
    · rw [first] at k; cases k
  rcases s.grantPass_load_revoked l with k | ⟨w, t, p, k, -⟩
  · rw [k, second]
  · rw [second] at k; cases k

/-- A load released holds no request and no grant (R138). -/
@[simp] theorem State.release_load_self (s : State) (l : Load) : (s.release l).load l = .none := by
  unfold State.release
  split
  · next h => exact h
  · exact State.grantPass_load_none (by simp)

/-- A load without a request that asks for a weight waits for it from now on, or is granted it (R136). -/
theorem State.request_load_of_none {l : Load} (w : Nat) (hd : l ≠ .defrost) (hc : l ≠ .compressor)
    (h : s.load l = .none) :
    (s.request l w).load l = .granted w ∨ (s.request l w).load l = .waiting w 0 false := by
  simp only [State.request, h]
  rcases (s.setLoad l (.waiting w 0 false)).grantPass_load hd hc with k | ⟨w', t, p, hw, -, k⟩
  · exact .inr (by rw [k, State.load_setLoad_self])
  · rw [State.load_setLoad_self] at hw
    cases hw
    exact .inl k

/-- De-energizing gives SPIRAL back (R58, R70). -/
@[simp] theorem State.deenergize_load_spiral (s : State) : s.deenergize.load .spiral = .none :=
  State.release_load_self _ _

/-! ### Notices that stay (R198) -/

/-- The notice stands in the set, its repeated flag clear or set. -/
def State.notes (s : State) (n : Notice) : Prop := ∃ r, (n, r) ∈ s.hli.notices

/-- A raise of another kind leaves a notice in the set. -/
theorem mem_insertNotice_of_ne {n m : Notice} (h : n.kindNo ≠ m.kindNo) {ns : List (Notice × Bool)}
    {r : Bool} (hm : (m, r) ∈ ns) : (m, r) ∈ insertNotice n ns := by
  induction ns with
  | nil => cases hm
  | cons x ns ih =>
    obtain ⟨k, b⟩ := x
    simp only [insertNotice]
    split
    · next e =>
      rcases List.mem_cons.1 hm with hx | hx
      · cases hx; exact absurd e h
      · exact List.mem_cons_of_mem _ hx
    · split
      · exact List.mem_cons_of_mem _ hm
      · rcases List.mem_cons.1 hm with hx | hx
        · cases hx; exact List.mem_cons_self
        · exact List.mem_cons_of_mem _ (ih hx)

theorem State.raise_notes (s : State) (n : Notice) : (s.raise n).notes n := insertNotice_mem n _

theorem State.notes.raise {n m : Notice} (h : s.notes m) (ne : n.kindNo ≠ m.kindNo) :
    (s.raise n).notes m :=
  h.imp fun _ hr => mem_insertNotice_of_ne ne hr

theorem State.notes_congr {t : State} {n : Notice} (h : s.notes n) (e : t.hli.notices = s.hli.notices) :
    t.notes n := by
  unfold State.notes
  rw [e]
  exact h

/-- The exact-change flag's evaluation leaves the notices of other kinds. -/
theorem State.notes.evalExact {m : Notice} (h : s.notes m) (ne : (Notice.exactChange true).kindNo ≠ m.kindNo) :
    s.evalExact.notes m := by
  unfold State.evalExact
  simp only
  split
  · split
    · exact h
    · exact State.notes.raise (s := { s with chu := { s.chu with exactChange := _ } }) h ne
  · exact h

/-- The end of an event leaves the notices of other kinds than SESSION's. -/
theorem State.notes.closeEvent {m : Notice} (h : s.notes m) (before : Session)
    (ne : (Notice.session .idle 0 0).kindNo ≠ m.kindNo) : (s.closeEvent before).notes m := by
  unfold State.closeEvent State.noteSession
  split
  · exact h
  · obtain ⟨_, _, _, e⟩ := (s.raise (.session s.sesc.phase s.sesc.credit s.sesc.escrowValue)).updateMasks_frame
    have raised : (s.raise (.session s.sesc.phase s.sesc.credit s.sesc.escrowValue)).notes m := h.raise ne
    exact State.notes_congr raised (congrArg (·.hli.notices) e)

end Sys2Proof.Machine
end


section
/-! SUPPORT. The events that end the RUNNING entry of the work list (R57 to R68), each brought to the one
operation that ends an entry (R70), and the end of a TEST entry. -/

namespace Sys2Proof.Machine

variable {s : State}

/-! ### Events that end an entry -/

/-- A failure `x` of the turn of an entry: with the mark set the entry ends DELIVERED (R67). -/
def DriveEntry.failed (e : DriveEntry) (x : DriveOutcome) : DriveOutcome :=
  if e.delivered then .delivered else x

/-- The head `e` of the list ends at a command with an outcome, the time having passed to the second state.
The warning's end of it (R71) is apart. -/
inductive EntryEnds (s : State) (e : DriveEntry) : State → Instr → DriveOutcome → Prop
  | power {d : Nat} : s.sdc.powerTimer = some d → EntryEnds s e (s.elapse d) .powerTimerExpiry .noPower
  | leave {d : Nat} : s.sdc.leaveTimer = some d →
      EntryEnds s e (s.elapse d) .leaveTimerExpiry (e.failed .jammed)
  | turn {d : Nat} : s.sdc.turnTimer = some d →
      EntryEnds s e (s.elapse d) .turnTimerExpiry (e.failed .jammed)
  | settle {d : Nat} : s.sdc.settleTimer = some d → e.allowance = 0 →
      EntryEnds s e (s.elapse d) .settleWindowExpiry .noDrop
  | home : s.sdc.seq = .turning → e.delivered = true → EntryEnds s e s .homeSwitchCloses .delivered
  | drop : s.sdc.seq = .settling → s.sdc.curtain = .clear →
      EntryEnds s e s .curtainInterruptionBegins .delivered
  | jam {u : DriveUnit} {code : AdcCode} : s.sdc.energized = some u → s.jamLimit u < currentOf code →
      2 ≤ s.sdc.overCount →
      EntryEnds s e (s.elapse s.msc.sampleLeft) (.currentSample code) (e.failed .jammed)
  | openMotor {u : DriveUnit} {code : AdcCode} : s.sdc.energized = some u →
      currentOf code ≤ s.jamLimit u → s.sdc.sampleCount = 29 → s.sdc.windowBelow = true →
      currentOf code < s.openLimit u →
      EntryEnds s e (s.elapse s.msc.sampleLeft) (.currentSample code) (e.failed .openMotor)

/-- The state at which the entry ends is the one before the command but for the passage of time. -/
theorem EntryEnds.time {e : DriveEntry} {b : State} {c : Instr} {o : DriveOutcome}
    (h : EntryEnds s e b c o) : b = s ∨ ∃ d, b = s.elapse d := by
  cases h with
  | home | drop => exact .inl rfl
  | power | leave | turn | settle | jam | openMotor => exact .inr ⟨_, rfl⟩

theorem State.endFailed_of_list {e : DriveEntry} {rest : List DriveEntry} (o : DriveOutcome)
    (h : s.sdc.list = e :: rest) : s.endFailed o = s.endEntry (e.failed o) := by
  simp only [State.endFailed, State.headDelivered, h, DriveEntry.failed]

/-- A command that is an event of the powered part does its work and closes with the session's notice
(R28). -/
theorem exec_of_event {c : Instr} {f : State → State} {r : State}
    (arm : exec c s = .next (s.event f)) (on : s.power ≠ .off) (acts : f s = r) :
    exec c s = .next (r.closeEvent s.sesc) := by
  rw [arm, ← acts]
  exact congrArg _ (if_neg on)

theorem State.sampled_jams {u : DriveUnit} {i : Nat} (high : s.jamLimit u < i) (two : 2 ≤ s.sdc.overCount) :
    s.takeSample u i = (s.sampled u i).endFailed .jammed := by
  have three : 3 ≤ (s.sampled u i).sdc.overCount := by
    simp only [State.sampled, high, if_true]; omega
  rw [State.takeSample_eq, if_pos three]

theorem State.sampled_open {u : DriveUnit} {i : Nat} (low : i ≤ s.jamLimit u)
    (last : s.sdc.sampleCount = 29) (below : s.sdc.windowBelow = true) (still : i < s.openLimit u) :
    s.takeSample u i = (s.sampled u i).endFailed .openMotor := by
  have zero : (s.sampled u i).sdc.overCount = 0 := by simp [State.sampled, Nat.not_lt.2 low]
  have ends : (s.sampled u i).sdc.sampleCount = 30 ∧ (s.sampled u i).sdc.windowBelow := by
    simp [State.sampled, last, below, still]
  rw [State.takeSample_eq, if_neg (by omega), if_pos ends]

/-- At each such event the operation that ends an entry acts on a state that differs from the one at that
time in the sequencer's own timers, counts and samples. -/
theorem EntryEnds.exec {e : DriveEntry} {rest : List DriveEntry} {b : State} {c : Instr}
    {o : DriveOutcome} (h : EntryEnds s e b c o) (on : s.power ≠ .off) (hl : s.sdc.list = e :: rest) :
    ∃ x : State, x = { b with sdc := x.sdc, msc := x.msc } ∧ x.sdc.list = e :: rest ∧
      exec c s = .next ((x.endEntry o).closeEvent s.sesc) := by
  cases h with
  | @power d ht =>
    refine ⟨s.elapse d, rfl, hl, exec_of_event rfl on ?_⟩
    simp only [State.expire, ht]
  | @leave d ht =>
    refine ⟨s.elapse d, rfl, hl, exec_of_event rfl on ?_⟩
    simp only [State.expire, ht, State.endFailed_of_list (s := s.elapse d) .jammed hl]
  | @turn d ht =>
    refine ⟨s.elapse d, rfl, hl, exec_of_event rfl on ?_⟩
    simp only [State.expire, ht, State.endFailed_of_list (s := s.elapse d) .jammed hl]
  | @settle d ht none =>
    refine ⟨s.elapse d, rfl, hl, exec_of_event rfl on ?_⟩
    have list : (s.elapse d).sdc.list = e :: rest := hl
    simp only [State.expire, ht, State.settleEnds, list, none, Nat.lt_irrefl, if_false]
  | home seq marked =>
    refine ⟨s.setSdc { s.sdc with turnTimer := none }, rfl, hl, exec_of_event rfl on ?_⟩
    simp only [seq, if_true, State.revolution, hl, marked]
  | drop seq clear =>
    refine ⟨s.setCurtain .interrupted (some blockTimerMs), rfl, hl, exec_of_event rfl on ?_⟩
    have settling : (s.setCurtain .interrupted (some blockTimerMs)).sdc.seq = .settling := seq
    simp only [State.curtainBegins, clear, if_true, State.dropEvent, settling]
  | @jam u code on' high two =>
    refine ⟨(s.elapse s.msc.sampleLeft).sampled u (currentOf code), rfl, hl, exec_of_event rfl on ?_⟩
    simp only [on', State.sampled_jams (s := s.elapse s.msc.sampleLeft) high two,
      State.endFailed_of_list (s := (s.elapse s.msc.sampleLeft).sampled u (currentOf code)) .jammed hl]
  | @openMotor u code on' low last below still =>
    refine ⟨(s.elapse s.msc.sampleLeft).sampled u (currentOf code), rfl, hl, exec_of_event rfl on ?_⟩
    simp only [on', State.sampled_open (s := s.elapse s.msc.sampleLeft) low last below still,
      State.endFailed_of_list (s := (s.elapse s.msc.sampleLeft).sampled u (currentOf code)) .openMotor hl]

/-! ### The end of an entry (R70) -/

/-- The unit is de-energized and the entry `e` off the list, its outcome not yet handed on. -/
def State.entryGone (s : State) (rest : List DriveEntry) : State := s.deenergize.setList rest

theorem State.endEntry_of_list {e : DriveEntry} {rest : List DriveEntry} (o : DriveOutcome)
    (h : s.sdc.list = e :: rest) :
    s.endEntry o = (((s.entryGone rest).handOutcome e o).setSdc
      { ((s.entryGone rest).handOutcome e o).sdc with seq := .idle }).takeHead := by
  simp only [State.endEntry, h, State.entryGone]

@[simp] theorem State.entryGone_unchanged (s : State) (rest : List DriveEntry) :
    (s.entryGone rest).settings = s.settings ∧ (s.entryGone rest).selt = s.selt ∧
    (s.entryGone rest).sesc = s.sesc ∧ (s.entryGone rest).chu = s.chu ∧
    (s.entryGone rest).hli = s.hli ∧ (s.entryGone rest).rst = s.rst ∧
    (s.entryGone rest).load .spiral = .none ∧
    (s.entryGone rest).sdc = { s.sdc with
      energized := none, powerTimer := none, leaveTimer := none, turnTimer := none,
      settleTimer := none, list := rest } := by
  have spiral : (s.entryGone rest).load .spiral = .none := s.deenergize_load_spiral
  simp [spiral]
  simp [State.entryGone]

/-- An IDLE sequencer finds nothing to take on an empty list. -/
theorem State.takeHead_of_empty (h : s.sdc.list = []) : s.takeHead = s := by
  simp only [State.takeHead, h, ite_self]

/-- Taking a head energizes nothing and starts no timer but the power timer (R56). -/
@[simp] theorem State.takeHead_sdc (s : State) : s.takeHead.sdc.energized = s.sdc.energized ∧
    s.takeHead.sdc.leaveTimer = s.sdc.leaveTimer ∧ s.takeHead.sdc.turnTimer = s.sdc.turnTimer ∧
    s.takeHead.sdc.settleTimer = s.sdc.settleTimer := by
  unfold State.takeHead
  split
  · split
    · simp [State.editHead]
    · exact ⟨rfl, rfl, rfl, rfl⟩
  · exact ⟨rfl, rfl, rfl, rfl⟩

/-- The head taken is RUNNING, and SPIRAL is asked for with its weight, granted or waiting (R56, R136). -/
theorem State.takeHead_asks {n : DriveEntry} {more : List DriveEntry} (idle : s.sdc.seq = .idle)
    (list : s.sdc.list = n :: more) (free : s.load .spiral = .none) :
    s.takeHead.sdc = { s.sdc with
      list := { n with running := true, delivered := false, revolutions := 0, extra := false } :: more
      seq := .awaitPower
      powerTimer := some 5000 } ∧
    (s.takeHead.load .spiral = .granted (s.spiralWeightOf n.unit) ∨
      s.takeHead.load .spiral = .waiting (s.spiralWeightOf n.unit) 0 false) := by
  rw [State.takeHead_of_idle idle list]
  exact ⟨by simp [powerTimerMs],
    State.request_load_of_none _ (by decide) (by decide) free⟩

/-- The outcome of a TEST entry writes the table alone. -/
theorem State.seltTest_frame (s : State) (row col : Nat) (o : DriveOutcome) :
    s.seltTest row col o = { s with selt := (s.seltTest row col o).selt } := by
  unfold State.seltTest
  split <;> rfl

/-- What SELT does with the outcome of a TEST entry depends on the table alone. -/
theorem State.seltTest_congr {t : State} (h : t.selt = s.selt) (row col : Nat) (o : DriveOutcome) :
    (t.seltTest row col o).selt = (s.seltTest row col o).selt := by
  simp only [State.seltTest, h]
  split
  · simp only [State.setTable_selt, h]
  · exact h

/-- A TEST entry of an address is off the list with its outcome handed on, and the sequencer is IDLE: SELT has
updated the table, and TEST_OUTCOME is raised (R9, R70). -/
def State.testGone (s : State) (rest : List DriveEntry) (row col : Nat) (o : DriveOutcome) : State :=
  { s.entryGone rest with
    selt := (s.seltTest row col o).selt
    hli := (s.raise (.testOutcome row col o)).hli
    sdc := { (s.entryGone rest).sdc with seq := .idle } }

@[simp] theorem State.testGone_unchanged (s : State) (rest : List DriveEntry) (row col : Nat)
    (o : DriveOutcome) :
    (s.testGone rest row col o).settings = s.settings ∧
    (s.testGone rest row col o).selt = (s.seltTest row col o).selt ∧
    (s.testGone rest row col o).sesc = s.sesc ∧ (s.testGone rest row col o).chu = s.chu ∧
    (s.testGone rest row col o).hli = (s.raise (.testOutcome row col o)).hli ∧
    (s.testGone rest row col o).rst = s.rst ∧
    (s.testGone rest row col o).load .spiral = .none ∧
    (s.testGone rest row col o).sdc = { s.sdc with
      energized := none, powerTimer := none, leaveTimer := none, turnTimer := none,
      settleTimer := none, list := rest, seq := .idle } := by
  obtain ⟨set, selt, sesc, chu, hli, rst, spiral, sdc⟩ := s.entryGone_unchanged rest
  exact ⟨set, rfl, sesc, chu, rfl, rst, spiral, by simp only [State.testGone, sdc]⟩

/-- The end of a TEST entry, but for the entry behind it that is taken. -/
theorem State.endEntry_test {e : DriveEntry} {rest : List DriveEntry} {row col : Nat} (o : DriveOutcome)
    (list : s.sdc.list = e :: rest) (origin : e.origin = .test row col) :
    s.endEntry o = (s.testGone rest row col o).takeHead := by
  obtain ⟨_, kept, _, _, hli, _⟩ := s.entryGone_unchanged rest
  have selt := State.seltTest_congr kept row col o
  rw [State.endEntry_of_list o list]
  simp only [State.handOutcome, origin]
  rw [State.seltTest_frame, selt]
  simp only [State.testGone, State.raise, State.setSdc, hli]

/-- Settles O26: each cause is an `EntryEnds`, which brings it to `endEntry`; the end of a TEST entry is then
`testGone` with the next head taken. -/
theorem testEntryEnds : Obligations.TestEntryEnds := by
  intro s b e rest row col c o on hl origin failed cause
  have ends : EntryEnds s e b c o := by
    rcases cause with ⟨rfl, ⟨d, ht, rfl⟩, rfl⟩ | ⟨rfl, ⟨d, ht, rfl⟩, rfl⟩ | ⟨rfl, ⟨d, ht, rfl⟩, rfl⟩ |
      ⟨rfl, ⟨d, ht, rfl⟩, none, rfl⟩ | ⟨rfl, seq, marked, rfl, rfl⟩ | ⟨rfl, seq, clear, rfl, rfl⟩ |
      ⟨u, code, rfl, he, rfl, ⟨high, two, rfl⟩ | ⟨low, last, below, still, rfl⟩⟩
    · exact .power ht
    · exact .leave ht
    · exact .turn ht
    · exact .settle ht none
    · exact .home seq marked
    · exact .drop seq clear
    · exact .jam he high two
    · exact .openMotor he low last below still
  obtain ⟨x, frame, list, run⟩ := ends.exec on hl
  have hsesc : x.sesc = b.sesc := by rw [frame]
  have hchu : x.chu = b.chu := by rw [frame]
  have base : x.selt = s.selt ∧ x.settings = s.settings ∧ x.rst = s.rst ∧
      b.sesc.view = s.sesc.view := by
    rw [frame]
    rcases ends.time with rfl | ⟨d, rfl⟩ <;> exact ⟨rfl, rfl, rfl, rfl⟩
  obtain ⟨hselt, hset, hrst, hview⟩ := base
  obtain ⟨wset, wselt, wsesc, wchu, whli, wrst, wspiral, wsdc⟩ := x.testGone_unchanged rest row col o
  have closed : (x.testGone rest row col o).takeHead.sesc.view = s.sesc.view := by
    simp [hsesc, hview]
  rw [State.endEntry_test o list origin, State.closeEvent_of_view _ closed] at run
  refine ⟨_, run, by simp, by simp, by simp, by simp, ?_, ?_, ?_, ?_, ?_⟩
  · rintro rfl
    rw [State.takeHead_of_empty (by rw [wsdc])]
    exact ⟨by rw [wsdc], by rw [wsdc], by rw [wsdc], wspiral⟩
  · rintro n more rfl
    obtain ⟨sdc, asked⟩ := State.takeHead_asks (by rw [wsdc]) (by rw [wsdc]) wspiral
    rw [State.spiralWeightOf, wset, hset] at asked
    exact ⟨by rw [sdc], by rw [sdc], by rw [sdc], asked⟩
  · simp [State.seltTest_congr hselt]
  · exact State.notes_congr (x.raise_notes (.testOutcome row col o)) (by simp)
  · simp [hsesc, hchu, hset, hrst]

end Sys2Proof.Machine
end


section
/-! SUPPORT. The payout executor and the session at a change payout: what each end and start leaves, and what
it makes of credit (R32, R33, R98, R105). -/

namespace Sys2Proof.Machine

variable {s : State}

/-! ### Ends and starts of payouts -/

/-- The executor's record as the end of a payout leaves it (R105). -/
def Payout.ended (p : Payout) : Payout :=
  { p with
    state := .idle, plan := [], excluded := [], window := none, counted := false, pulse := none,
    pulseNumber := 1, endMark := false, due := 0 }

@[simp] theorem State.evalExact_unchanged (s : State) :
    s.evalExact.settings = s.settings ∧ s.evalExact.sesc = s.sesc ∧ s.evalExact.sdc = s.sdc ∧
    s.evalExact.chu.tubes = s.chu.tubes ∧ s.evalExact.chu.payout = s.chu.payout ∧
    s.evalExact.chu.totals = s.chu.totals ∧ s.evalExact.lba = s.lba ∧ s.evalExact.ztc = s.ztc ∧
    s.evalExact.rfc = s.rfc := by
  obtain ⟨_, _, h⟩ := s.evalExact_frame
  simp [h]

/-- The end of a payout writes the executor, the load given back, its notice and the exact-change flag. -/
@[simp] theorem State.endPayout_unchanged (s : State) (keep : Bool) :
    (s.endPayout keep).settings = s.settings ∧ (s.endPayout keep).sesc = s.sesc ∧
    (s.endPayout keep).sdc = s.sdc ∧ (s.endPayout keep).chu.tubes = s.chu.tubes ∧
    (s.endPayout keep).chu.payout = s.chu.payout.ended ∧
    (s.endPayout keep).chu.totals = s.chu.totals ∧ (s.endPayout keep).ztc = s.ztc := by
  cases keep <;> simp [State.endPayout, Payout.ended]

/-- A notice that no end of a payout writes: neither PAYOUT nor EXACT_CHANGE. -/
def Notice.offPayout (m : Notice) : Prop := m.kindNo ≠ 3 ∧ m.kindNo ≠ 7

theorem State.notes.release {m : Notice} (h : s.notes m) (l : Load) : (s.release l).notes m :=
  State.notes_congr h (by simp)

theorem State.notes.endPayout {m : Notice} (h : s.notes m) (ne : m.offPayout) (keep : Bool) :
    (s.endPayout keep).notes m := by
  have ended : (if keep then s.setPayout s.chu.payout.ended
      else (s.setPayout s.chu.payout.ended).release .payout).notes m := by
    split
    · exact h
    · exact State.notes.release (s := s.setPayout s.chu.payout.ended) h .payout
  exact State.notes.evalExact (ended.raise (n := .payout _ _ _) ne.1.symm) ne.2.symm

/-- The end of a payout raises its notice (R105). -/
theorem State.endPayout_notes (s : State) (keep : Bool) : (s.endPayout keep).notes
    (.payout s.chu.payout.paid (s.chu.payout.amount - s.chu.payout.paid) s.chu.payout.overpaid) :=
  State.notes.evalExact (State.raise_notes _ _) (by simp [Notice.kindNo])

@[simp] theorem State.creditOrIdle_unchanged (s : State) :
    s.creditOrIdle.settings = s.settings ∧ s.creditOrIdle.sdc = s.sdc ∧ s.creditOrIdle.chu = s.chu ∧
    s.creditOrIdle.lba = s.lba ∧ s.creditOrIdle.ztc = s.ztc ∧ s.creditOrIdle.rfc = s.rfc ∧
    s.creditOrIdle.hli = s.hli ∧ s.creditOrIdle.sesc.credit = s.sesc.credit := by
  unfold State.creditOrIdle
  split <;> exact ⟨rfl, rfl, rfl, rfl, rfl, rfl, rfl, rfl⟩

/-- With credit left the session stands in CASH_CREDIT, with what it held (R32, R105). -/
theorem State.creditOrIdle_of_credit (h : s.sesc.credit ≠ 0) : s.creditOrIdle.sesc =
    { s.sesc with phase := .cashCredit, inactivity := s.fullInactivity } := by
  rw [State.creditOrIdle, if_neg h]
  rfl

/-- Without credit the session closes (R32, R105). -/
theorem State.creditOrIdle_of_none (h : s.sesc.credit = 0) : s.creditOrIdle.sesc =
    { s.sesc with
      phase := .idle, escrow := none, authorized := none, pendingVend := none, inactivity := none } := by
  rw [State.creditOrIdle, if_pos h]
  rfl

/-- The plan of a change payout of an amount (R98). -/
def State.changePlan (s : State) (n : Nat) : List PlanEntry :=
  (planFor s.chu.tubes [] n s.settings.coinLimit).1

/-- The executor's record at the start of a change payout (R98). -/
def State.changeRecord (s : State) (n : Nat) : Payout :=
  { s.chu.payout with
    state := .awaitPower, kind := .change, amount := n, plan := s.changePlan n,
    limit := s.settings.coinLimit, confirmed := 0, paid := 0, overpaid := 0, excluded := [],
    pulseNumber := 1, window := none, counted := false, pulse := none, endMark := false, due := 0 }

/-- A change payout that can pay nothing ends at once (R98). -/
theorem State.startChange_of_nothing {n : Nat} (h : s.changePlan n = []) (granted : Bool) :
    s.startChange n granted = (s.setPayout (s.changeRecord n)).endChange := if_pos h

/-- A change payout with coins to pay asks for its load (R98). -/
theorem State.startChange_of_coins {n : Nat} (h : s.changePlan n ≠ []) :
    s.startChange n false =
      (s.setPayout (s.changeRecord n)).request .payout s.settings.payoutWeight := if_neg h

/-! ### Credit paid out -/

/-- A session with credit is being paid out: the change payout waits for its load, or for the end of the
SERVICE payout that is EJECTING, or it could pay nothing and has ended (R32, R98, R107). -/
def State.PaysOut (s t : State) : Prop :=
  let amount := t.sesc.credit.toNat
  let plan := (planFor s.chu.tubes [] amount s.settings.coinLimit).1
  (s.chu.payout.state = .ejecting → t.sesc.phase = .paying ∧ t.chu.payout.state = .ejecting ∧
    t.chu.payout.endMark = true ∧ t.chu.payout.due = amount) ∧
  (s.chu.payout.state ≠ .ejecting →
    (plan ≠ [] → t.sesc.phase = .paying ∧ t.chu.payout.state = .awaitPower ∧
      t.chu.payout.kind = .change ∧ t.chu.payout.amount = amount ∧ t.chu.payout.plan = plan) ∧
    (plan = [] → t.sesc.phase = .cashCredit ∧ t.chu.payout.state = .idle ∧
      ∃ r, (Notice.payout 0 amount 0, r) ∈ t.hli.notices))

/-- A session has been settled: paid out where it held credit, closed where it held none. -/
structure State.Settled (s t : State) : Prop where
  settings : t.settings = s.settings
  sdc : t.sdc = s.sdc
  totals : t.chu.totals = s.chu.totals
  credit : t.sesc.credit = s.sesc.credit
  authorized : t.sesc.authorized = none
  pendingVend : t.sesc.pendingVend = none
  closes : s.sesc.credit = 0 → t.sesc.phase = .idle
  pays : s.sesc.credit ≠ 0 → s.PaysOut t
  notes : ∀ m : Notice, m.offPayout → s.notes m → t.notes m

theorem State.notes.endChange {m : Notice} (h : s.notes m) (ne : m.offPayout) :
    s.endChange.notes m :=
  State.notes_congr (h.endPayout ne false) (by simp [State.endChange])

theorem State.notes.startChange {m : Notice} (h : s.notes m) (ne : m.offPayout) (n : Nat) :
    (s.startChange n false).notes m := by
  by_cases plan : s.changePlan n = []
  · rw [State.startChange_of_nothing plan]
    exact State.notes.endChange (s := s.setPayout (s.changeRecord n)) h ne
  · rw [State.startChange_of_coins plan]
    exact State.notes_congr h (by simp)

/-- A change payout writes no total, no setting and no entry of the work list. -/
@[simp] theorem State.startChange_unchanged (s : State) (n : Nat) (granted : Bool) :
    (s.startChange n granted).settings = s.settings ∧ (s.startChange n granted).sdc = s.sdc ∧
    (s.startChange n granted).chu.totals = s.chu.totals ∧
    (s.startChange n granted).ztc = s.ztc := by
  obtain ⟨_, _, _, _, _, _, _, h⟩ := s.startChange_frame n granted
  simp [h]

/-- With coins to pay the session stays as it stood, and the executor waits for its load (R98). -/
theorem State.startChange_waits {n : Nat} (h : s.changePlan n ≠ []) :
    (s.startChange n false).sesc = s.sesc ∧
    (s.startChange n false).chu.payout = s.changeRecord n := by
  simp [State.startChange_of_coins h]

/-- With none the payout has ended with nothing paid, and a session with credit is back in CASH_CREDIT
(R98, R105). -/
theorem State.startChange_ends {n : Nat} (h : s.changePlan n = []) (credit : s.sesc.credit ≠ 0) :
    (∃ i, (s.startChange n false).sesc = { s.sesc with phase := .cashCredit, inactivity := i }) ∧
    (s.startChange n false).chu.payout.state = .idle ∧
    (s.startChange n false).notes (.payout 0 n 0) := by
  rw [State.startChange_of_nothing h]
  have ended := (s.setPayout (s.changeRecord n)).endPayout_unchanged false
  obtain ⟨-, sesc, -, -, payout, -, -⟩ := ended
  have held : ((s.setPayout (s.changeRecord n)).endPayout false).sesc.credit ≠ 0 := by
    rw [sesc]; exact credit
  refine ⟨⟨((s.setPayout (s.changeRecord n)).endPayout false).fullInactivity, ?_⟩, ?_, ?_⟩
  · exact (State.creditOrIdle_of_credit held).trans (by rw [sesc]; rfl)
  · simp [State.endChange, Payout.ended]
  · exact State.notes_congr ((s.setPayout (s.changeRecord n)).endPayout_notes false)
      (by simp [State.endChange])

/-- The change payout of the whole credit, no SERVICE payout being EJECTING. -/
theorem State.startChange_settled (credit : s.sesc.credit ≠ 0) (phase : s.sesc.phase = .paying)
    (none : s.sesc.authorized = none) (free : s.sesc.pendingVend = .none)
    (still : s.chu.payout.state ≠ .ejecting) :
    s.Settled (s.startChange s.sesc.credit.toNat false) := by
  by_cases plan : s.changePlan s.sesc.credit.toNat = []
  · obtain ⟨⟨i, sesc⟩, state, note⟩ := State.startChange_ends plan credit
    refine ⟨by simp, by simp, by simp, by rw [sesc], by rw [sesc]; exact none, by rw [sesc]; exact free,
      fun h => absurd h credit, fun _ => ⟨fun h => absurd h still, fun _ => ?_⟩,
      fun m ne h => h.startChange ne _⟩
    rw [sesc]
    exact ⟨fun h => absurd plan h, fun _ => ⟨rfl, state, note⟩⟩
  · obtain ⟨sesc, payout⟩ := State.startChange_waits plan
    refine ⟨by simp, by simp, by simp, by rw [sesc], by rw [sesc]; exact none, by rw [sesc]; exact free,
      fun h => absurd h credit, fun _ => ⟨fun h => absurd h still, fun _ => ?_⟩,
      fun m ne h => h.startChange ne _⟩
    rw [sesc, payout]
    exact ⟨fun _ => ⟨phase, rfl, rfl, rfl, rfl⟩, fun h => absurd h plan⟩

/-- A session settled from a state with the same money, tubes and executor is settled from this one. -/
theorem State.Settled.of_same {b t : State} (h : b.Settled t) (settings : b.settings = s.settings)
    (sdc : b.sdc = s.sdc) (totals : b.chu.totals = s.chu.totals) (credit : b.sesc.credit = s.sesc.credit)
    (tubes : b.chu.tubes = s.chu.tubes)
    (state : b.chu.payout.state = .ejecting ↔ s.chu.payout.state = .ejecting)
    (notes : ∀ m : Notice, m.offPayout → s.notes m → b.notes m) : s.Settled t where
  settings := h.settings.trans settings
  sdc := h.sdc.trans sdc
  totals := h.totals.trans totals
  credit := h.credit.trans credit
  authorized := h.authorized
  pendingVend := h.pendingVend
  closes none := h.closes (credit.trans none)
  pays some := by
    have pays := h.pays (by rw [credit]; exact some)
    simp only [State.PaysOut, state, tubes, settings, ne_eq] at pays
    exact pays
  notes m ne held := h.notes m ne (notes m ne held)

/-- A session in PAYING hands its credit to the executor (R32, R98, R107). -/
theorem State.payCredit_settled (credit : s.sesc.credit ≠ 0) (phase : s.sesc.phase = .paying)
    (none : s.sesc.authorized = none) (free : s.sesc.pendingVend = .none) : s.Settled s.payCredit := by
  cases state : s.chu.payout.state with
  | idle =>
    simp only [State.payCredit, state]
    exact State.startChange_settled credit phase none free (by rw [state]; decide)
  | awaitPower =>
    obtain ⟨settings, sesc, sdc, tubes, payout, totals, -⟩ := s.endPayout_unchanged false
    have idle : (s.endPayout false).chu.payout.state = .idle := by rw [payout]; rfl
    have settled := State.startChange_settled (s := s.endPayout false) (by rw [sesc]; exact credit)
      (by rw [sesc]; exact phase) (by rw [sesc]; exact none) (by rw [sesc]; exact free)
      (by rw [idle]; decide)
    rw [sesc] at settled
    simp only [State.payCredit, state]
    exact settled.of_same settings sdc totals (by rw [sesc]) tubes (by rw [idle, state]; decide)
      fun m ne held => held.endPayout ne false
  | ejecting =>
    have marks : s.payCredit = s.setPayout { s.chu.payout with
        endMark := true, due := s.sesc.credit.toNat } := by simp only [State.payCredit, state]
    rw [marks]
    exact ⟨rfl, rfl, rfl, rfl, none, free, fun h => absurd h credit,
      fun _ => ⟨fun _ => ⟨phase, state, rfl, rfl⟩, fun h => absurd state h⟩, fun _ _ held => held⟩

/-- PAYING with credit, IDLE without (R33, R39). -/
theorem State.payOrIdle_settled (s : State) : s.Settled s.payOrIdle := by
  unfold State.payOrIdle
  split
  · next credit =>
    exact ⟨rfl, rfl, rfl, rfl, rfl, rfl, fun _ => rfl, fun h => absurd credit h, fun _ _ held => held⟩
  · next credit =>
    exact (State.payCredit_settled (s := s.setSesc { s.sesc with
      phase := .paying, kind := .cash, escrow := none, authorized := none, pendingVend := none,
      inactivity := none }) credit rfl rfl rfl).of_same rfl rfl rfl rfl rfl Iff.rfl
        fun _ _ held => held

end Sys2Proof.Machine
end


section
/-! SUPPORT. The outcome of a VEND entry: what the session makes of each (R39 to R42), and the end of a VEND
entry alone on the list. -/

namespace Sys2Proof.Machine

variable {s : State}

/-! ### Settling -/

/-- A CASHLESS session settles (R33). -/
theorem State.settle_settled (s : State) (c : Nat) :
    (s.raise (.cashlessSettle c)).Settled (s.settle c) :=
  (State.payOrIdle_settled _).of_same rfl rfl rfl rfl rfl Iff.rfl fun _ _ held => held

theorem State.settle_notes (s : State) (c : Nat) : (s.settle c).notes (.cashlessSettle c) :=
  (s.settle_settled c).notes _ ⟨by simp [Notice.kindNo], by simp [Notice.kindNo]⟩ (State.raise_notes _ _)

/-- Settling leaves the notices of other kinds than its own and those of payouts. -/
theorem State.notes.settle {m : Notice} (h : s.notes m) (ne : m.offPayout) (apart : m.kindNo ≠ 4)
    (c : Nat) : (s.settle c).notes m :=
  (s.settle_settled c).notes _ ne (h.raise apart.symm)

theorem State.PaysOut.of_same {b t : State} (h : b.PaysOut t) (settings : b.settings = s.settings)
    (tubes : b.chu.tubes = s.chu.tubes) (state : b.chu.payout.state = s.chu.payout.state) :
    s.PaysOut t := by
  simp only [State.PaysOut, state, tubes, settings] at h
  exact h

theorem Notice.vendOutcome_offPayout (code i : Nat) (o : VendOutcome) (c : Nat) :
    (Notice.vendOutcome code i o c).offPayout := ⟨by simp [Notice.kindNo], by simp [Notice.kindNo]⟩

/-! ### The outcome of a vend (R39 to R42) -/

/-- A DELIVERED vend of a CASH session, charged and reported (R39). -/
def State.charged (s : State) (v : PendingVend) : State :=
  (s.chargeCash v.price).reportVend v (.drive .delivered) v.price

/-- What a DELIVERED vend leaves in a CASH session (R32, R39). -/
theorem State.vendDelivered_cash (v : PendingVend) (kind : s.sesc.kind = .cash) :
    (s.vendDelivered v).sdc = s.sdc ∧ (s.vendDelivered v).sesc.pendingVend = none ∧
    (s.vendDelivered v).notes (.vendOutcome v.code v.index (.drive .delivered) v.price) ∧
    (s.vendDelivered v).sesc.credit = s.sesc.credit - money v.price ∧
    (s.vendDelivered v).chu.totals =
      { s.chu.totals with cashSales := s.chu.totals.cashSales + money v.price } ∧
    (s.sesc.credit - money v.price = 0 → (s.vendDelivered v).sesc.phase = .idle) ∧
    (s.sesc.credit - money v.price ≠ 0 → s.settings.multiVend = true →
      (s.vendDelivered v).sesc.phase = .cashCredit) ∧
    (s.sesc.credit - money v.price ≠ 0 → s.settings.multiVend = false →
      s.PaysOut (s.vendDelivered v)) := by
  have eq : s.vendDelivered v =
      if s.settings.multiVend then (s.charged v).creditOrIdle else (s.charged v).payOrIdle := by
    simp only [State.vendDelivered, kind]
    rfl
  have note : (s.charged v).notes (.vendOutcome v.code v.index (.drive .delivered) v.price) :=
    State.raise_notes _ _
  have vend : (s.charged v).sesc.pendingVend = none := rfl
  cases multi : s.settings.multiVend with
  | true =>
    rw [eq, multi, if_pos rfl]
    obtain ⟨-, sdc, chu, -, -, -, hli, credit⟩ := (s.charged v).creditOrIdle_unchanged
    refine ⟨sdc, ?_, State.notes_congr note (by rw [hli]), credit, by rw [chu]; rfl, fun zero => ?_,
      fun some _ => ?_, fun _ h => by cases h⟩
    · by_cases zero : (s.charged v).sesc.credit = 0
      · rw [State.creditOrIdle_of_none zero]
      · rw [State.creditOrIdle_of_credit zero]; exact vend
    · rw [State.creditOrIdle_of_none zero]
    · rw [State.creditOrIdle_of_credit some]
  | false =>
    rw [eq, multi]
    have settled := (s.charged v).payOrIdle_settled
    exact ⟨settled.sdc, settled.pendingVend, settled.notes _ (Notice.vendOutcome_offPayout _ _ _ _) note, settled.credit,
      settled.totals, settled.closes, fun _ h => (by cases h),
      fun some _ => (settled.pays some).of_same rfl rfl rfl⟩

/-- What a DELIVERED vend leaves in a CASHLESS session (R33, R39). -/
theorem State.vendDelivered_cashless (v : PendingVend) (kind : s.sesc.kind = .cashless) :
    (s.vendDelivered v).sdc = s.sdc ∧ (s.vendDelivered v).sesc.pendingVend = none ∧
    (s.vendDelivered v).notes (.vendOutcome v.code v.index (.drive .delivered) v.price) ∧
    (s.vendDelivered v).sesc.credit = s.sesc.credit ∧
    (s.vendDelivered v).sesc.authorized = none ∧
    (s.vendDelivered v).chu.totals =
      { s.chu.totals with cashlessSales := s.chu.totals.cashlessSales + money v.price } ∧
    (s.vendDelivered v).notes (.cashlessSettle v.price) ∧
    (s.sesc.credit = 0 → (s.vendDelivered v).sesc.phase = .idle) ∧
    (s.sesc.credit ≠ 0 → s.PaysOut (s.vendDelivered v)) := by
  have eq : s.vendDelivered v =
      ((s.chargeCashless v.price).reportVend v (.drive .delivered) v.price).settle v.price := by
    simp only [State.vendDelivered, kind]
  have note : ((s.chargeCashless v.price).reportVend v (.drive .delivered) v.price).notes
      (.vendOutcome v.code v.index (.drive .delivered) v.price) := State.raise_notes _ _
  have settled :=
    ((s.chargeCashless v.price).reportVend v (.drive .delivered) v.price).settle_settled v.price
  rw [eq]
  exact ⟨settled.sdc, settled.pendingVend,
    note.settle (Notice.vendOutcome_offPayout _ _ _ _) (by simp [Notice.kindNo]) _, settled.credit,
    settled.authorized, settled.totals, State.settle_notes _ _, settled.closes,
    fun some => (settled.pays some).of_same rfl rfl rfl⟩

/-- What a vend without delivery leaves (R33, R41). -/
theorem State.vendFailed_leaves (s : State) (v : PendingVend) (o : DriveOutcome) :
    (s.vendFailed v o).sdc = s.sdc ∧ (s.vendFailed v o).sesc.pendingVend = none ∧
    (s.vendFailed v o).notes (.vendOutcome v.code v.index (.drive o) 0) ∧
    (s.vendFailed v o).sesc.credit = s.sesc.credit ∧
    (s.vendFailed v o).chu.totals = s.chu.totals ∧
    (s.sesc.kind = .cash → (s.vendFailed v o).sesc.phase = .cashCredit) ∧
    (s.sesc.kind = .cashless → (s.vendFailed v o).sesc.authorized = none ∧
      (s.vendFailed v o).notes (.cashlessSettle 0) ∧
      (s.sesc.credit = 0 → (s.vendFailed v o).sesc.phase = .idle) ∧
      (s.sesc.credit ≠ 0 → s.PaysOut (s.vendFailed v o))) := by
  have note : (s.reportVend v (.drive o) 0).notes (.vendOutcome v.code v.index (.drive o) 0) :=
    State.raise_notes _ _
  cases kind : s.sesc.kind with
  | cash =>
    have eq : s.vendFailed v o = (s.reportVend v (.drive o) 0).backToCredit := by
      have same : (s.reportVend v (.drive o) 0).sesc.kind = .cash := kind
      simp only [State.vendFailed, same]
    rw [eq]
    exact ⟨rfl, rfl, note, rfl, rfl, fun _ => rfl, fun h => (by cases h)⟩
  | cashless =>
    have eq : s.vendFailed v o = (s.reportVend v (.drive o) 0).settle 0 := by
      have same : (s.reportVend v (.drive o) 0).sesc.kind = .cashless := kind
      simp only [State.vendFailed, same]
    have settled := (s.reportVend v (.drive o) 0).settle_settled 0
    rw [eq]
    exact ⟨settled.sdc, settled.pendingVend,
      note.settle (Notice.vendOutcome_offPayout _ _ _ _) (by simp [Notice.kindNo]) _, settled.credit,
      settled.totals, fun h => (by cases h), fun _ => ⟨settled.authorized, State.settle_notes _ _,
        settled.closes, fun some => (settled.pays some).of_same rfl rfl rfl⟩⟩

/-! ### Failover (R40) -/

/-- The position a failed vend goes on to: failover is on, the flag clear, and a position usable. -/
theorem State.failoverFor_eq (s : State) (v : PendingVend) : s.failoverFor v =
    if s.settings.failover = true ∧ v.failoverUsed = false then
      (findSel s.selt.table v.code).bind Selection.choose
    else none := by
  unfold State.failoverFor
  cases s.settings.failover <;> cases v.failoverUsed <;> simp
  cases findSel s.selt.table v.code <;> rfl

/-- The pending vend gone on to another position (R40). -/
def PendingVend.failedOver (v : PendingVend) (k : Nat) (p : Position) : PendingVend :=
  { v with index := k, unit := p.unit, turns := p.turns, failoverUsed := true }

/-- Only JAMMED, OPEN_MOTOR and NO_DROP fail over (R40). -/
def DriveOutcome.failsOver (o : DriveOutcome) : Prop := o = .jammed ∨ o = .openMotor ∨ o = .noDrop

theorem State.takeVendOutcome_delivered {v : PendingVend} (h : s.sesc.pendingVend = some v) :
    s.takeVendOutcome .delivered = (s.seltVend v.code v.index .delivered).vendDelivered v := by
  simp only [State.takeVendOutcome, h]

/-- A vend that goes on: its entry is enqueued for the new position (R40). -/
theorem State.takeVendOutcome_failover {v : PendingVend} {o : DriveOutcome} {k : Nat} {p : Position}
    (h : s.sesc.pendingVend = some v) (fails : o.failsOver)
    (found : (s.seltVend v.code v.index o).failoverFor v = some (k, p)) :
    s.takeVendOutcome o = ((s.seltVend v.code v.index o).setSesc
      { s.sesc with pendingVend := some (v.failedOver k p) }).enqueue (v.failedOver k p) := by
  rcases fails with rfl | rfl | rfl <;>
    simp only [State.takeVendOutcome, h, State.vendJammed, found] <;> rfl

/-- A vend that ends without delivery (R41). -/
theorem State.takeVendOutcome_ends {v : PendingVend} {o : DriveOutcome}
    (h : s.sesc.pendingVend = some v) (ne : o ≠ .delivered)
    (stays : o.failsOver → (s.seltVend v.code v.index o).failoverFor v = none) :
    s.takeVendOutcome o = (s.seltVend v.code v.index o).vendFailed v o := by
  cases o with
  | delivered => exact absurd rfl ne
  | jammed => simp only [State.takeVendOutcome, h, State.vendJammed, stays (.inl rfl)]
  | openMotor => simp only [State.takeVendOutcome, h, State.vendJammed, stays (.inr (.inl rfl))]
  | noDrop => simp only [State.takeVendOutcome, h, State.vendJammed, stays (.inr (.inr rfl))]
  | noPower => simp only [State.takeVendOutcome, h]
  | interrupted => simp only [State.takeVendOutcome, h]

/-! ### The end of a VEND entry alone on the list (R70) -/

/-- The state `t` is `w` with the sequencer IDLE and the event closed. -/
structure State.Over (w t : State) : Prop where
  sesc : t.sesc = w.sesc
  totals : t.chu.totals = w.chu.totals
  payout : t.chu.payout = w.chu.payout
  sdc : t.sdc = { w.sdc with seq := .idle }
  notes : ∀ m : Notice, m.kindNo ≠ 2 → w.notes m → t.notes m

theorem State.over_of_empty {w : State} (before : Session) (empty : w.sdc.list = []) :
    w.Over ((w.setSdc { w.sdc with seq := .idle }).takeHead.closeEvent before) := by
  rw [State.takeHead_of_empty (s := w.setSdc { w.sdc with seq := .idle }) empty]
  refine ⟨by simp, by simp, by simp, by simp, fun m ne held => ?_⟩
  exact State.notes.closeEvent (s := w.setSdc { w.sdc with seq := .idle }) held before ne.symm

theorem State.PaysOut.over {w t : State} (h : s.PaysOut w) (close : w.Over t) : s.PaysOut t := by
  unfold State.PaysOut at h ⊢
  rw [close.sesc, close.payout]
  obtain ⟨ejecting, free⟩ := h
  refine ⟨ejecting, fun still => ?_⟩
  obtain ⟨coins, nothing⟩ := free still
  refine ⟨coins, fun none => ?_⟩
  obtain ⟨phase, state, note⟩ := nothing none
  exact ⟨phase, state, close.notes _ (by simp [Notice.kindNo]) note⟩

/-- SELT has taken the outcome of the VEND entry, which is off the list: the session's part is still to
come (R70). -/
def State.vendGone (s : State) (v : PendingVend) (o : DriveOutcome) : State :=
  (s.entryGone []).seltVend v.code v.index o

@[simp] theorem State.vendGone_unchanged (s : State) (v : PendingVend) (o : DriveOutcome) :
    (s.vendGone v o).settings = s.settings ∧
    (s.vendGone v o).selt = (s.seltVend v.code v.index o).selt ∧
    (s.vendGone v o).sesc = s.sesc ∧ (s.vendGone v o).chu = s.chu ∧
    (s.vendGone v o).sdc = { s.sdc with
      energized := none, powerTimer := none, leaveTimer := none, turnTimer := none,
      settleTimer := none, list := [] } := by
  obtain ⟨set, selt, sesc, chu, -, -, -, sdc⟩ := s.entryGone_unchanged []
  exact ⟨set, by simp only [State.vendGone, State.seltVend, State.setTable_selt, selt], sesc, chu, sdc⟩

/-- The end of the one VEND entry of the list, its vend pending. -/
theorem State.endEntry_vend {e : DriveEntry} {code i : Nat} (o : DriveOutcome)
    (list : s.sdc.list = [e]) (origin : e.origin = .vend code i) :
    s.endEntry o = (((s.entryGone []).takeVendOutcome o).setSdc
      { ((s.entryGone []).takeVendOutcome o).sdc with seq := .idle }).takeHead := by
  rw [State.endEntry_of_list o list]
  simp only [State.handOutcome, origin]

/-- What SELT does with the outcome of a VEND entry depends on the table alone. -/
theorem State.seltVend_congr {t : State} (h : t.selt = s.selt) (code i : Nat) (o : DriveOutcome) :
    (t.seltVend code i o).selt = (s.seltVend code i o).selt := by
  simp only [State.seltVend, State.setTable_selt, h]

/-- A vend gone on: its entry for the new position is alone on the list, and an IDLE sequencer takes it
(R40, R56). -/
theorem State.failover_takes {w t : State} {x : Session} {v : PendingVend} {before : Session}
    (empty : s.sdc.list = []) (gone : w = (s.setSesc x).enqueue v)
    (ends : t = (w.setSdc { w.sdc with seq := .idle }).takeHead.closeEvent before) :
    t.sesc = x ∧ t.chu.totals = s.chu.totals ∧ t.sdc.energized = s.sdc.energized ∧
      t.sdc.seq = .awaitPower ∧
      t.sdc.list =
        [⟨.vend v.code v.index, v.unit, v.turns, s.settings.extraTurns, true, false, 0, false⟩] := by
  have list : w.sdc.list = [s.vendEntry v] := by
    simp only [gone, State.enqueue_unchanged, State.setSesc_sdc, empty]
    rfl
  have taken := State.takeHead_of_idle (s := w.setSdc { w.sdc with seq := .idle }) rfl list
  rw [ends, taken]
  simp [gone, State.vendEntry]

/-- Settles O27: each cause is an `EntryEnds`; the outcome then charges the vend, moves it to its failover
position or ends it, and the sequencer is IDLE or has taken the new entry. -/
theorem vendEnds : Obligations.VendEnds := by
  intro s e v code i c o on hl origin pending failed cause
  obtain ⟨b, ends⟩ : ∃ b, EntryEnds s e b c o := by
    rcases cause with ⟨rfl, ht, rfl⟩ | ⟨rfl, ht, rfl⟩ | ⟨rfl, ht, rfl⟩ | ⟨rfl, ht, none, rfl⟩ |
      ⟨rfl, seq, marked, rfl⟩ | ⟨rfl, seq, clear, rfl⟩ |
      ⟨u, k, rfl, he, ⟨high, two, rfl⟩ | ⟨low, last, below, still, rfl⟩⟩
    · exact ⟨_, .power (Option.some_get ht).symm⟩
    · exact ⟨_, .leave (Option.some_get ht).symm⟩
    · exact ⟨_, .turn (Option.some_get ht).symm⟩
    · exact ⟨_, .settle (Option.some_get ht).symm none⟩
    · exact ⟨_, .home seq marked⟩
    · exact ⟨_, .drop seq clear⟩
    · exact ⟨_, .jam he high two⟩
    · exact ⟨_, .openMotor he low last below still⟩
  obtain ⟨x, frame, list, run⟩ := ends.exec on hl
  have base : x.selt = s.selt ∧ x.settings = s.settings ∧ x.chu.tubes = s.chu.tubes ∧
      x.chu.totals = s.chu.totals ∧ x.chu.payout.state = s.chu.payout.state ∧
      ∃ n, x.sesc = { s.sesc with inactivity := n } := by
    rw [frame]
    rcases ends.time with rfl | ⟨d, rfl⟩ <;> exact ⟨rfl, rfl, rfl, rfl, rfl, _, rfl⟩
  obtain ⟨hselt, hset, htubes, htotals, hpay, n, hsesc⟩ := base
  obtain ⟨yset, yselt, ysesc, ychu, ysdc⟩ := x.vendGone_unchanged v o
  obtain ⟨-, kept, xsesc, -⟩ := x.entryGone_unchanged []
  have ypending : (x.entryGone []).sesc.pendingVend = some v := by simp [hsesc, pending]
  obtain ⟨t, ht⟩ : ∃ t, t = (x.endEntry o).closeEvent s.sesc := ⟨_, rfl⟩
  rw [← ht] at run
  rw [State.endEntry_vend o list origin] at ht
  intro u found failover paysOut
  refine ⟨t, run, ?_, fun delivered => ?_, fun undelivered => ?_⟩
  · obtain ⟨tables, -⟩ := (x.entryGone []).takeVendOutcome_tables v o ypending
    have seen := State.seltVend_congr kept v.code v.index o
    simp only [ht, State.closeEvent_unchanged, State.takeHead_unchanged, State.setSdc_selt, tables, seen]
    exact State.seltVend_congr hselt v.code v.index o
  · subst delivered
    have handed : (x.entryGone []).takeVendOutcome .delivered =
        (x.vendGone v .delivered).vendDelivered v := State.takeVendOutcome_delivered ypending
    rw [handed] at ht
    cases kind : s.sesc.kind with
    | cash =>
      obtain ⟨sdc, free, note, credit, totals, closes, keeps, pays⟩ :=
        State.vendDelivered_cash (s := x.vendGone v .delivered) v (by rw [ysesc, hsesc]; exact kind)
      have close : ((x.vendGone v .delivered).vendDelivered v).Over t := by
        rw [ht]; exact State.over_of_empty _ (by rw [sdc, ysdc])
      simp only [ysesc, hsesc, ychu, htotals, yset, hset] at credit totals closes keeps pays
      simp only [close.sesc, close.totals, close.sdc, sdc, ysdc, free, credit, totals, true_and]
      exact ⟨close.notes _ (by simp [Notice.kindNo]) note, fun _ => ⟨closes, keeps,
        fun some multi => ((pays some multi).of_same (by rw [yset, hset]) (by rw [ychu, htubes])
          (by rw [ychu, hpay])).over close⟩, fun h => (by cases h)⟩
    | cashless =>
      obtain ⟨sdc, free, note, credit, none, totals, settle, closes, pays⟩ :=
        State.vendDelivered_cashless (s := x.vendGone v .delivered) v
          (by rw [ysesc, hsesc]; exact kind)
      have close : ((x.vendGone v .delivered).vendDelivered v).Over t := by
        rw [ht]; exact State.over_of_empty _ (by rw [sdc, ysdc])
      simp only [ysesc, hsesc, ychu, htotals] at credit totals closes pays
      simp only [close.sesc, close.totals, close.sdc, sdc, ysdc, free, none, credit, totals, true_and]
      exact ⟨close.notes _ (by simp [Notice.kindNo]) note, fun h => (by cases h), fun _ =>
        ⟨close.notes _ (by simp [Notice.kindNo]) settle, closes,
        fun some => ((pays some).of_same (by rw [yset, hset]) (by rw [ychu, htubes])
          (by rw [ychu, hpay])).over close⟩⟩
  · have found_eq : (x.vendGone v o).failoverFor v =
        if s.settings.failover = true ∧ v.failoverUsed = false then found else none := by
      rw [State.failoverFor_eq, yselt, yset, hset, State.seltVend_congr hselt]
    by_cases going : failover
    · obtain ⟨fails, turned, unused, usable⟩ := going
      obtain ⟨⟨k, p⟩, hkp⟩ := Option.isSome_iff_exists.1 usable
      rw [if_pos ⟨turned, unused⟩, hkp] at found_eq
      obtain ⟨sesc, totals, unit, seq, entry⟩ := State.failover_takes (s := x.vendGone v o)
        (by rw [ysdc]) (State.takeVendOutcome_failover ypending fails found_eq) ht
      refine ⟨by rw [sesc, xsesc, hsesc], by rw [totals, ychu, htotals], by rw [unit, ysdc],
        fun _ k' p' at_kp => ?_, fun h => absurd ⟨fails, turned, unused, usable⟩ h⟩
      obtain ⟨rfl, rfl⟩ : k = k' ∧ p = p' := by
        rw [hkp] at at_kp
        simpa using at_kp
      rw [sesc, entry, seq, xsesc, hsesc, yset, hset]
      exact ⟨rfl, rfl, rfl, rfl⟩
    · have handed : (x.entryGone []).takeVendOutcome o = (x.vendGone v o).vendFailed v o := by
        refine State.takeVendOutcome_ends ypending undelivered fun fails => ?_
        change (x.vendGone v o).failoverFor v = none
        rw [found_eq]
        split
        · next on =>
          obtain ⟨turned, unused⟩ := on
          cases none : found with
          | none => rfl
          | some kp => exact absurd ⟨fails, turned, unused, by rw [none]; rfl⟩ going
        · rfl
      obtain ⟨sdc, free, note, credit, totals, cash, cashless⟩ := (x.vendGone v o).vendFailed_leaves v o
      have close : ((x.vendGone v o).vendFailed v o).Over t := by
        rw [ht, handed]; exact State.over_of_empty _ (by rw [sdc, ysdc])
      simp only [ysesc, hsesc, ychu, htotals] at credit totals cash cashless
      simp only [close.sesc, close.totals, close.sdc, sdc, ysdc, free, credit, totals, true_and]
      refine ⟨fun h => absurd h going, fun _ => ⟨close.notes _ (by simp [Notice.kindNo]) note, cash,
        fun kind => ?_⟩⟩
      obtain ⟨none, settle, closes, pays⟩ := cashless kind
      exact ⟨none, close.notes _ (by simp [Notice.kindNo]) settle, closes,
        fun some => ((pays some).of_same (by rw [yset, hset]) (by rw [ychu, htubes])
          (by rw [ychu, hpay])).over close⟩

end Sys2Proof.Machine
end


section
/-! SUPPORT. What the power-fail warning's work keeps while the band is ZERO: no load gains weight, and the
compressor and the heater stay off (R143, R145). -/

namespace Sys2Proof.Machine

variable {s t : State}

/-! ### Revocations and RFC -/

theorem State.revokeDefrost_rfc (s : State) : s.revokeDefrost.rfc = s.rfc ∨
    s.revokeDefrost.rfc = { s.rfc with heaterOn := false } := by
  unfold State.revokeDefrost
  split
  · split
    · exact .inr rfl
    · exact .inl rfl
  · exact .inl rfl

theorem State.revokeCompressor_rfc (s : State) : s.revokeCompressor.rfc = s.rfc ∨
    s.revokeCompressor.rfc = { s.rfc with state := .lockout, offTime := 0, startWindow := none } := by
  unfold State.revokeCompressor
  split
  · split
    · split
      · exact .inr rfl
      · split <;> exact .inl rfl
    · exact .inl rfl
  · exact .inl rfl

/-- A pass acts on RFC by its revocations alone. -/
theorem State.grantPass_rfc (s : State) :
    s.grantPass.rfc = s.revokeDefrost.revokeCompressor.rfc := by
  simp only [State.grantPass]
  split <;> rfl

/-! ### Calm steps -/

/-- From `s` to `t` the band and the warning stay, in band ZERO no load gains weight, and neither the
compressor nor the heater goes on. -/
structure State.Calm (s t : State) : Prop where
  band : t.lba.band = s.lba.band
  pfw : t.lba.pfw = s.lba.pfw
  held : s.lba.band = .zero → ∀ l, (s.load l).held = 0 → (t.load l).held = 0
  compressor : s.rfc.state.compressorOn = false → t.rfc.state.compressorOn = false
  heater : s.rfc.heaterOn = false → t.rfc.heaterOn = false

theorem State.Calm.trans {u : State} (h : s.Calm t) (k : t.Calm u) : s.Calm u where
  band := k.band.trans h.band
  pfw := k.pfw.trans h.pfw
  held zero l none := k.held (h.band.trans zero) l (h.held zero l none)
  compressor off := k.compressor (h.compressor off)
  heater off := k.heater (h.heater off)

/-- A step that writes neither LBA nor RFC. -/
theorem State.Calm.of_same (lba : t.lba = s.lba) (rfc : t.rfc = s.rfc) : s.Calm t := by
  refine ⟨by rw [lba], by rw [lba], fun _ l none => ?_, by rw [rfc]; exact id, by rw [rfc]; exact id⟩
  simpa only [State.load, lba] using none

/-- A step that writes neither LBA nor RFC ahead of a calm one. -/
theorem State.Calm.after {u : State} (h : t.Calm u) (lba : t.lba = s.lba := by rfl)
    (rfc : t.rfc = s.rfc := by rfl) : s.Calm u :=
  (State.Calm.of_same lba rfc).trans h

theorem State.budget_zero (h : s.lba.band = .zero) : s.budget = 0 := by
  simp only [State.budget, h, effectiveBudget]

theorem State.revocations_held (s : State) (l : Load) (none : (s.load l).held = 0) :
    (s.revokeDefrost.revokeCompressor.load l).held = 0 := by
  have first : (s.revokeDefrost.load l).held = 0 := by
    rcases s.revokeDefrost_load l with h | ⟨-, -, -, h⟩
    · rw [h, none]
    · exact LoadRec.held_eq_zero_of_not_granted h
  rcases s.revokeDefrost.revokeCompressor_load l with h | ⟨-, -, -, h⟩
  · rw [h, first]
  · exact LoadRec.held_eq_zero_of_not_granted h

theorem State.grantPass_calm (s : State) : s.Calm s.grantPass where
  band := by simp
  pfw := by simp
  held zero l none := by
    have revoked := s.revocations_held l none
    rcases s.grantPass_load_revoked l with h | ⟨w, t, p, -, fits, h⟩
    · rw [h, revoked]
    · rw [State.budget_zero zero] at fits
      rw [h]; exact Nat.le_zero.1 fits
  compressor off := by
    rw [State.grantPass_rfc]
    rcases s.revokeDefrost.revokeCompressor_rfc with h | h <;> rw [h]
    · rcases s.revokeDefrost_rfc with k | k <;> rw [k] <;> exact off
    · rfl
  heater off := by
    rw [State.grantPass_rfc]
    rcases s.revokeDefrost.revokeCompressor_rfc with h | h <;> rw [h] <;>
      rcases s.revokeDefrost_rfc with k | k <;> rw [k] <;> exact off

/-- A load record without a grant. -/
theorem State.setLoad_calm (s : State) (l : Load) {r : LoadRec} (h : r.held = 0) :
    s.Calm (s.setLoad l r) where
  band := rfl
  pfw := rfl
  held _ k none := by
    by_cases e : k = l
    · rw [e, State.load_setLoad_self, h]
    · rw [State.load_setLoad_ne s r e, none]
  compressor := id
  heater := id

theorem State.request_calm (s : State) (l : Load) (w : Nat) : s.Calm (s.request l w) := by
  unfold State.request
  split
  · exact (s.setLoad_calm l (r := .waiting w 0 false) rfl).trans (State.grantPass_calm _)
  · next t p _ => exact (s.setLoad_calm l (r := .waiting w t p) rfl).trans (State.grantPass_calm _)
  · exact .of_same rfl rfl

theorem State.release_calm (s : State) (l : Load) : s.Calm (s.release l) := by
  unfold State.release
  split
  · exact .of_same rfl rfl
  · exact (s.setLoad_calm l (r := .none) rfl).trans (State.grantPass_calm _)

/-! ### The executor and the session -/

theorem State.evalExact_calm (s : State) : s.Calm s.evalExact := .of_same (by simp) (by simp)

theorem State.endPayout_calm (s : State) (keep : Bool) : s.Calm (s.endPayout keep) := by
  have ended : s.Calm (if keep then s.setPayout s.chu.payout.ended
      else (s.setPayout s.chu.payout.ended).release .payout) := by
    split
    · exact .of_same rfl rfl
    · exact (State.release_calm (s.setPayout s.chu.payout.ended) _).after
  exact ended.trans (State.evalExact_calm (State.raise _ (.payout _ _ _))).after

theorem State.endChange_calm (s : State) : s.Calm s.endChange :=
  (s.endPayout_calm false).trans (.of_same (by simp [State.endChange]) (by simp [State.endChange]))

theorem State.startChange_calm (s : State) (n : Nat) : s.Calm (s.startChange n false) := by
  have record : s.Calm (s.setPayout (s.changeRecord n)) := .of_same rfl rfl
  by_cases plan : s.changePlan n = []
  · rw [State.startChange_of_nothing plan]
    exact record.trans (State.endChange_calm _)
  · rw [State.startChange_of_coins plan]
    exact record.trans (State.request_calm _ _ _)

theorem State.payCredit_calm (s : State) : s.Calm s.payCredit := by
  unfold State.payCredit
  simp only
  split
  · exact s.startChange_calm _
  · exact (s.endPayout_calm false).trans (State.startChange_calm _ _)
  · exact .of_same rfl rfl

theorem State.payOrIdle_calm (s : State) : s.Calm s.payOrIdle := by
  unfold State.payOrIdle
  split
  · exact .of_same rfl rfl
  · unfold State.enterPaying
    exact (State.payCredit_calm _).after

theorem State.settle_calm (s : State) (n : Nat) : s.Calm (s.settle n) := by
  unfold State.settle
  exact (State.payOrIdle_calm _).after

theorem State.vendFailed_calm (s : State) (v : PendingVend) (o : DriveOutcome) :
    s.Calm (s.vendFailed v o) := by
  have reported : s.Calm (s.reportVend v (.drive o) 0) := .of_same rfl rfl
  unfold State.vendFailed
  simp only
  split
  · exact reported.trans (.of_same rfl rfl)
  · exact reported.trans (State.settle_calm _ 0)

/-! ### RFC and ZTC -/

theorem State.setRfc_calm (s : State) {x : RfcState} (off : x.compressorOn = false) :
    s.Calm (s.setRfc x) :=
  ⟨rfl, rfl, fun _ _ none => none, fun _ => off, id⟩

theorem State.stopCompressor_calm (s : State) : s.Calm s.stopCompressor := by
  unfold State.stopCompressor
  exact State.Calm.trans (t := { s with rfc := { s.rfc with
    state := .lockout, offTime := 0, startWindow := none } })
    ⟨rfl, rfl, fun _ _ none => none, fun _ => rfl, id⟩ (State.release_calm _ _)

theorem State.readyCheck_calm (s : State) : s.Calm s.readyCheck := by
  unfold State.readyCheck
  split
  · exact (s.setRfc_calm (x := .waitPower) rfl).trans (State.request_calm _ _ _)
  · exact .of_same rfl rfl

theorem State.takeDemand_calm (s : State) (d : Bool) : s.Calm (s.takeDemand d) := by
  have taken : s.Calm { s with rfc := { s.rfc with demand := d } } :=
    ⟨rfl, rfl, fun _ _ none => none, id, id⟩
  unfold State.takeDemand
  simp only
  split
  · exact taken.trans (State.readyCheck_calm _)
  · split
    · exact taken
    · exact (taken.trans (State.setRfc_calm _ (x := .ready) rfl)).trans (State.release_calm _ _)
  · split
    · exact taken.trans (State.stopCompressor_calm _)
    · exact taken
  · exact taken

theorem State.askDamper_calm (s : State) : s.Calm s.askDamper := by
  unfold State.askDamper
  split
  · exact s.request_calm _ _
  · exact .of_same rfl rfl

theorem State.withdrawDamper_calm (s : State) : s.Calm s.withdrawDamper := by
  unfold State.withdrawDamper
  split
  · exact s.release_calm _
  · exact .of_same rfl rfl

theorem State.updateDemand_calm (s : State) : s.Calm s.updateDemand := by
  unfold State.updateDemand
  simp only
  split
  · exact .of_same rfl rfl
  · exact (State.takeDemand_calm _ _).after

theorem State.queueCheck_calm (s : State) (z : ZoneNo) : s.Calm (s.queueCheck z) := by
  unfold State.queueCheck
  have asked := (State.withdrawDamper_calm (s.setQueue (queueAfter z (s.zone z).target
    (s.targetReached z (s.zone z).target) s.ztc.queue))).trans (State.askDamper_calm _)
  exact (asked.trans (State.updateDemand_calm _)).after

theorem State.stopMove_calm (s : State) : s.Calm s.stopMove := by
  unfold State.stopMove
  split
  · split
    · exact (s.release_calm _).trans (State.askDamper_calm _)
    · exact .of_same rfl rfl
  · exact ((State.release_calm _ .damper).trans (State.queueCheck_calm _ _)).after

end Sys2Proof.Machine
end


section
/-! SUPPORT. The outcomes the power-fail warning hands on (R71), and what the executor and the dampers are left
with (R108, R174). -/

namespace Sys2Proof.Machine

variable {s t : State}

/-! ### Outcomes of a vend that ends with the warning -/

/-- The outcomes the warning gives (R71). -/
def DriveOutcome.stopped (o : DriveOutcome) : Prop := o = .noPower ∨ o = .interrupted

theorem State.warningOutcome_stopped (s : State) (e : DriveEntry) : (s.warningOutcome e).stopped := by
  unfold State.warningOutcome
  split
  · exact .inl rfl
  · exact .inr rfl

/-- A vend that ends with the warning ends without delivery (R41). -/
theorem State.takeVendOutcome_stopped {v : PendingVend} {o : DriveOutcome}
    (h : s.sesc.pendingVend = some v) (stops : o.stopped) :
    s.takeVendOutcome o = (s.seltVend v.code v.index o).vendFailed v o := by
  rcases stops with rfl | rfl <;> simp only [State.takeVendOutcome, h]

/-! ### The table and an outcome NO_POWER (R8, R9) -/

theorem modifyAt_of_fixed {α : Type} {f : α → α} (h : ∀ x, f x = x) (i : Nat) (xs : List α) :
    modifyAt f i xs = xs := by
  induction xs generalizing i with
  | nil => cases i <;> rfl
  | cons x xs ih => cases i <;> simp only [modifyAt, h, ih]

theorem updateSel_of_fixed {f : Selection → Selection} (h : ∀ r, f r = r) (c : Nat)
    (xs : List Selection) : updateSel f c xs = xs := by
  induction xs with
  | nil => rfl
  | cons x xs ih => simp only [updateSel, List.map_cons, h, ite_self] at ih ⊢; rw [ih]

theorem State.seltTest_noPower (s : State) (row col : Nat) : s.seltTest row col .noPower = s := by
  have fixed (i : Nat) (r : Selection) : r.setPosition (testPosition .noPower) i = r := by
    simp only [Selection.setPosition, modifyAt_of_fixed (f := testPosition .noPower) fun _ => rfl]
  unfold State.seltTest
  split
  · rw [updateSel_of_fixed (fixed _)]; rfl
  · rfl

theorem State.seltVend_noPower (s : State) (code i : Nat) : s.seltVend code i .noPower = s := by
  have fixed (r : Selection) : { (r.setPosition (vendPosition .noPower) i) with
      cursor := r.cursorAfter .noPower i } = r := by
    simp [Selection.setPosition, modifyAt_of_fixed (f := vendPosition .noPower) fun _ => rfl,
      Selection.cursorAfter]
  unfold State.seltVend
  rw [updateSel_of_fixed fixed]
  rfl

/-! ### The executor -/

/-- An IDLE executor holds no weight, where `p`, and a pulse runs in EJECTING alone. -/
def State.Executor (s : State) (p : Prop) : Prop :=
  (p → s.chu.payout.state ≠ .idle ∨ (s.load .payout).held = 0) ∧
    (s.chu.payout.pulse.isSome = true → s.chu.payout.state = .ejecting)

theorem State.Executor.of_calm {p : Prop} (h : s.Executor p) (calm : s.Calm t)
    (zero : s.lba.band = .zero) (payout : t.chu.payout = s.chu.payout) : t.Executor p := by
  obtain ⟨idle, pulse⟩ := h
  unfold State.Executor
  rw [payout]
  exact ⟨fun hp => (idle hp).imp id (calm.held zero _), pulse⟩

theorem State.endPayout_load (s : State) : (s.endPayout false).load .payout = .none := by
  have given : ((s.setPayout s.chu.payout.ended).release .payout).load .payout = .none :=
    State.release_load_self _ _
  have lba : (s.endPayout false).lba = ((s.setPayout s.chu.payout.ended).release .payout).lba := by
    simp only [State.endPayout, State.evalExact_unchanged]
    rfl
  simpa only [State.load, lba] using given

theorem State.endPayout_executor (s : State) (p : Prop) : (s.endPayout false).Executor p := by
  unfold State.Executor
  rw [s.endPayout_load]
  exact ⟨fun _ => .inr rfl, by simp [Payout.ended]⟩

theorem State.creditOrIdle_executor {p : Prop} (h : s.Executor p) : s.creditOrIdle.Executor p := by
  have load : s.creditOrIdle.load .payout = s.load .payout := by simp [State.load]
  unfold State.Executor at h ⊢
  rw [load]
  simpa using h

theorem State.startChange_executor (s : State) (n : Nat) (p : Prop) :
    (s.startChange n false).Executor p := by
  by_cases plan : s.changePlan n = []
  · rw [State.startChange_of_nothing plan]
    exact State.creditOrIdle_executor (State.endPayout_executor _ p)
  · unfold State.Executor
    rw [(State.startChange_waits plan).2]
    exact ⟨fun _ => .inl (by simp [State.changeRecord]), by simp [State.changeRecord]⟩

theorem State.Executor.payOrIdle {p : Prop} (h : s.Executor p) : s.payOrIdle.Executor p := by
  obtain ⟨idle, pulse⟩ := h
  unfold State.payOrIdle
  split
  · exact ⟨idle, pulse⟩
  · unfold State.enterPaying State.payCredit
    simp only
    split
    · exact State.startChange_executor _ _ p
    · exact State.startChange_executor _ _ p
    · next ejecting =>
      have still : s.chu.payout.state = .ejecting := ejecting
      exact ⟨fun _ => .inl (by simp [still]), fun _ => still⟩

/-! ### Outcomes handed on at the warning -/

/-- A step of the work list's stop: calm, the work list as it was, and the executor's rule kept. -/
structure State.Stops (s t : State) : Prop where
  calm : s.Calm t
  sdc : t.sdc = s.sdc
  executor : ∀ p, s.lba.band = .zero → s.Executor p → t.Executor p

theorem State.Stops.trans {u : State} (h : s.Stops t) (k : t.Stops u) : s.Stops u where
  calm := h.calm.trans k.calm
  sdc := k.sdc.trans h.sdc
  executor p zero ok := k.executor p (h.calm.band.trans zero) (h.executor p zero ok)

theorem State.Stops.of_same (lba : t.lba = s.lba) (rfc : t.rfc = s.rfc) (sdc : t.sdc = s.sdc)
    (payout : t.chu.payout = s.chu.payout) : s.Stops t :=
  ⟨.of_same lba rfc, sdc, fun _ zero ok => ok.of_calm (.of_same lba rfc) zero payout⟩

theorem State.vendFailed_stops (s : State) (v : PendingVend) (o : DriveOutcome) :
    s.Stops (s.vendFailed v o) := by
  refine ⟨s.vendFailed_calm v o, (s.vendFailed_leaves v o).1, fun p zero ok => ?_⟩
  unfold State.vendFailed
  simp only
  split
  · exact ok
  · exact State.Executor.payOrIdle (s := State.setSesc _ _) ok

theorem State.handOutcome_stops (s : State) (e : DriveEntry) {o : DriveOutcome} (stops : o.stopped) :
    s.Stops (s.handOutcome e o) := by
  unfold State.handOutcome
  split
  · cases pending : s.sesc.pendingVend with
    | none =>
      simp only [State.takeVendOutcome, pending]
      exact .of_same rfl rfl rfl rfl
    | some v =>
      rw [State.takeVendOutcome_stopped pending stops]
      exact State.Stops.trans (t := s.seltVend v.code v.index o) (.of_same rfl rfl rfl rfl)
        (State.vendFailed_stops _ v o)
  · rw [State.seltTest_frame]
    exact .of_same rfl rfl rfl rfl

theorem State.handOutcome_noPower_selt (s : State) (e : DriveEntry) :
    (s.handOutcome e .noPower).selt = s.selt := by
  unfold State.handOutcome
  split
  · cases pending : s.sesc.pendingVend with
    | none => simp only [State.takeVendOutcome, pending]
    | some v => rw [(s.takeVendOutcome_tables v .noPower pending).1, State.seltVend_noPower]
  · rw [State.seltTest_noPower, State.raise_selt]

theorem dropPendingEntries_stops (l : List DriveEntry) (s : State) :
    s.Stops (dropPendingEntries l s) := by
  induction l generalizing s with
  | nil => exact .of_same rfl rfl rfl rfl
  | cons e l ih => exact (s.handOutcome_stops e (.inl rfl)).trans (ih _)

theorem dropPendingEntries_selt (l : List DriveEntry) (s : State) :
    (dropPendingEntries l s).selt = s.selt := by
  induction l generalizing s with
  | nil => rfl
  | cons e l ih => exact (ih _).trans (s.handOutcome_noPower_selt e)

theorem dropPendingEntries_append (l m : List DriveEntry) (s : State) :
    dropPendingEntries (l ++ m) s = dropPendingEntries m (dropPendingEntries l s) := by
  induction l generalizing s with
  | nil => rfl
  | cons e l ih => exact ih _

/-- The notices alone have changed, and of those TEST_OUTCOME alone. -/
structure State.OnlyTests (s t : State) : Prop where
  frame : t = { s with hli := t.hli }
  notes : ∀ m : Notice, m.kindNo ≠ 5 → s.notes m → t.notes m

/-- TEST entries PENDING at the warning leave their notice alone (R9, R71). -/
theorem dropPendingEntries_tests {l : List DriveEntry} (tests : ∀ d ∈ l, d.isVend = false) (s : State) :
    s.OnlyTests (dropPendingEntries l s) := by
  induction l generalizing s with
  | nil => exact ⟨rfl, fun _ _ held => held⟩
  | cons e l ih =>
    obtain ⟨test, others⟩ := List.forall_mem_cons.1 tests
    cases origin : e.origin with
    | vend code i => simp only [DriveEntry.isVend, origin, Bool.true_eq_false] at test
    | test row col =>
      have handed : s.handOutcome e .noPower = s.raise (.testOutcome row col .noPower) := by
        simp only [State.handOutcome, origin, State.seltTest_noPower]
      obtain ⟨frame, notes⟩ := ih others (s.handOutcome e .noPower)
      refine ⟨frame.trans ?_, fun m ne held => notes m ne ?_⟩
      · simp only [dropPendingEntries, handed]
        rfl
      · rw [handed]
        exact held.raise ne.symm

/-! ### The work list at the warning (R71) -/

/-- The entries of the list have been handed their outcomes: the head `o`, those behind it NO_POWER. -/
def State.entriesDropped (s : State) (e : DriveEntry) (rest : List DriveEntry) (o : DriveOutcome) :
    State :=
  dropPendingEntries rest ((s.entryGone []).handOutcome e o)

theorem State.stopDrive_of_list {e : DriveEntry} {rest : List DriveEntry} (list : s.sdc.list = e :: rest)
    (running : e.running = true) :
    s.stopDrive = (s.entriesDropped e rest (s.warningOutcome e)).setSdc
      { (s.entriesDropped e rest (s.warningOutcome e)).sdc with seq := .idle } := by
  simp only [State.stopDrive, list, running, if_true, State.entriesDropped, State.entryGone]

theorem State.entriesDropped_stops (s : State) (e : DriveEntry) (rest : List DriveEntry)
    {o : DriveOutcome} (stops : o.stopped) :
    (s.entryGone []).Stops (s.entriesDropped e rest o) :=
  ((s.entryGone []).handOutcome_stops e stops).trans (dropPendingEntries_stops rest _)

theorem State.entriesDropped_selt (s : State) (e : DriveEntry) (rest : List DriveEntry)
    (o : DriveOutcome) :
    (s.entriesDropped e rest o).selt = ((s.entryGone []).handOutcome e o).selt :=
  dropPendingEntries_selt _ _

theorem State.notes_handTest {d : DriveEntry} {row col : Nat} (origin : d.origin = .test row col)
    (s : State) (o : DriveOutcome) : (s.handOutcome d o).notes (.testOutcome row col o) := by
  simp only [State.handOutcome, origin]
  exact State.raise_notes _ _

/-- The last entry handed on, a TEST entry, leaves its notice. -/
theorem State.entriesDropped_last {e d : DriveEntry} {rest : List DriveEntry} {row col : Nat}
    (s : State) (o : DriveOutcome) (last : rest.getLast? = some d) (origin : d.origin = .test row col) :
    (s.entriesDropped e rest o).notes (.testOutcome row col .noPower) := by
  obtain ⟨init, rfl⟩ := List.getLast?_eq_some_iff.1 last
  unfold State.entriesDropped
  rw [dropPendingEntries_append]
  exact State.notes_handTest origin _ _

/-- A list with a VEND entry `d` and no other. -/
theorem vends_around {l m : List DriveEntry} {d : DriveEntry} (vend : d.isVend = true)
    (one : ((l ++ d :: m).filter DriveEntry.isVend).length ≤ 1) :
    (∀ x ∈ l, x.isVend = false) ∧ ∀ x ∈ m, x.isVend = false := by
  simp only [List.filter_append, List.filter_cons, vend, if_true, List.length_append,
    List.length_cons] at one
  have left : l.filter DriveEntry.isVend = [] := List.length_eq_zero_iff.1 (by omega)
  have right : m.filter DriveEntry.isVend = [] := List.length_eq_zero_iff.1 (by omega)
  simp only [List.filter_eq_nil_iff, Bool.not_eq_true] at left right
  exact ⟨left, right⟩

/-- With a vend pending and its entry on the list, the warning ends that vend without delivery; the TEST
entries around it change notices alone (R41, R71). -/
theorem State.entriesDropped_vend {e : DriveEntry} {rest : List DriveEntry} {v : PendingVend}
    {o : DriveOutcome} (s : State) (stops : o.stopped) (pending : s.sesc.pendingVend = some v)
    (one : ((e :: rest).filter DriveEntry.isVend).length ≤ 1)
    (some : ∃ d ∈ e :: rest, d.isVend = true) :
    ∃ (y : State) (o' : DriveOutcome), y.sesc = s.sesc ∧ y.chu = s.chu ∧
      (y.vendFailed v o').OnlyTests (s.entriesDropped e rest o) ∧
      (e.isVend = true → o' = o) ∧ ((∃ d ∈ rest, d.isVend = true) → o' = .noPower) := by
  have gone : (s.entryGone []).sesc.pendingVend = .some v := by simp [pending]
  obtain ⟨d, hd, vend⟩ := some
  rcases List.mem_cons.1 hd with rfl | hd
  · obtain ⟨-, tests⟩ := vends_around (l := []) vend one
    refine ⟨(s.entryGone []).seltVend v.code v.index o, o, by simp [State.seltVend],
      by simp [State.seltVend], ?_, fun _ => rfl,
      fun ⟨x, hx, isVend⟩ => ?_⟩
    · have handed : (s.entryGone []).handOutcome d o =
          ((s.entryGone []).seltVend v.code v.index o).vendFailed v o := by
        rw [← State.takeVendOutcome_stopped gone stops]
        cases origin : d.origin with
        | vend code i => simp only [State.handOutcome, origin]
        | test row col => simp only [DriveEntry.isVend, origin, Bool.false_eq_true] at vend
      rw [← handed]
      exact dropPendingEntries_tests tests _
    · rw [tests x hx] at isVend; cases isVend
  · obtain ⟨l, m, rfl⟩ := List.append_of_mem hd
    obtain ⟨before, after⟩ := vends_around (l := e :: l) vend one
    obtain ⟨test, others⟩ := List.forall_mem_cons.1 before
    cases origin : e.origin with
    | vend code i => simp only [DriveEntry.isVend, origin, Bool.true_eq_false] at test
    | test row col =>
      obtain ⟨y, hy⟩ : ∃ y, y = dropPendingEntries l ((s.entryGone []).handOutcome e o) := ⟨_, rfl⟩
      have same : y.sesc = s.sesc ∧ y.chu = s.chu := by
        rw [hy, (dropPendingEntries_tests others _).frame]
        simp only [State.handOutcome, origin]
        rw [State.seltTest_frame]
        simp
      obtain ⟨sesc, chu⟩ := same
      refine ⟨y, .noPower, sesc, chu, ?_, fun h => ?_, fun _ => rfl⟩
      · have handed : y.handOutcome d .noPower = y.vendFailed v .noPower := by
          have taken := State.takeVendOutcome_stopped (s := y) (by rw [sesc]; exact pending)
            (.inl rfl : DriveOutcome.noPower.stopped)
          rw [State.seltVend_noPower] at taken
          cases origin : d.origin with
          | vend code i => simp only [State.handOutcome, origin, taken]
          | test row col => simp only [DriveEntry.isVend, origin, Bool.false_eq_true] at vend
        rw [State.entriesDropped, dropPendingEntries_append, ← hy, ← handed]
        exact dropPendingEntries_tests after _
      · rw [test] at h; cases h

end Sys2Proof.Machine
end


section
/-! SUPPORT. The power-fail warning: the band at ZERO, the executor's and the dampers' stop, and the event as a
whole (R71, R108, R135, R145, R174, R203). -/

namespace Sys2Proof.Machine

variable {s t : State}

/-! ### The band at ZERO (R134, R143, R145) -/

/-- What the warning's first pass leaves: the band ZERO, the compressor off where it held weight, and the
heater off where any load did. -/
theorem State.grantPass_zero (zero : s.lba.band = .zero) :
    (s.grantPass.load .compressor).held = 0 ∧ (s.grantPass.load .defrost).held = 0 ∧
    (0 < (s.load .compressor).held → s.grantPass.rfc.state.compressorOn = false) ∧
    (0 < s.sumHeld → (s.rfc.heaterOn = true → (s.load .defrost).isGranted = true) →
      s.grantPass.rfc.heaterOn = false) := by
  have budget := State.budget_zero zero
  have within (l : Load) (h : (s.revokeDefrost.revokeCompressor.load l).held = 0) :
      (s.grantPass.load l).held = 0 := by
    rcases s.grantPass_load_revoked l with k | ⟨w, t, p, -, fits, k⟩
    · rw [k, h]
    · rw [budget] at fits
      rw [k]; exact Nat.le_zero.1 fits
  refine ⟨within _ ?_, within _ ?_, fun weight => ?_, fun weight law => ?_⟩
  · have le := s.revokeDefrost.revokeCompressor_held
    rw [s.revocations_budget.2, budget] at le
    exact Nat.le_zero.1 le
  · have le := s.revokeDefrost_held
    rw [budget] at le
    rcases s.revokeDefrost.revokeCompressor_load .defrost with k | ⟨k, -⟩
    · rw [k]; exact Nat.le_zero.1 le
    · cases k
  · have same : s.revokeDefrost.load .compressor = s.load .compressor := by
      rcases s.revokeDefrost_load .compressor with k | ⟨k, -⟩
      · exact k
      · cases k
    have high : s.revokeDefrost.overBudget = true := by
      have le := s.revokeDefrost.held_le_sumHeld .compressor
      rw [same] at le
      simp only [State.overBudget, s.revocations_budget.2, budget, decide_eq_true_eq]
      omega
    rw [State.grantPass_rfc]
    cases load : s.load .compressor with
    | none => rw [load] at weight; cases weight
    | waiting w t p => rw [load] at weight; cases weight
    | granted w =>
      simp only [State.revokeCompressor, same, load, high, if_true]
      split
      · rfl
      · next off =>
        have : s.revokeDefrost.rfc.state.compressorOn = false := by simpa using off
        split <;> exact this
  · have high : s.overBudget = true := by
      simp only [State.overBudget, budget, decide_eq_true_eq]
      exact weight
    have off : s.revokeDefrost.rfc.heaterOn = false := by
      cases load : s.load .defrost with
      | granted w => simp only [State.revokeDefrost, load, high, if_true]
      | none =>
        rw [load] at law
        simp only [State.revokeDefrost, load]
        exact Bool.eq_false_iff.2 fun on => by cases law on
      | waiting w t p =>
        rw [load] at law
        simp only [State.revokeDefrost, load]
        exact Bool.eq_false_iff.2 fun on => by cases law on
    rw [State.grantPass_rfc]
    rcases s.revokeDefrost.revokeCompressor_rfc with k | k <;> rw [k] <;> exact off

/-! ### The executor's stop (R107, R108) -/

theorem State.stopPayout_cases (s : State) :
    (s.chu.payout.state = .idle ∧ s.stopPayout = s) ∨
    (s.chu.payout.state ≠ .idle ∧ s.stopPayout = s.endChange ∧
      (s.chu.payout.kind = .change ∨ s.chu.payout.endMark = true)) ∨
    (s.chu.payout.state ≠ .idle ∧ s.stopPayout = s.endPayout false) := by
  unfold State.stopPayout
  split
  · next idle => exact .inl ⟨idle, rfl⟩
  · next busy =>
    split
    · next kind => exact .inr (.inl ⟨busy, rfl, .inl kind⟩)
    · split
      · next mark => exact .inr (.inl ⟨busy, rfl, .inr mark⟩)
      · exact .inr (.inr ⟨busy, rfl⟩)

theorem State.creditOrIdle_free (h : s.sesc.pendingVend = none) :
    s.creditOrIdle.sesc.pendingVend = none := by
  by_cases credit : s.sesc.credit = 0
  · rw [State.creditOrIdle_of_none credit]
  · rw [State.creditOrIdle_of_credit credit]; exact h

theorem State.creditOrIdle_unauthorized (h : s.sesc.authorized = none) :
    s.creditOrIdle.sesc.authorized = none := by
  by_cases credit : s.sesc.credit = 0
  · rw [State.creditOrIdle_of_none credit]
  · rw [State.creditOrIdle_of_credit credit]; exact h

/-- The executor's stop: IDLE, off, its weight given back, and the money as it was. -/
structure State.PayoutStopped (s t : State) : Prop where
  calm : s.Calm t
  sdc : t.sdc = s.sdc
  totals : t.chu.totals = s.chu.totals
  credit : t.sesc.credit = s.sesc.credit
  free : s.sesc.pendingVend = none → t.sesc.pendingVend = none
  unauthorized : s.sesc.authorized = none → t.sesc.authorized = none
  notes : ∀ m : Notice, m.offPayout → s.notes m → t.notes m
  state : t.chu.payout.state = .idle
  pulse : ∀ p, s.Executor p → t.chu.payout.pulse = none
  held : ∀ p, s.Executor p → p → (t.load .payout).held = 0
  session : (s.chu.payout.state ≠ .idle → s.chu.payout.kind ≠ .change) → s.chu.payout.endMark = false →
    t.sesc = s.sesc

theorem State.stopPayout_stops (s : State) : s.PayoutStopped s.stopPayout := by
  rcases s.stopPayout_cases with ⟨idle, h⟩ | ⟨busy, h, why⟩ | ⟨busy, h⟩ <;> rw [h]
  · refine ⟨.of_same rfl rfl, rfl, rfl, rfl, id, id, fun _ _ => id, idle, fun p ok => ?_,
      fun p ok hp => ?_, fun _ _ => rfl⟩
    · obtain ⟨-, pulse⟩ := ok
      rw [idle] at pulse
      simpa using pulse
    · obtain ⟨held, -⟩ := ok
      exact (held hp).resolve_left fun ne => ne idle
  · have load : s.endChange.load .payout = .none := by
      rw [← s.endPayout_load]
      simp [State.endChange, State.load]
    refine ⟨s.endChange_calm, by simp [State.endChange], by simp [State.endChange],
      by simp [State.endChange], fun none => ?_, fun none => ?_,
      fun _ ne held => held.endChange ne, by simp [State.endChange, Payout.ended],
      fun _ _ => by simp [State.endChange, Payout.ended], fun _ _ _ => by rw [load]; rfl,
      fun unchanged unmarked => ?_⟩
    · exact State.creditOrIdle_free (s := s.endPayout false) (by simpa using none)
    · exact State.creditOrIdle_unauthorized (s := s.endPayout false) (by simpa using none)
    · rcases why with change | marked
      · exact absurd change (unchanged busy)
      · rw [unmarked] at marked; cases marked
  · exact ⟨s.endPayout_calm false, by simp, by simp, by simp, by simp, by simp,
      fun _ ne held => held.endPayout ne false, by simp [Payout.ended],
      fun _ _ => by simp [Payout.ended], fun _ _ _ => by rw [s.endPayout_load]; rfl,
      fun _ _ => by simp⟩

/-! ### The dampers' stop (R174) -/

theorem State.askDamper_ztc (s : State) : s.askDamper.ztc = s.ztc := by
  obtain ⟨_, _, _, h⟩ := s.askDamper_frame
  rw [h]

/-- No move runs, and in band ZERO DAMPER holds no weight. -/
theorem State.stopMove_stops (s : State) : s.stopMove.ztc.running = none ∧
    (s.lba.band = .zero → (s.stopMove.load .damper).held = 0) := by
  unfold State.stopMove
  split
  · next idle =>
    split
    · have given : ((s.release .damper).load .damper).held = 0 := by simp [LoadRec.held]
      refine ⟨by simp [State.askDamper_ztc, idle], fun zero => ?_⟩
      exact (State.askDamper_calm _).held (by simpa using zero) .damper given
    · next bare => exact ⟨idle, fun _ => LoadRec.held_eq_zero_of_not_granted (by simpa using bare)⟩
  · next m _ =>
    obtain ⟨y, hy⟩ : ∃ y : State, y = { s.setZone m.zone { s.zone m.zone with damper := .unknown } with
      ztc := { (s.setZone m.zone { s.zone m.zone with damper := .unknown }).ztc with
        running := none } } := ⟨_, rfl⟩
    have stopped : (y.release .damper).ztc.running = none := by simp [hy]
    have given : ((y.release .damper).load .damper).held = 0 := by simp [LoadRec.held]
    have band : (y.release .damper).lba.band = s.lba.band := by simp [hy]
    have checked : ((y.release .damper).queueCheck m.zone).ztc.running = none := by
      obtain ⟨_, _, _, _, _, h⟩ := (y.release .damper).queueCheck_frame m.zone
      rw [h]
      exact stopped
    have held (zero : s.lba.band = .zero) :
        (((y.release .damper).queueCheck m.zone).load .damper).held = 0 :=
      (State.queueCheck_calm _ m.zone).held (band.trans zero) .damper given
    rw [hy] at checked held
    exact ⟨checked, held⟩

@[simp] theorem State.stopMove_unchanged (s : State) : s.stopMove.selt = s.selt ∧
    s.stopMove.sesc = s.sesc ∧ s.stopMove.sdc = s.sdc ∧ s.stopMove.chu = s.chu ∧
    s.stopMove.hli = s.hli := by
  obtain ⟨_, _, _, _, h⟩ := s.stopMove_frame
  simp [h]

end Sys2Proof.Machine
end


section
/-! SUPPORT. The event of the power-fail warning, assembled (R71, R108, R145, R174, R203). -/

namespace Sys2Proof.Machine

variable {s t : State}

/-! ### The steps of the event -/

theorem State.deenergize_calm (s : State) : s.Calm s.deenergize :=
  (State.release_calm _ .spiral).after

/-- The first step: the warning is noted, the band is ZERO, and the pass has revoked (R145). -/
def State.warned (s : State) : State :=
  ({ s with lba := { s.lba with pfw := true } }.setBand .zero).grantPass

@[simp] theorem State.warned_unchanged (s : State) : s.warned.selt = s.selt ∧ s.warned.sesc = s.sesc ∧
    s.warned.sdc = s.sdc ∧ s.warned.chu = s.chu ∧ s.warned.lba.band = .zero ∧
    s.warned.lba.pfw = true := by
  simp [State.warned]

/-- The work list at the warning: empty and at rest, no weight gained. -/
structure State.DriveStopped (s t : State) : Prop where
  calm : s.Calm t
  list : t.sdc.list = []
  seq : t.sdc.seq = .idle
  energized : t.sdc.energized = none
  curtain : t.sdc.curtain = s.sdc.curtain
  executor : ∀ p, s.lba.band = .zero → s.Executor p → t.Executor p
  spiral : s.lba.band = .zero → s.sdc.list ≠ [] → (t.load .spiral).held = 0

theorem State.stopDrive_stops (s : State) (head : s.sdc.seq = .idle ↔ s.sdc.list = [])
    (taken : ∀ e ∈ s.sdc.list.head?, e.running = true)
    (energized : s.sdc.energized.isSome = s.sdc.seq.turns) : s.DriveStopped s.stopDrive := by
  cases list : s.sdc.list with
  | nil =>
    have idle : s.sdc.seq = .idle := head.2 list
    have same : s.stopDrive = s := by simp only [State.stopDrive, list]
    have off : s.sdc.energized = none := by
      rw [idle] at energized
      exact Option.not_isSome_iff_eq_none.1 (by rw [energized]; decide)
    rw [same]
    exact ⟨.of_same rfl rfl, list, idle, off, rfl, fun _ _ => id, fun _ ne => absurd list ne⟩
  | cons e rest =>
    have running : e.running = true := taken e (by simp [list])
    obtain ⟨calm, sdc, executor⟩ := s.entriesDropped_stops e rest (s.warningOutcome_stopped e)
    have gone : s.Calm (s.entryGone []) := s.deenergize_calm.trans (.of_same rfl rfl)
    have total := gone.trans calm
    have spiral : ((s.entryGone []).load .spiral).held = 0 := by simp [LoadRec.held]
    rw [State.stopDrive_of_list list running]
    refine ⟨total.trans (.of_same rfl rfl), ?_, rfl, ?_, ?_, fun p zero ok => ?_, fun zero _ => ?_⟩
    · simp [sdc]
    · simp [sdc]
    · simp [sdc]
    · exact executor p (gone.band.trans zero) (ok.of_calm gone zero (by simp))
    · exact calm.held (gone.band.trans zero) .spiral spiral

/-- The rest of the event, after the work list's stop: payout, dampers, the session's notice and the save. -/
structure State.EventEnds (s t : State) : Prop where
  calm : s.Calm t
  selt : t.selt = s.selt
  sdc : t.sdc = s.sdc
  totals : t.chu.totals = s.chu.totals
  credit : t.sesc.credit = s.sesc.credit
  free : s.sesc.pendingVend = none → t.sesc.pendingVend = none
  unauthorized : s.sesc.authorized = none → t.sesc.authorized = none
  notes : ∀ m : Notice, m.offPayout → m.kindNo ≠ 2 → s.notes m → t.notes m
  state : t.chu.payout.state = .idle
  pulse : ∀ p, s.Executor p → t.chu.payout.pulse = none
  held : ∀ p, s.lba.band = .zero → s.Executor p → p → (t.load .payout).held = 0
  session : (s.chu.payout.state ≠ .idle → s.chu.payout.kind ≠ .change) → s.chu.payout.endMark = false →
    t.sesc = s.sesc
  running : t.ztc.running = none
  damper : s.lba.band = .zero → (t.load .damper).held = 0
  image : t.rst.image = none
  saving : t.rst.saving = some t.snapshot

@[simp] theorem State.startSave_unchanged (s : State) : s.startSave.selt = s.selt ∧
    s.startSave.sesc = s.sesc ∧ s.startSave.sdc = s.sdc ∧ s.startSave.chu = s.chu ∧
    s.startSave.lba = s.lba ∧ s.startSave.rfc = s.rfc ∧ s.startSave.ztc = s.ztc ∧
    s.startSave.hli = s.hli := ⟨rfl, rfl, rfl, rfl, rfl, rfl, rfl, rfl⟩

theorem State.eventEnds (s : State) (before : Session) :
    s.EventEnds (s.stopPayout.stopMove.closeEvent before).startSave := by
  have pay := s.stopPayout_stops
  obtain ⟨running, damper⟩ := s.stopPayout.stopMove_stops
  have closes : s.stopPayout.stopMove.Calm (s.stopPayout.stopMove.closeEvent before).startSave :=
    .of_same (by simp) (by simp)
  have rest := s.stopPayout.stopMove_calm.trans closes
  have band : s.stopPayout.lba.band = s.lba.band := pay.calm.band
  have move : s.stopPayout.stopMove.lba.band = s.lba.band :=
    (s.stopPayout.stopMove_calm.band).trans band
  exact {
    calm := pay.calm.trans rest
    selt := by simp
    sdc := by simp [pay.sdc]
    totals := by simp [pay.totals]
    credit := by simp [pay.credit]
    free := fun none => by simp [pay.free none]
    unauthorized := fun none => by simp [pay.unauthorized none]
    notes := fun m off ne held => by
      have moved : s.stopPayout.stopMove.notes m := State.notes_congr (pay.notes m off held) (by simp)
      exact State.notes_congr (moved.closeEvent before ne.symm) (by simp)
    state := by simp [pay.state]
    pulse := fun p ok => by simp [pay.pulse p ok]
    held := fun p zero ok hp => rest.held (band.trans zero) .payout (pay.held p ok hp)
    session := fun change unmarked => by simp [pay.session change unmarked]
    running := by simp [running]
    damper := fun zero => closes.held (move.trans zero) .damper (damper (band.trans zero))
    image := rfl
    saving := rfl }

/-- The event of an assertion, step by step. -/
theorem exec_pfwAssertion (on : s.power ≠ .off) (calm : s.lba.pfw = false) :
    exec .pfwAssertion s =
      .next (s.warned.stopDrive.stopPayout.stopMove.closeEvent s.sesc).startSave := by
  change Host.Outcome.next (s.on State.assertWarning) = _
  rw [State.on, if_neg on, State.assertWarning, calm]
  rfl

/-- The loads and RFC after the first step. -/
theorem State.warned_draws (s : State) (grant : GrantLaw s) :
    (s.warned.load .compressor).held = 0 ∧ (s.warned.load .defrost).held = 0 ∧
    (0 < (s.load .compressor).held → s.warned.rfc.state.compressorOn = false) ∧
    (0 < s.sumHeld → s.warned.rfc.heaterOn = false) := by
  obtain ⟨y, hy⟩ : ∃ y, y = { s with lba := { s.lba with pfw := true } }.setBand .zero := ⟨_, rfl⟩
  have lba : y.lba = { s.lba with pfw := true, band := .zero } := by simp [hy]
  have rfc : y.rfc = s.rfc := by simp [hy]
  have load (l : Load) : y.load l = s.load l := by simp only [State.load, lba]
  have sum : y.sumHeld = s.sumHeld := by simp only [State.sumHeld, lba]
  obtain ⟨compressor, defrost, stops, heater⟩ := State.grantPass_zero (s := y) (by rw [lba])
  rw [load] at stops
  rw [sum, load, rfc] at heater
  have same : s.warned = y.grantPass := by rw [hy]; rfl
  rw [same]
  exact ⟨compressor, defrost, stops, fun weight => heater weight fun on => (grant.heater on).2⟩

/-- The work list's stop with the entries' outcomes, seen from the state before the event (R71). -/
theorem State.warned_drops {e : DriveEntry} {rest : List DriveEntry} (work : WorkListLaw s)
    (list : s.sdc.list = e :: rest) :
    s.warned.stopDrive = (s.warned.entriesDropped e rest (s.warningOutcome e)).setSdc
      { (s.warned.entriesDropped e rest (s.warningOutcome e)).sdc with seq := .idle } := by
  have sdc : s.warned.sdc = s.sdc := by simp
  have running : e.running = true := work.taken e (by simp [list])
  have outcome : s.warned.warningOutcome e = s.warningOutcome e := by
    simp only [State.warningOutcome, sdc]
  rw [← outcome]
  exact State.stopDrive_of_list (by rw [sdc, list]) running

/-- The vend whose entry stands on the list ends without delivery in the work list's stop: NO_POWER where the
entry is PENDING, and with the outcome of the RUNNING entry where it is that (R41, R71). -/
theorem State.warned_vend {e : DriveEntry} {rest : List DriveEntry} {v : PendingVend}
    (work : WorkListLaw s) (list : s.sdc.list = e :: rest) (pending : s.sesc.pendingVend = some v)
    (some : ∃ d ∈ e :: rest, d.isVend = true) :
    ∃ (y : State) (o : DriveOutcome), y.sesc = s.sesc ∧ y.chu = s.chu ∧
      s.warned.stopDrive.sesc = (y.vendFailed v o).sesc ∧
      s.warned.stopDrive.chu = (y.vendFailed v o).chu ∧
      (∀ m : Notice, m.kindNo ≠ 5 → (y.vendFailed v o).notes m → s.warned.stopDrive.notes m) ∧
      (e.isVend = true → o = s.warningOutcome e) ∧
      ((∃ d ∈ rest, d.isVend = true) → o = .noPower) := by
  obtain ⟨-, wsesc, -, wchu, -, -⟩ := s.warned_unchanged
  obtain ⟨y, o, sesc, chu, ⟨frame, notes⟩, atHead, behind⟩ :=
    s.warned.entriesDropped_vend (s.warningOutcome_stopped e) (by rw [wsesc]; exact pending)
      (by rw [← list]; exact work.vends) some
  have dropped : (s.warned.entriesDropped e rest (s.warningOutcome e)).sesc = (y.vendFailed v o).sesc ∧
      (s.warned.entriesDropped e rest (s.warningOutcome e)).chu = (y.vendFailed v o).chu :=
    ⟨by rw [frame], by rw [frame]⟩
  obtain ⟨dsesc, dchu⟩ := dropped
  rw [State.warned_drops work list]
  exact ⟨y, o, sesc.trans wsesc, chu.trans wchu, dsesc, dchu, notes, atHead, behind⟩

/-- A vend that ends without delivery in a CASH session changes no money and no payout (R41). -/
theorem State.vendFailed_cash (v : PendingVend) (o : DriveOutcome) (kind : s.sesc.kind = .cash) :
    (s.vendFailed v o).chu = s.chu := by
  have same : (s.reportVend v (.drive o) 0).sesc.kind = .cash := kind
  simp only [State.vendFailed, same]
  rfl

/-- What SELT and the notices hold of the entries' outcomes after the event (R8, R9, R71). -/
theorem State.warning_outcomes {e : DriveEntry} {rest : List DriveEntry}
    (work : WorkListLaw s) (list : s.sdc.list = e :: rest) (t : State)
    (ends : s.warned.stopDrive.EventEnds t) :
    (∀ row col, e.origin = .test row col → t.selt = (s.seltTest row col (s.warningOutcome e)).selt ∧
      (rest = [] → t.notes (.testOutcome row col (s.warningOutcome e)))) ∧
    (∀ code i v, e.origin = .vend code i → s.sesc.pendingVend = some v →
      t.selt = (s.seltVend v.code v.index (s.warningOutcome e)).selt ∧
      t.notes (.vendOutcome v.code v.index (.drive (s.warningOutcome e)) 0)) ∧
    (∀ d v, d ∈ rest → d.isVend = true → s.sesc.pendingVend = some v →
      t.notes (.vendOutcome v.code v.index (.drive .noPower) 0)) ∧
    (∀ d row col, rest.getLast? = some d → d.origin = .test row col →
      t.notes (.testOutcome row col .noPower)) := by
  obtain ⟨wselt, wsesc, -⟩ := s.warned_unchanged
  have drops := State.warned_drops work list
  have gone : (s.warned.entryGone []).selt = s.selt := by simp
  have selt : t.selt = ((s.warned.entryGone []).handOutcome e (s.warningOutcome e)).selt := by
    rw [ends.selt, drops, State.setSdc_selt, State.entriesDropped_selt]
  have test {row col : Nat} {o : DriveOutcome}
      (note : (s.warned.entriesDropped e rest (s.warningOutcome e)).notes (.testOutcome row col o)) :
      t.notes (.testOutcome row col o) :=
    ends.notes _ (by simp [Notice.offPayout, Notice.kindNo]) (by simp [Notice.kindNo])
      (by rw [drops]; exact note)
  have vend {v : PendingVend} {y : State} {o : DriveOutcome}
      (notes : ∀ m : Notice, m.kindNo ≠ 5 → (y.vendFailed v o).notes m → s.warned.stopDrive.notes m) :
      t.notes (.vendOutcome v.code v.index (.drive o) 0) :=
    ends.notes _ (Notice.vendOutcome_offPayout _ _ _ _) (by simp [Notice.kindNo])
      (by
        obtain ⟨-, -, note, -⟩ := y.vendFailed_leaves v o
        exact notes _ (by simp [Notice.kindNo]) note)
  refine ⟨fun row col origin => ⟨?_, ?_⟩, fun code i v origin pending => ⟨?_, ?_⟩,
    fun d v behind isVend pending => ?_, fun d row col last origin => ?_⟩
  · rw [selt]
    simp only [State.handOutcome, origin, State.raise_selt]
    exact State.seltTest_congr gone row col _
  · rintro rfl
    exact test (State.notes_handTest origin _ _)
  · rw [selt]
    simp only [State.handOutcome, origin]
    rw [((s.warned.entryGone []).takeVendOutcome_tables v _ (by simp [pending])).1]
    exact State.seltVend_congr gone _ _ _
  · have isVend : e.isVend = true := by simp only [DriveEntry.isVend, origin]
    obtain ⟨y, o, -, -, -, -, notes, atHead, -⟩ :=
      State.warned_vend work list pending ⟨e, List.mem_cons_self, isVend⟩
    rw [← atHead isVend]
    exact vend notes
  · obtain ⟨y, o, -, -, -, -, notes, -, pendingEntry⟩ :=
      State.warned_vend work list pending ⟨d, List.mem_cons_of_mem _ behind, isVend⟩
    rw [← pendingEntry ⟨d, behind, isVend⟩]
    exact vend notes
  · exact test (s.warned.entriesDropped_last _ last origin)

/-- What the session keeps of a pending vend after the event (R41, R71). -/
theorem State.warning_session (session : SessionLaw s) (work : WorkListLaw s)
    (vend : ∃ e ∈ s.sdc.list, e.isVend = true) (t : State) (ends : s.warned.stopDrive.EventEnds t) :
    t.sesc.pendingVend = none ∧ t.sesc.credit = s.sesc.credit ∧ t.chu.totals = s.chu.totals ∧
    (s.sesc.kind = .cash → t.sesc.phase = .cashCredit) ∧
    (s.sesc.kind = .cashless → t.sesc.authorized = none ∧ t.notes (.cashlessSettle 0)) := by
  have vending := work.vending vend
  obtain ⟨v, pending⟩ := Option.isSome_iff_exists.1 (session.vend.2 (.inr vending))
  cases list : s.sdc.list with
  | nil =>
    rw [list] at vend
    obtain ⟨e, he, -⟩ := vend
    cases he
  | cons e rest =>
    rw [list] at vend
    obtain ⟨y, o, ysesc, ychu, sesc, chu, notes, -, -⟩ := State.warned_vend work list pending vend
    obtain ⟨-, free, -, credit, totals, cash, cashless⟩ := y.vendFailed_leaves v o
    rw [ysesc] at credit cash cashless
    rw [ychu] at totals
    refine ⟨ends.free (by rw [sesc, free]), by rw [ends.credit, sesc, credit],
      by rw [ends.totals, chu, totals], fun kind => ?_, fun kind => ?_⟩
    · have payout : s.warned.stopDrive.chu.payout = s.chu.payout := by
        rw [chu, State.vendFailed_cash v o (by rw [ysesc]; exact kind), ychu]
      have unmarked : s.chu.payout.endMark = false := by
        refine Bool.eq_false_iff.2 fun mark => ?_
        obtain ⟨-, -, paying⟩ := session.marked mark
        rw [vending] at paying; cases paying
      have service (busy : s.chu.payout.state ≠ .idle) : s.chu.payout.kind ≠ .change := fun change => by
        have paying := session.change busy change
        rw [vending] at paying; cases paying
      rw [ends.session (by rw [payout]; exact service) (by rw [payout]; exact unmarked), sesc]
      exact cash kind
    · obtain ⟨none, settled, -⟩ := cashless kind
      exact ⟨ends.unauthorized (by rw [sesc, none]), ends.notes _
        (by simp [Notice.offPayout, Notice.kindNo]) (by simp [Notice.kindNo])
        (notes _ (by simp [Notice.kindNo]) settled)⟩

/-- The warning is gone, and the band is set from a VDRIVE value, where there is one (R135). -/
def State.bandFrom (s : State) (v : Option Nat) : State :=
  match v with
  | some mv => ({ s with lba := { s.lba with pfw := false } }).setBand (bandAfter .zero mv)
  | none => { s with lba := { s.lba with pfw := false } }

/-- The event of a deassertion (R135, R203). -/
theorem exec_pfwDeassertion (on : s.power ≠ .off) (warned : s.lba.pfw = true) :
    exec .pfwDeassertion s = .next (s.bandFrom s.lba.vdrive).grantPass := by
  have acts : s.deassertWarning = (s.bandFrom s.lba.vdrive).grantPass := by
    cases value : s.lba.vdrive <;>
      simp only [State.deassertWarning, warned, if_true, value, State.bandFrom]
  have view : (s.bandFrom s.lba.vdrive).grantPass.sesc.view = s.sesc.view := by
    cases s.lba.vdrive <;> simp [State.bandFrom]
  rw [exec_of_event rfl on acts, State.closeEvent_of_view _ view]

/-- Settles O12: the pass at band ZERO (`warned_draws`), the work list's stop (`stopDrive_stops`) and the rest of
the event (`eventEnds`) are calm in turn, so what the first leaves stands; the entries' outcomes are read off
`warning_outcomes` and `warning_session`. -/
theorem warningStopsWork : Obligations.WarningStopsWork := by
  refine ⟨fun s on calm grant session work => ?_, fun s on warned => ?_⟩
  · obtain ⟨selt, sesc, sdc, chu, zero, pfw⟩ := s.warned_unchanged
    obtain ⟨compressor, defrost, stops, heater⟩ := s.warned_draws grant
    have drive := s.warned.stopDrive_stops (by rw [sdc]; exact work.head)
      (by rw [sdc]; exact work.taken) (by rw [sdc]; exact grant.energized)
    have ends := s.warned.stopDrive.eventEnds s.sesc
    have quiet := drive.calm.trans ends.calm
    have still : s.warned.stopDrive.lba.band = .zero := drive.calm.band.trans zero
    have executor : s.warned.Executor (s.chu.payout.state ≠ .idle) := by
      unfold State.Executor
      rw [chu]
      exact ⟨.inl, grant.pulse⟩
    have ok := drive.executor _ zero executor
    refine ⟨_, exec_pfwAssertion on calm, quiet.pfw.trans pfw, quiet.band.trans zero,
      by rw [ends.sdc, drive.list], by rw [ends.sdc, drive.seq], by rw [ends.sdc, drive.energized],
      ends.state, ends.pulse _ ok, ends.running, fun h => quiet.compressor (stops h),
      fun h => quiet.heater (heater h), ends.image, ends.saving,
      by rw [ends.sdc, drive.curtain, sdc], quiet.held zero _ compressor, quiet.held zero _ defrost,
      ends.damper still, fun some => ends.calm.held still _ (drive.spiral zero (by rwa [sdc])),
      ends.held _ still ok, fun none => ?_, fun e rest list => ?_, fun some => ?_⟩
    · have same : s.warned.stopDrive = s.warned := by simp only [State.stopDrive, sdc, none]
      rw [ends.selt, same, selt]
    · exact State.warning_outcomes work list _ ends
    · exact State.warning_session session work some _ ends
  · have acts := exec_pfwDeassertion on warned
    refine ⟨_, acts, ?_⟩
    cases s.lba.vdrive <;> simp [State.bandFrom]

end Sys2Proof.Machine
end

section
/-! SUPPORT. What the blocks of power and climate leave as it was: LBA, MSC, ZTC and RFC write their own records
and the notice set alone. -/

namespace Sys2Proof.Machine

variable {s t : State}

/-- From `s` to `t` nothing has changed but LBA, MSC, ZTC, RFC and the notices. -/
def State.Aside (s t : State) : Prop :=
  t = { s with
    lba := t.lba, msc := t.msc, ztc := t.ztc, rfc := t.rfc
    hli := { s.hli with notices := t.hli.notices } }

theorem State.Aside.refl (s : State) : s.Aside s := rfl

theorem State.Aside.trans {u : State} (h : s.Aside t) (k : t.Aside u) : s.Aside u :=
  Eq.trans k (congrArg (fun x : State => { x with
    lba := u.lba, msc := u.msc, ztc := u.ztc, rfc := u.rfc
    hli := { x.hli with notices := u.hli.notices } }) h)

/-- What a step aside leaves. -/
theorem State.Aside.unchanged (h : s.Aside t) : t.pending = s.pending ∧ t.power = s.power ∧
    t.settings = s.settings ∧ t.selt = s.selt ∧ t.sesc = s.sesc ∧ t.sdc = s.sdc ∧ t.chu = s.chu ∧
    t.cbm = s.cbm ∧ t.hli.slot = s.hli.slot ∧ t.hli.doorOpen = s.hli.doorOpen ∧ t.rst = s.rst := by
  rw [State.Aside] at h
  rw [h]
  exact ⟨rfl, rfl, rfl, rfl, rfl, rfl, rfl, rfl, rfl, rfl, rfl⟩

theorem State.raise_aside (s : State) (n : Notice) : s.Aside (s.raise n) := rfl

theorem State.setLoad_aside (s : State) (l : Load) (r : LoadRec) : s.Aside (s.setLoad l r) := rfl

theorem State.setRfc_aside (s : State) (x : RfcState) : s.Aside (s.setRfc x) := rfl

theorem State.setZone_aside (s : State) (z : ZoneNo) (r : Zone) : s.Aside (s.setZone z r) := rfl

theorem State.setMsc_aside (s : State) (x : Msc) : s.Aside (s.setMsc x) := rfl

/-! ### LBA -/

theorem State.grantPass_aside (s : State) : s.Aside s.grantPass := by
  obtain ⟨_, _, _, h⟩ := s.grantPass_frame
  rw [h]; rfl

theorem State.request_aside (s : State) (l : Load) (w : Nat) : s.Aside (s.request l w) := by
  obtain ⟨_, _, _, h⟩ := s.request_frame l w
  rw [h]; rfl

theorem State.release_aside (s : State) (l : Load) : s.Aside (s.release l) := by
  obtain ⟨_, _, _, h⟩ := s.release_frame l
  rw [h]; rfl

theorem State.reduceWeight_aside (s : State) (l : Load) (w : Nat) : s.Aside (s.reduceWeight l w) := by
  obtain ⟨_, _, _, h⟩ := s.reduceWeight_frame l w
  rw [h]; rfl

theorem State.setBand_aside (s : State) (b : Band) : s.Aside (s.setBand b) := by
  obtain ⟨_, h⟩ := s.setBand_frame b
  rw [h]; rfl

theorem State.promote_aside (s : State) (l : Load) : s.Aside (s.promote l) := by
  unfold State.promote
  split
  · exact (s.setLoad_aside l _).trans (State.grantPass_aside _)
  · exact .refl s

theorem State.promoteAllDue_aside (s : State) : s.Aside s.promoteAllDue := rfl

theorem State.promoteIfDue_aside (s : State) (l : Load) : s.Aside (s.promoteIfDue l) := rfl

/-- A grant taken by an effect that works aside. -/
theorem State.takeGrant_aside (s : State) (l : Load) {f : State → State} (h : ∀ x : State, x.Aside (f x)) :
    s.Aside (s.takeGrant l f) := by
  rcases s.takeGrant_cases l f with ⟨-, -, e⟩ | ⟨-, e⟩
  · rw [e]; exact State.Aside.trans (t := s.tookGrant l) rfl (h _)
  · rw [e]; exact .refl s

theorem State.vdriveTakes_aside (s : State) : s.Aside s.vdriveTakes := by
  unfold State.vdriveTakes
  split
  · exact .refl s
  · next mv _ =>
    have taken : s.Aside { s with
        msc := { s.msc with handedVdrive := none }, lba := { s.lba with vdrive := some mv } } := rfl
    dsimp only
    split
    · exact taken
    · unfold State.setBandAndPass
      split
      · exact taken
      · exact (taken.trans (State.setBand_aside _ _)).trans (State.grantPass_aside _)

theorem State.deassertWarning_aside (s : State) : s.Aside s.deassertWarning := by
  unfold State.deassertWarning
  split
  · dsimp only
    have calm : s.Aside { s with lba := { s.lba with pfw := false } } := rfl
    split
    · exact (calm.trans (State.setBand_aside _ _)).trans (State.grantPass_aside _)
    · exact calm.trans (State.grantPass_aside _)
  · exact .refl s

/-! ### RFC -/

theorem State.stopCompressor_aside (s : State) : s.Aside s.stopCompressor := by
  obtain ⟨_, _, _, h⟩ := s.stopCompressor_frame
  rw [h]; rfl

theorem State.enterDefrost_aside (s : State) : s.Aside s.enterDefrost := by
  obtain ⟨_, _, _, h⟩ := s.enterDefrost_frame
  rw [h]; rfl

theorem State.enterWaitPower_aside (s : State) : s.Aside s.enterWaitPower := by
  obtain ⟨_, _, _, h⟩ := s.enterWaitPower_frame
  rw [h]; rfl

theorem State.leaveWaitPower_aside (s : State) (x : RfcState) : s.Aside (s.leaveWaitPower x) := by
  obtain ⟨_, _, _, h⟩ := s.leaveWaitPower_frame x
  rw [h]; rfl

theorem State.readyCheck_aside (s : State) : s.Aside s.readyCheck := by
  obtain ⟨_, _, _, h⟩ := s.readyCheck_frame
  rw [h]; rfl

theorem State.defrostDue_aside (s : State) : s.Aside s.defrostDue := by
  unfold State.defrostDue
  split
  case h_1 | h_2 => exact s.stopCompressor_aside.trans (State.enterDefrost_aside _)
  case h_3 => exact s.enterDefrost_aside
  case h_4 => exact (s.leaveWaitPower_aside _).trans (State.enterDefrost_aside _)
  all_goals rfl

theorem State.lockoutEnds_aside (s : State) : s.Aside s.lockoutEnds := by
  unfold State.lockoutEnds
  split
  · exact s.enterDefrost_aside
  · split
    · exact s.enterWaitPower_aside
    · rfl

theorem State.dripEnds_aside (s : State) : s.Aside s.dripEnds := by
  have recovers : s.Aside { s with rfc := { s.rfc with recovery := some recoveryMs } } := rfl
  unfold State.dripEnds
  dsimp only
  split
  · exact recovers.trans (State.setRfc_aside _ _)
  · exact (recovers.trans (State.setRfc_aside _ _)).trans (State.readyCheck_aside _)

theorem State.endDefrost_aside (s : State) : s.Aside s.endDefrost := by
  have drips : s.Aside { s with rfc := { s.rfc with
      state := .drip, heaterOn := false, dripTime := 0 } } := rfl
  unfold State.endDefrost
  dsimp only
  split
  · exact (drips.trans (State.release_aside _ _)).trans (State.dripEnds_aside _)
  · exact drips.trans (State.release_aside _ _)

theorem State.takeEvap_aside (s : State) (v : Option Int) : s.Aside (s.takeEvap v) := by
  have taken : s.Aside { s with rfc := { s.rfc with evap := v } } := rfl
  unfold State.takeEvap
  dsimp only
  split
  · exact taken.trans (State.readyCheck_aside _)
  · split
    · exact taken.trans (State.leaveWaitPower_aside _ _)
    · exact taken
  · split
    · exact taken.trans (State.stopCompressor_aside _)
    · exact taken
  · split
    · exact taken.trans (State.stopCompressor_aside _)
    · exact taken
  · split
    · split
      · exact taken.trans (State.endDefrost_aside _)
      · exact taken
    · exact taken
  · exact taken

theorem State.evapTakes_aside (s : State) : s.Aside s.evapTakes := by
  unfold State.evapTakes
  split
  · exact .refl s
  · dsimp only
    split <;> exact (s.setMsc_aside _).trans (State.takeEvap_aside _ _)

theorem State.rfcSettingWritten_aside (s : State) (num : Nat) : s.Aside (s.rfcSettingWritten num) := by
  unfold State.rfcSettingWritten
  split
  · split
    · split
      · exact s.lockoutEnds_aside
      · exact .refl s
    · split <;> rfl
    · split
      · exact s.leaveWaitPower_aside _
      · exact .refl s
    · exact .refl s
  · split
    · exact s.stopCompressor_aside
    · exact .refl s
  · split
    · exact s.defrostDue_aside
    · exact .refl s
  · split
    · exact s.defrostDue_aside
    · exact .refl s
  · split
    · exact s.endDefrost_aside
    · exact .refl s
  · split
    · exact s.dripEnds_aside
    · exact .refl s
  · exact .refl s

theorem State.takeCompressor_aside (s : State) : s.Aside s.takeCompressor := by
  refine s.takeGrant_aside .compressor fun x => ?_
  split
  · rfl
  · split
    · exact .refl x
    · exact x.release_aside _

theorem State.takeDefrost_aside (s : State) : s.Aside s.takeDefrost := by
  refine s.takeGrant_aside .defrost fun x => ?_
  split
  · rfl
  · exact x.release_aside _

theorem State.startWindowEnds_aside (s : State) : s.Aside s.startWindowEnds :=
  State.Aside.trans (t := { s with rfc := { s.rfc with state := .running, startWindow := none } }) rfl
    (State.reduceWeight_aside _ _ _)

theorem State.recoveryEnds_aside (s : State) : s.Aside s.recoveryEnds := rfl

/-! ### ZTC -/

theorem State.askDamper_aside (s : State) : s.Aside s.askDamper := by
  obtain ⟨_, _, _, h⟩ := s.askDamper_frame
  rw [h]; rfl

theorem State.updateDemand_aside (s : State) : s.Aside s.updateDemand := by
  obtain ⟨_, _, _, _, h⟩ := s.updateDemand_frame
  rw [h]; rfl

theorem State.queueCheck_aside (s : State) (z : ZoneNo) : s.Aside (s.queueCheck z) := by
  obtain ⟨_, _, _, _, _, h⟩ := s.queueCheck_frame z
  rw [h]; rfl

theorem State.stopMove_aside (s : State) : s.Aside s.stopMove := by
  obtain ⟨_, _, _, _, h⟩ := s.stopMove_frame
  rw [h]; rfl

theorem State.setTarget_aside (s : State) (z : ZoneNo) (t : Target) : s.Aside (s.setTarget z t) :=
  (s.setZone_aside z _).trans (State.queueCheck_aside _ z)

theorem State.holdZone_aside (s : State) (z : ZoneNo) (c : HoldCause) : s.Aside (s.holdZone z c) := by
  unfold State.holdZone
  split <;> rfl

theorem State.restoreCheck_aside (s : State) (z : ZoneNo) (t : Int) : s.Aside (s.restoreCheck z t) := by
  unfold State.restoreCheck
  dsimp only
  split
  · split
    · exact (s.setZone_aside z _).trans (State.holdZone_aside _ z _)
    · rfl
  · exact .refl s

theorem State.takeTemperature_aside (s : State) (z : ZoneNo) (h : Handed) :
    s.Aside (s.takeTemperature z h) := by
  cases h with
  | value t =>
    unfold State.takeTemperature
    dsimp only
    split
    · exact ((s.setZone_aside z _).trans (State.restoreCheck_aside _ z t)).trans
        (State.setTarget_aside _ z _)
    · rfl
  | fault =>
    unfold State.takeTemperature
    dsimp only
    split
    · exact ((s.setZone_aside z _).trans (State.holdZone_aside _ z _)).trans (State.setTarget_aside _ z _)
    · rfl

theorem State.zoneTakes_aside (s : State) (z : Fin 4) : s.Aside (s.zoneTakes z) := by
  unfold State.zoneTakes
  split
  · exact .refl s
  · dsimp only
    split
    · exact (s.setMsc_aside _).trans (State.takeTemperature_aside _ _ _)
    · rfl

theorem State.markZone_aside (s : State) (z : ZoneNo) : s.Aside (s.markZone z) := by
  unfold State.markZone
  dsimp only
  split
  · split
    · exact (s.setZone_aside z _).trans (State.holdZone_aside _ z _)
    · rfl
  · exact .refl s

theorem State.zoneToChilled_aside (s : State) (z : ZoneNo) : s.Aside (s.zoneToChilled z) := by
  have cleared := s.setZone_aside z { s.zone z with restorePending := false }
  unfold State.zoneToChilled
  dsimp only
  split
  · exact (cleared.trans (State.holdZone_aside _ z _)).trans (State.setTarget_aside _ z _)
  · exact cleared.trans (State.setTarget_aside _ z _)
  · exact cleared.trans (State.queueCheck_aside _ z)

theorem State.zoneRetarget_aside (s : State) (z : ZoneNo) (c : ZoneSettings) :
    s.Aside (s.zoneRetarget z c) := by
  unfold State.zoneRetarget
  split
  · split
    · exact .refl s
    · exact s.setTarget_aside z _
  · exact .refl s

theorem State.thresholdCheck_aside (s : State) (z : ZoneNo) : s.Aside (s.thresholdCheck z) := by
  unfold State.thresholdCheck
  split
  · exact s.holdZone_aside z _
  · exact .refl s

theorem State.writeZone_aside (s : State) (z : ZoneNo) (c : ZoneSettings) : s.Aside (s.writeZone z c) := by
  have written := s.setZone_aside z { s.zone z with cfg := c }
  unfold State.writeZone
  dsimp only
  split
  · exact (written.trans (State.zoneToChilled_aside _ z)).trans (State.thresholdCheck_aside _ z)
  · exact ((written.trans (State.setZone_aside _ z _)).trans (State.setTarget_aside _ z _)).trans
      (State.thresholdCheck_aside _ z)
  · exact (written.trans (State.zoneRetarget_aside _ z _)).trans (State.thresholdCheck_aside _ z)
  · exact written.trans (State.thresholdCheck_aside _ z)

theorem State.takeDamper_aside (s : State) : s.Aside s.takeDamper := by
  refine s.takeGrant_aside .damper fun x => ?_
  split
  · unfold State.startMove
    split
    · exact x.release_aside _
    · next z t rest _ =>
      exact State.Aside.trans (t := ({ x with ztc := { x.ztc with
        queue := rest, running := some ⟨z, t, damperMoveMs⟩ } } : State).setZone z _) rfl
        (State.updateDemand_aside _)
  · exact .refl x

theorem State.endMove_aside (s : State) : s.Aside s.endMove := by
  unfold State.endMove
  split
  · exact .refl s
  · next m _ =>
    have stopped : s.Aside ({ s.setZone m.zone { s.zone m.zone with damper := m.target.position } with
      ztc := { (s.setZone m.zone { s.zone m.zone with damper := m.target.position }).ztc with
        running := none } }) := rfl
    exact ((stopped.trans (State.release_aside _ _)).trans (State.askDamper_aside _)).trans
      (State.updateDemand_aside _)

theorem State.clearHold_aside (s : State) (z : ZoneNo) : s.Aside (s.clearHold z) := by
  unfold State.clearHold
  dsimp only
  split <;> rfl

/-! ### MSC -/

theorem State.setChannels_aside (s : State) (cs : Five Channel) : s.Aside (s.setChannels cs) := by
  unfold State.setChannels State.evapNotice
  dsimp only
  split
  · rfl
  · split <;> rfl

theorem State.passFails_aside (s : State) : s.Aside s.passFails := by
  unfold State.passFails
  dsimp only
  have failed : s.Aside (if s.msc.refFault then
      s.setMsc { s.msc with refFault := true, failCount := min 120 (s.msc.failCount + 1) }
      else (s.setMsc { s.msc with refFault := true, failCount := min 120 (s.msc.failCount + 1) }).raise
        (.refrig .measFault none)) := by
    split <;> rfl
  generalize (if s.msc.refFault then _ else _ : State) = x at failed ⊢
  split
  · exact failed.trans (State.setChannels_aside _ _)
  · exact failed

theorem State.passUsed_aside (s : State) (p : SlowCodes) : s.Aside (s.passUsed p) := by
  unfold State.passUsed
  dsimp only
  have used : s.Aside (if s.msc.refFault then
      (s.setMsc { s.msc with refFault := false, failCount := 0 }).raise (.refrig .measClear none)
      else s.setMsc { s.msc with refFault := false, failCount := 0 }) := by
    split <;> rfl
  generalize (if s.msc.refFault then _ else _ : State) = x at used ⊢
  exact (used.trans (State.setMsc_aside _ _)).trans (State.setChannels_aside _ _)

theorem State.endPass_aside (s : State) (p : PassCodes) : s.Aside (s.endPass p) := by
  have judged (x : State) : x.Aside x.judgePass := by
    unfold State.judgePass
    split
    · split
      · exact x.passUsed_aside _
      · exact x.passFails_aside
    · exact .refl x
  exact ((s.setMsc_aside _).trans (judged _)).trans (State.setMsc_aside _ _)

end Sys2Proof.Machine
end

section
/-! SUPPORT. The session's law taken apart by the phase PAYING, and the steps that leave the session, the executor
and the cash totals as they were. -/

namespace Sys2Proof.Machine

variable {s t : State}

/-! ### The law by its records (R25, R26, R98, R107) -/

/-- The clauses of the session's law that speak of the session alone (R25, R26, R46). -/
structure Session.Held (x : Session) : Prop where
  vend : x.pendingVend.isSome = true ↔ x.phase = .stacking ∨ x.phase = .vending
  authorized : x.authorized.isSome = true ↔ x.kind = .cashless ∧ x.phase ≠ .idle
  cashless : x.kind = .cashless → x.phase ≠ .idle → x.phase = .cashlessReady ∨ x.phase = .vending
  ready : x.phase = .cashlessReady → x.kind = .cashless
  escrow : x.escrow.isSome = true → x.phase = .cashCredit ∨ x.phase = .stacking
  timer : x.inactivity.isSome = true → x.phase = .cashCredit ∨ x.phase = .cashlessReady

/-- No change payout runs and none is due, as in every phase but PAYING (R98, R107). -/
structure Payout.Free (p : Payout) : Prop where
  kind : p.state ≠ .idle → p.kind = .service
  mark : p.endMark = false
  window : p.window.isSome = true → p.state = .ejecting

/-- A change payout runs, or is due behind a SERVICE payout that is EJECTING, as in PAYING (R98, R107). -/
structure Payout.Pays (p : Payout) : Prop where
  runs : p.kind = .change ∧ p.endMark = false ∧ p.state ≠ .idle ∨
    p.kind = .service ∧ p.endMark = true ∧ p.state = .ejecting
  window : p.window.isSome = true → p.state = .ejecting

theorem PayKind.ne_change_iff {k : PayKind} : k ≠ .change ↔ k = .service := by cases k <;> simp

/-- The session's law is what the session holds with what its phase asks of the executor. -/
theorem sessionLaw_iff : SessionLaw s ↔ s.sesc.Held ∧
    (s.sesc.phase ≠ .paying → s.chu.payout.Free) ∧ (s.sesc.phase = .paying → s.chu.payout.Pays) := by
  constructor
  · intro ⟨vend, authorized, cashless, ready, escrow, timer, change, marked, paying, window⟩
    refine ⟨⟨vend, authorized, cashless, ready, escrow, timer⟩, fun phase => ⟨fun run => ?_, ?_, window⟩,
      fun phase => ⟨?_, window⟩⟩
    · exact PayKind.ne_change_iff.1 fun kind => phase (change run kind)
    · exact Bool.eq_false_iff.2 fun mark => phase (marked mark).2.2
    · obtain ⟨run, kind⟩ := paying phase
      cases mark : s.chu.payout.endMark with
      | false => exact .inl ⟨kind.resolve_right (by simp [mark]), rfl, run⟩
      | true =>
        obtain ⟨ejecting, service, -⟩ := marked mark
        exact .inr ⟨service, rfl, ejecting⟩
  · intro ⟨⟨vend, authorized, cashless, ready, escrow, timer⟩, free, pays⟩
    refine ⟨vend, authorized, cashless, ready, escrow, timer, fun run kind => ?_, fun mark => ?_,
      fun phase => ?_, fun some => ?_⟩
    · by_contra phase
      exact absurd ((free phase).kind run) (by simp [kind])
    · by_cases phase : s.sesc.phase = .paying
      · rcases (pays phase).runs with ⟨-, off, -⟩ | ⟨service, -, ejecting⟩
        · exact absurd mark (by simp [off])
        · exact ⟨ejecting, service, phase⟩
      · exact absurd mark (by simp [(free phase).mark])
    · rcases (pays phase).runs with ⟨change, -, run⟩ | ⟨-, mark, ejecting⟩
      · exact ⟨run, .inl change⟩
      · exact ⟨by simp [ejecting], .inr mark⟩
    · by_cases phase : s.sesc.phase = .paying
      · exact (pays phase).window some
      · exact (free phase).window some

theorem SessionLaw.held (h : SessionLaw s) : s.sesc.Held := (sessionLaw_iff.1 h).1

theorem SessionLaw.free (h : SessionLaw s) (phase : s.sesc.phase ≠ .paying) : s.chu.payout.Free :=
  (sessionLaw_iff.1 h).2.1 phase

theorem SessionLaw.pays (h : SessionLaw s) (phase : s.sesc.phase = .paying) : s.chu.payout.Pays :=
  (sessionLaw_iff.1 h).2.2 phase

/-- The law outside PAYING. -/
theorem SessionLaw.of_free (held : s.sesc.Held) (phase : s.sesc.phase ≠ .paying)
    (free : s.chu.payout.Free) : SessionLaw s :=
  sessionLaw_iff.2 ⟨held, fun _ => free, fun h => absurd h phase⟩

/-- The law in PAYING. -/
theorem SessionLaw.of_pays (held : s.sesc.Held) (phase : s.sesc.phase = .paying)
    (pays : s.chu.payout.Pays) : SessionLaw s :=
  sessionLaw_iff.2 ⟨held, fun h => absurd phase h, fun _ => pays⟩

/-- A CASH session without a vend, as a change payout finds it. -/
structure Session.Plain (x : Session) : Prop where
  kind : x.kind = .cash
  vend : x.pendingVend = none
  authorized : x.authorized = none

/-- In a phase that no CASHLESS session has, the session is CASH with nothing authorized. -/
theorem Session.Held.cash {x : Session} (h : x.Held) (idle : x.phase ≠ .idle)
    (ready : x.phase ≠ .cashlessReady) (vending : x.phase ≠ .vending) :
    x.kind = .cash ∧ x.authorized = none := by
  have kind : x.kind = .cash := by
    cases kind : x.kind with
    | cash => rfl
    | cashless => exact absurd (h.cashless kind idle) (by simp [ready, vending])
  refine ⟨kind, Option.not_isSome_iff_eq_none.1 fun some => ?_⟩
  exact absurd (h.authorized.1 some).1 (by simp [kind])

theorem Session.Held.no_vend {x : Session} (h : x.Held) (stacking : x.phase ≠ .stacking)
    (vending : x.phase ≠ .vending) : x.pendingVend = none :=
  Option.not_isSome_iff_eq_none.1 fun some => (h.vend.1 some).elim stacking vending

theorem Session.Held.no_escrow {x : Session} (h : x.Held) (credit : x.phase ≠ .cashCredit)
    (stacking : x.phase ≠ .stacking) : x.escrow = none :=
  Option.not_isSome_iff_eq_none.1 fun some => (h.escrow some).elim credit stacking

theorem Session.Held.plain {x : Session} (h : x.Held) (phase : x.phase = .paying) : x.Plain := by
  obtain ⟨kind, authorized⟩ := h.cash (by simp [phase]) (by simp [phase]) (by simp [phase])
  exact ⟨kind, h.no_vend (by simp [phase]) (by simp [phase]), authorized⟩

/-! ### Steps that leave session, executor and totals -/

/-- From `s` to `t` the session, the executor and the cash totals stay. -/
structure State.Still (s t : State) : Prop where
  sesc : t.sesc = s.sesc
  totals : t.chu.totals = s.chu.totals
  payout : t.chu.payout = s.chu.payout

theorem State.Still.refl (s : State) : s.Still s := ⟨rfl, rfl, rfl⟩

theorem State.Still.trans {u : State} (h : s.Still t) (k : t.Still u) : s.Still u :=
  ⟨k.sesc.trans h.sesc, k.totals.trans h.totals, k.payout.trans h.payout⟩

/-- A still step behind one that writes none of the three. -/
theorem State.Still.after {u : State} (h : t.Still u) (sesc : t.sesc = s.sesc := by rfl)
    (totals : t.chu.totals = s.chu.totals := by rfl) (payout : t.chu.payout = s.chu.payout := by rfl) :
    s.Still u := State.Still.trans ⟨sesc, totals, payout⟩ h

theorem State.Aside.still (h : s.Aside t) : s.Still t := by
  obtain ⟨-, -, -, -, sesc, -, chu, -⟩ := h.unchanged
  exact ⟨sesc, by rw [chu], by rw [chu]⟩

theorem State.closeEvent_still (s : State) (before : Session) : s.Still (s.closeEvent before) :=
  ⟨by simp, by simp, by simp⟩

theorem State.hand_still (s : State) (p : Peripheral) (f : PendingSet → PendingSet) :
    s.Still (s.hand p f) := ⟨by simp, by simp, by simp⟩

/-! ### CHU -/

theorem State.updateRoute_still (s : State) : s.Still s.updateRoute := by
  obtain ⟨_, _, h⟩ := s.updateRoute_frame
  rw [h]; exact ⟨rfl, rfl, rfl⟩

theorem State.updateMasks_still (s : State) : s.Still s.updateMasks := by
  obtain ⟨_, _, _, h⟩ := s.updateMasks_frame
  rw [h]; exact ⟨rfl, rfl, rfl⟩

theorem State.evalExact_still (s : State) : s.Still s.evalExact := ⟨by simp, by simp, by simp⟩

theorem State.tubesChanged_still (s : State) : s.Still s.tubesChanged :=
  s.updateRoute_still.trans (State.evalExact_still _)

theorem State.raiseTube_still (s : State) (i : Nat) (r : TubeReason) (cls : Option Nat) :
    s.Still (s.raiseTube i r cls) := by
  unfold State.raiseTube
  split <;> exact ⟨rfl, rfl, rfl⟩

theorem dropMappings_still (only : Option Nat) (k : Nat) (cs : List CoinClass) (s : State) :
    s.Still (dropMappings only k cs s) := by
  induction cs generalizing k s with
  | nil => exact .refl s
  | cons c cs ih =>
    have dropped (i : Nat) : s.Still (({ s with chu := { s.chu with
        coins := modifyAt (fun x => { x with tube := none }) k s.chu.coins } } : State).raiseTube i
          .mappingDropped (some k)) := by
      obtain ⟨sesc, totals, payout⟩ := State.raiseTube_still ({ s with chu := { s.chu with
        coins := modifyAt (fun x => { x with tube := none }) k s.chu.coins } }) i .mappingDropped (some k)
      exact ⟨sesc, totals, payout⟩
    simp only [dropMappings]
    split
    · exact ih _ s
    · split <;> split
      · exact (dropped _).trans (ih _ _)
      · exact ih _ s
      · exact (dropped _).trans (ih _ _)
      · exact ih _ s

theorem State.takeSetup_still (s : State) (p : Peripheral) (vs : List Nat) : s.Still (s.takeSetup p vs) := by
  cases p with
  | coin =>
    have written : s.Still { s with chu := { s.chu with coins := writeCoinValues s.chu.coins vs } } :=
      ⟨rfl, rfl, rfl⟩
    exact ((written.trans (dropMappings_still none 0 _ _)).trans (State.updateRoute_still _)).trans
      (State.updateMasks_still _)
  | bill =>
    have written : s.Still { s with chu := { s.chu with bills := writeBillValues s.chu.bills vs } } :=
      ⟨rfl, rfl, rfl⟩
    exact (written.trans (State.updateRoute_still _)).trans (State.updateMasks_still _)

theorem State.editTube_still (s : State) (i : Nat) (f : Tube → Tube) : s.Still (s.editTube i f) :=
  ⟨rfl, rfl, rfl⟩

theorem State.countCoin_still (s : State) (c : CoinClass) (toTube : Bool) :
    s.Still (s.countCoin c toTube) := by
  unfold State.countCoin
  split
  · split
    · split
      · exact (s.editTube_still _ _).trans (State.tubesChanged_still _)
      · exact .refl s
    · exact .refl s
  · exact .refl s

theorem State.correctCount_still (s : State) (i : Nat) (n : Option Nat) :
    s.Still (s.correctCount i n) := by
  unfold State.correctCount
  split
  · exact (s.editTube_still _ _).trans (State.raiseTube_still _ _ _ _)
  · exact .refl s

/-- What a switch that reads anew draws, with a correction or without (R77). -/
theorem State.redraws_still (s : State) (corrected : Bool) :
    s.Still (if corrected then s.tubesChanged else s.updateRoute) := by
  split
  · exact s.tubesChanged_still
  · exact s.updateRoute_still

theorem State.fullReads_still (s : State) (i : Nat) (active : Bool) : s.Still (s.fullReads i active) := by
  unfold State.fullReads
  dsimp only
  split
  · exact .refl s
  · next t _ =>
    by_cases same : t.full = if active then .active else .clear
    · rw [if_pos same]
      exact .refl s
    · rw [if_neg same]
      exact ((s.editTube_still i _).trans (State.correctCount_still _ i _)).trans
        (State.redraws_still _ _)

theorem State.lowReads_still (s : State) (i : Nat) (low : Bool) : s.Still (s.lowReads i low) := by
  unfold State.lowReads
  dsimp only
  split
  · exact .refl s
  · next t _ =>
    by_cases same : t.low = if low then .low else .notLow
    · rw [if_pos same]
      exact .refl s
    · rw [if_neg same]
      exact ((s.editTube_still i _).trans (State.correctCount_still _ i _)).trans
        (State.redraws_still _ _)

/-- A request on an assigned tube that refuses or works still. -/
theorem State.withTube_still (s : State) (i : Byte) {f : Tube → TubeAssign → Reply}
    (h : ∀ t a, s.Still (f t a).state) : s.Still (s.withTube i f).state := by
  unfold State.withTube
  split
  · split
    · exact h _ _
    · exact .refl s
  · exact .refl s

theorem State.defineTube_still (s : State) (i : Byte) (d : Half) (c l : Byte) :
    s.Still (s.defineTube i d c l).state := by
  unfold State.defineTube
  split
  · exact .refl s
  · dsimp only
    split
    · exact .refl s
    · split
      · exact .refl s
      · split
        · exact .refl s
        · exact ((s.editTube_still _ _).trans (dropMappings_still _ 0 _ _)).trans
            (State.tubesChanged_still _)

theorem State.setCount_still (s : State) (i : Byte) (n : Half) : s.Still (s.setCount i n).state := by
  refine s.withTube_still i fun t a => ?_
  split
  · exact .refl s
  · split
    · exact .refl s
    · split
      · exact .refl s
      · exact (s.editTube_still _ _).trans (State.tubesChanged_still _)

theorem State.setTubeState_still (s : State) (i : Byte) (x : TubeState) :
    s.Still (s.setTubeState i x).state := by
  refine s.withTube_still i fun t a => ?_
  split
  · exact .refl s
  · exact (s.editTube_still _ _).trans (State.tubesChanged_still _)

theorem State.setClass_still (s : State) (cls : Byte) (enabled : Bool) (tube : Option Byte) :
    s.Still (s.setClass cls enabled tube).state := by
  unfold State.setClass
  split
  · exact .refl s
  · dsimp only
    split
    · exact .refl s
    · next c _ _ =>
      have written : s.Still { s with chu := { s.chu with coins := modifyAt (fun _ => { c with
          enabled := enabled, tube := tube.map BitVec.toNat }) cls.toNat s.chu.coins } } := ⟨rfl, rfl, rfl⟩
      exact (written.trans (State.updateRoute_still _)).trans (State.updateMasks_still _)

theorem State.setBill_still (s : State) (cls : Byte) (enabled : Bool) :
    s.Still (s.setBill cls enabled).state := by
  unfold State.setBill
  split
  · exact .refl s
  · next b _ =>
    have written : s.Still { s with chu := { s.chu with
        bills := modifyAt (fun _ => { b with enabled := enabled }) cls.toNat s.chu.bills } } := ⟨rfl, rfl, rfl⟩
    exact written.trans (State.updateMasks_still _)

theorem State.setProbes_still (s : State) (p1 p2 p3 p4 : Half) :
    s.Still (s.setProbes p1 p2 p3 p4).state := by
  have written (p : Probes) : s.Still { s with chu := { s.chu with probes := p } } := ⟨rfl, rfl, rfl⟩
  exact (written _).trans (State.evalExact_still _)

theorem State.changeDoor_still (s : State) (isOpen : Bool) : s.Still (s.changeDoor isOpen) := by
  unfold State.changeDoor
  dsimp only
  split
  · exact .refl s
  · have reads : s.Still (if isOpen then
        ({ s with hli := { s.hli with doorOpen := isOpen } } : State).raise (.door isOpen)
        else (({ s with hli := { s.hli with doorOpen := isOpen } } : State).raise
          (.door isOpen)).dropPendingTests) := by
      split <;> exact ⟨rfl, rfl, rfl⟩
    exact reads.trans (State.updateMasks_still _)

/-! ### SDC -/

theorem State.takeHead_still (s : State) : s.Still s.takeHead := ⟨by simp, by simp, by simp⟩

theorem State.enterAwaitPower_still (s : State) (u : DriveUnit) : s.Still (s.enterAwaitPower u) :=
  ⟨by simp, by simp, by simp⟩

theorem State.deenergize_still (s : State) : s.Still s.deenergize := ⟨by simp, by simp, by simp⟩

theorem State.enterSettling_still (s : State) : s.Still s.enterSettling :=
  s.deenergize_still.trans ⟨rfl, rfl, rfl⟩

theorem State.takeSpiral_still (s : State) (homeOpen : Bool) : s.Still (s.takeSpiral homeOpen) := by
  unfold State.takeSpiral
  rcases s.takeGrant_cases .spiral _ with ⟨-, -, e⟩ | ⟨-, e⟩
  · rw [e]
    refine State.Still.trans (t := s.tookGrant .spiral) ⟨rfl, rfl, rfl⟩ ?_
    split
    · exact ⟨rfl, rfl, rfl⟩
    · exact .refl _
    · exact .refl _
    · exact (State.release_aside _ _).still
  · rw [e]; exact .refl s

theorem State.testRequest_still (s : State) (row col : Nat) : s.Still (s.testRequest row col).state := by
  unfold State.testRequest
  split
  · exact .refl s
  · split
    · exact .refl s
    · split
      · exact .refl s
      · exact State.Still.trans (t := s.setList (s.sdc.list ++ [s.testEntry row col])) ⟨rfl, rfl, rfl⟩
          (State.takeHead_still _)

/-! ### CBM -/

theorem State.editPeriph_still (s : State) (p : Peripheral) (f : PeriphRec → PeriphRec) :
    s.Still (s.editPeriph p f) := ⟨rfl, rfl, rfl⟩

theorem State.queueSetup_still (s : State) (p : Peripheral) : s.Still (s.queueSetup p) := by
  cases p <;> exact ⟨rfl, rfl, rfl⟩

theorem State.probeFails_still (s : State) (p : Peripheral) : s.Still (s.probeFails p) := by
  unfold State.probeFails
  dsimp only
  split <;> exact ⟨rfl, rfl, rfl⟩

theorem State.comeOnline_still (s : State) (p : Peripheral) : s.Still (s.comeOnline p) :=
  ((s.editPeriph_still p _).trans (State.queueSetup_still _ p)).trans ⟨rfl, rfl, rfl⟩

theorem State.serveNew_still (s : State) (p : Peripheral) : s.Still (s.serveNew p) := by
  unfold State.serveNew
  dsimp only
  split
  · exact ⟨rfl, rfl, rfl⟩
  · split
    · exact ⟨rfl, rfl, rfl⟩
    · exact ⟨rfl, rfl, rfl⟩
    · split
      · exact ⟨rfl, rfl, rfl⟩
      · split <;> exact ⟨rfl, rfl, rfl⟩

theorem State.serve_still (s : State) (p : Peripheral) : s.Still (s.serve p) := by
  unfold State.serve
  split
  · split
    · exact ⟨rfl, rfl, rfl⟩
    · exact s.serveNew_still p
  · split <;> exact ⟨rfl, rfl, rfl⟩

theorem serveLate_still (ps : List Peripheral) (s : State) : s.Still (serveLate ps s) := by
  induction ps generalizing s with
  | nil => exact ⟨rfl, rfl, rfl⟩
  | cons p ps ih =>
    simp only [serveLate]
    split
    · exact (s.serve_still p).trans (ih _)
    · exact (s.serve_still p).trans ⟨rfl, rfl, rfl⟩

theorem State.endExchange_still (s : State) : s.Still s.endExchange :=
  State.Still.trans (t := s.setBus .idle) ⟨rfl, rfl, rfl⟩ (serveLate_still _ _)

theorem State.openSlot_still (s : State) : s.Still s.openSlot := by
  have opened : s.Still { s with cbm := { s.cbm with
    slotLeft := slotMs, nextSlot := otherPeriph s.cbm.nextSlot } } := ⟨rfl, rfl, rfl⟩
  unfold State.openSlot
  dsimp only
  split
  · exact opened.trans (State.serve_still _ _)
  · exact ⟨rfl, rfl, rfl⟩

theorem State.frameSent_still (s : State) : s.Still s.frameSent := by
  unfold State.frameSent
  split <;> exact ⟨rfl, rfl, rfl⟩

theorem State.confirmed_still (s : State) : s.Still s.confirmed := by
  unfold State.confirmed
  split
  · exact s.endExchange_still
  · exact .refl s

theorem State.busReset_still (s : State) (address : Byte) : s.Still (s.busReset address).state := by
  unfold State.busReset
  split
  · exact .refl s
  · split <;> exact ⟨rfl, rfl, rfl⟩

theorem State.setupTaken_still (s : State) (p : Peripheral) (vs : List Nat) :
    s.Still (s.setupTaken p vs) :=
  State.Still.trans
    (t := (s.editPeriph p fun r => { r with outstanding := none }).setBus (.confirming p))
    ⟨rfl, rfl, rfl⟩ (State.takeSetup_still _ p vs)

end Sys2Proof.Machine
end

section
/-! SUPPORT. What each operation on the session, the executor and the money keeps of the session's law and of the
money balance (R25, R26, R88, R98, R107). -/

namespace Sys2Proof.Machine

variable {s t : State}

/-! ### Steps within the laws -/

/-- The money balance, and no credit in IDLE (R25, R88). -/
structure State.Books (s : State) : Prop where
  live : balanced s.chu.totals s.sesc.credit
  idle : s.sesc.phase = .idle → s.sesc.credit = 0

theorem balanced.coin {x : Totals} {c : Money} (h : balanced x c) (v : Money) :
    balanced { x with coinsIn := x.coinsIn + v } (c + v) := by
  simp only [balanced] at h ⊢
  rw [add_right_comm, h, add_assoc]

theorem balanced.bill {x : Totals} {c : Money} (h : balanced x c) (v : Money) :
    balanced { x with billsIn := x.billsIn + v } (c + v) := by
  simp only [balanced] at h ⊢
  rw [← add_assoc, h, add_assoc]

theorem balanced.charge {x : Totals} {c : Money} (h : balanced x c) (v : Money) :
    balanced { x with cashSales := x.cashSales + v } (c - v) := by
  simp only [balanced] at h ⊢
  rw [h]
  ring

theorem balanced.change {x : Totals} {c : Money} (h : balanced x c) (v : Money) :
    balanced { x with changePaid := x.changePaid + v } (c - v) := by
  simp only [balanced] at h ⊢
  rw [h]
  ring

/-- From `s` to `t` the session's law is kept, and under it the money balance. -/
structure State.Lawful (s t : State) : Prop where
  session : SessionLaw s → SessionLaw t
  books : SessionLaw s → s.Books → t.Books

theorem State.Lawful.trans {u : State} (h : s.Lawful t) (k : t.Lawful u) : s.Lawful u :=
  ⟨fun law => k.session (h.session law), fun law books => k.books (h.session law) (h.books law books)⟩

/-- What the session's law says of `s` may be used of the step from it. -/
theorem State.Lawful.assuming (h : SessionLaw s → s.Lawful t) : s.Lawful t :=
  ⟨fun law => (h law).session law, fun law => (h law).books law⟩

theorem SessionLaw.congr (h : SessionLaw s) (sesc : t.sesc = s.sesc)
    (payout : t.chu.payout = s.chu.payout) : SessionLaw t := by
  rw [sessionLaw_iff] at h ⊢
  rwa [sesc, payout]

theorem State.Still.lawful (h : s.Still t) : s.Lawful t where
  session law := law.congr h.sesc h.payout
  books _ books := ⟨by rw [h.totals, h.sesc]; exact books.live, by rw [h.sesc]; exact books.idle⟩

theorem State.Lawful.refl (s : State) : s.Lawful s := (State.Still.refl s).lawful

theorem State.Aside.lawful (h : s.Aside t) : s.Lawful t := h.still.lawful

/-- From `s` to `t` the session's law is met, no money has moved, and IDLE is without credit. -/
structure State.Stands (s t : State) : Prop where
  law : SessionLaw t
  totals : t.chu.totals = s.chu.totals
  credit : t.sesc.credit = s.sesc.credit
  idle : t.sesc.phase = .idle → t.sesc.credit = 0

theorem State.Stands.books (h : s.Stands t) (live : balanced s.chu.totals s.sesc.credit) : t.Books :=
  ⟨by rw [h.totals, h.credit]; exact live, h.idle⟩

/-- A step by way of a state in which the money balances. -/
theorem State.Lawful.of_balanced {x : State}
    (live : balanced s.chu.totals s.sesc.credit → balanced x.chu.totals x.sesc.credit)
    (h : SessionLaw s → x.Stands t) : s.Lawful t :=
  ⟨fun law => (h law).law, fun law books => (h law).books (live books.live)⟩

theorem State.Lawful.of_stands (h : SessionLaw s → s.Stands t) : s.Lawful t := .of_balanced id h

/-- The same money stands where it stood before. -/
theorem State.Stands.of_same {b : State} (h : b.Stands t) (totals : b.chu.totals = s.chu.totals)
    (credit : b.sesc.credit = s.sesc.credit) : s.Stands t :=
  ⟨h.law, h.totals.trans totals, h.credit.trans credit, h.idle⟩

/-! ### Time -/

theorem runDown_isSome (x : Option Nat) (d : Nat) : (runDown x d).isSome = x.isSome := by
  simp [runDown]

theorem Payout.elapse_window (p : Payout) (d : Nat) : (p.elapse d).window.isSome = p.window.isSome := by
  simp [Payout.elapse]

theorem SessionLaw.elapse (h : SessionLaw s) (d : Nat) : SessionLaw (s.elapse d) :=
  ⟨h.vend, h.authorized, h.cashless, h.ready, h.escrow,
    fun some => h.timer ((runDown_isSome _ d).symm.trans some), h.change, h.marked, h.paying,
    fun some => h.window ((Payout.elapse_window _ d).symm.trans some)⟩

theorem State.elapse_lawful (s : State) (d : Nat) : s.Lawful (s.elapse d) :=
  ⟨fun law => law.elapse d, fun _ books => ⟨books.live, books.idle⟩⟩

/-! ### The inactivity timer (R46) -/

theorem State.startInactivity_lawful
    (phase : s.sesc.phase = .cashCredit ∨ s.sesc.phase = .cashlessReady) : s.Lawful s.startInactivity :=
  ⟨fun h => ⟨h.vend, h.authorized, h.cashless, h.ready, h.escrow, fun _ => phase, h.change, h.marked,
    h.paying, h.window⟩, fun _ books => ⟨books.live, books.idle⟩⟩

theorem State.restartInactivity_lawful (s : State) : s.Lawful s.restartInactivity := by
  refine .assuming fun law => ?_
  unfold State.restartInactivity
  split
  · next runs => exact State.startInactivity_lawful (law.timer runs)
  · exact .refl s

theorem State.inactivityWritten_lawful (s : State) : s.Lawful s.inactivityWritten := by
  unfold State.inactivityWritten
  split
  · next phase => exact State.startInactivity_lawful phase
  · exact .refl s

/-! ### CASH_CREDIT and IDLE (R25, R32) -/

theorem State.closeSession_held (s : State) : s.closeSession.sesc.Held := by
  constructor <;> simp [State.closeSession]

theorem Session.Plain.credit_held (h : s.sesc.Plain) : s.backToCredit.sesc.Held := by
  constructor <;> simp [State.backToCredit, State.startInactivity, h.kind, h.vend, h.authorized]

/-- A session without credit closes. -/
theorem State.closeSession_stands (none : s.sesc.credit = 0) (free : s.chu.payout.Free) :
    s.Stands s.closeSession :=
  ⟨.of_free s.closeSession_held (by simp [State.closeSession]) free, rfl, rfl, fun _ => none⟩

theorem State.backToCredit_stands (plain : s.sesc.Plain) (free : s.chu.payout.Free) :
    s.Stands s.backToCredit :=
  ⟨.of_free plain.credit_held (by simp [State.backToCredit, State.startInactivity]) free, rfl, rfl,
    fun h => by simp [State.backToCredit, State.startInactivity] at h⟩

theorem State.creditOrIdle_stands (plain : s.sesc.Plain) (free : s.chu.payout.Free) :
    s.Stands s.creditOrIdle := by
  unfold State.creditOrIdle
  split
  · next none => exact State.closeSession_stands none free
  · exact State.backToCredit_stands plain free

/-! ### Payouts (R97 to R107) -/

theorem Payout.ended_free (p : Payout) : p.ended.Free :=
  ⟨fun h => absurd rfl h, rfl, fun h => by simp [Payout.ended] at h⟩

/-- A change of the executor that neither starts nor ends a payout. -/
theorem State.setPayout_lawful {p : Payout} (state : p.state = s.chu.payout.state)
    (kind : p.kind = s.chu.payout.kind) (mark : p.endMark = s.chu.payout.endMark)
    (window : p.window.isSome = true → s.chu.payout.window.isSome = true ∨ p.state = .ejecting) :
    s.Lawful (s.setPayout p) where
  session h := by
    refine ⟨h.vend, h.authorized, h.cashless, h.ready, h.escrow, h.timer, ?_, ?_, ?_, fun some => ?_⟩
    · simpa only [State.setPayout_chu, State.setPayout_sesc, state, kind] using h.change
    · simpa only [State.setPayout_chu, State.setPayout_sesc, state, kind, mark] using h.marked
    · simpa only [State.setPayout_chu, State.setPayout_sesc, state, kind, mark] using h.paying
    · exact (window some).elim (fun before => state.trans (h.window before)) id
  books _ books := ⟨books.live, books.idle⟩

theorem State.pulse_lawful (ejecting : s.chu.payout.state = .ejecting) : s.Lawful s.pulse := by
  unfold State.pulse
  split
  · exact State.setPayout_lawful rfl rfl rfl fun _ => .inr ejecting
  · exact .refl s

/-- The next pulse of a payout whose plan or pulse number has changed. -/
theorem State.nextPulse_lawful {p : Payout} (state : p.state = s.chu.payout.state)
    (kind : p.kind = s.chu.payout.kind) (mark : p.endMark = s.chu.payout.endMark)
    (ejecting : s.chu.payout.state = .ejecting) : s.Lawful (s.setPayout p).pulse :=
  (State.setPayout_lawful state kind mark fun _ => .inr (state.trans ejecting)).trans
    (State.pulse_lawful (state.trans ejecting))

/-- EJECTING is entered from AWAIT_POWER (R100). -/
theorem State.startEjecting_lawful (waits : s.chu.payout.state = .awaitPower) :
    s.Lawful s.startEjecting := by
  refine State.Lawful.trans (t := s.setPayout { s.chu.payout with state := .ejecting, pulseNumber := 1 })
    ⟨fun law => ?_, fun _ books => ⟨books.live, books.idle⟩⟩ (State.pulse_lawful rfl)
  have run : s.chu.payout.state ≠ .idle := by simp [waits]
  refine sessionLaw_iff.2 ⟨law.held, fun phase => ⟨fun _ => (law.free phase).kind run,
    (law.free phase).mark, fun _ => rfl⟩, fun phase => ⟨?_, fun _ => rfl⟩⟩
  rcases (law.pays phase).runs with ⟨change, off, -⟩ | ⟨-, -, ejecting⟩
  · exact .inl ⟨change, off, by simp⟩
  · exact absurd ejecting (by simp [waits])

theorem State.endChange_stands (plain : s.sesc.Plain) : s.Stands s.endChange := by
  obtain ⟨-, sesc, -, -, payout, totals, -⟩ := s.endPayout_unchanged false
  exact (State.creditOrIdle_stands (s := s.endPayout false) (by rw [sesc]; exact plain)
    (by rw [payout]; exact Payout.ended_free _)).of_same totals (by rw [sesc])

/-- A SERVICE payout that is not marked ends with the session as it was (R105). -/
theorem State.endService_lawful (service : s.chu.payout.kind = .service)
    (unmarked : s.chu.payout.endMark = false) (keep : Bool) : s.Lawful (s.endPayout keep) := by
  obtain ⟨-, sesc, -, -, payout, totals, -⟩ := s.endPayout_unchanged keep
  refine ⟨fun law => ?_, fun _ books => ⟨by rw [totals, sesc]; exact books.live,
    by rw [sesc]; exact books.idle⟩⟩
  have phase : s.sesc.phase ≠ .paying := fun phase => by
    simpa [service, unmarked] using (law.pays phase).runs
  exact .of_free (by rw [sesc]; exact law.held) (by rw [sesc]; exact phase)
    (by rw [payout]; exact Payout.ended_free _)

/-- The change payout of PAYING starts (R98, R107). -/
theorem State.startChange_stands (held : s.sesc.Held) (phase : s.sesc.phase = .paying) (n : Nat)
    (granted : Bool) : s.Stands (s.startChange n granted) := by
  have started : SessionLaw (s.setPayout (s.changeRecord n)) :=
    .of_pays held phase ⟨.inl ⟨rfl, rfl, by simp [State.changeRecord]⟩,
      fun h => by simp [State.changeRecord] at h⟩
  by_cases plan : s.changePlan n = []
  · rw [State.startChange_of_nothing plan]
    exact (State.endChange_stands (s := s.setPayout (s.changeRecord n)) (held.plain phase)).of_same rfl rfl
  · have idle (x : State) (sesc : x.sesc = s.sesc) : x.sesc.phase = .idle → x.sesc.credit = 0 :=
      fun h => by rw [sesc, phase] at h; cases h
    cases granted with
    | false =>
      rw [State.startChange_of_coins plan]
      have asked := (State.request_aside (s.setPayout (s.changeRecord n)) .payout
        s.settings.payoutWeight).still
      exact ⟨asked.lawful.session started, asked.totals, congrArg Session.credit asked.sesc,
        idle _ asked.sesc⟩
    | true =>
      have takes : s.startChange n true = (s.setPayout (s.changeRecord n)).startEjecting := if_neg plan
      obtain ⟨_, pulse⟩ := State.pulse_frame ((s.setPayout (s.changeRecord n)).setPayout
        { s.changeRecord n with state := .ejecting, pulseNumber := 1 })
      have frame : (s.setPayout (s.changeRecord n)).startEjecting = _ := pulse
      have law := (State.startEjecting_lawful (s := s.setPayout (s.changeRecord n)) rfl).session started
      rw [takes]
      refine ⟨law, ?_, ?_, idle _ ?_⟩ <;> rw [frame] <;> rfl

/-- A session in PAYING hands its credit to an executor without a change payout (R32, R98, R107). -/
theorem State.payCredit_stands (held : s.sesc.Held) (phase : s.sesc.phase = .paying)
    (free : s.chu.payout.Free) : s.Stands s.payCredit := by
  cases state : s.chu.payout.state with
  | idle =>
    simp only [State.payCredit, state]
    exact State.startChange_stands held phase _ _
  | awaitPower =>
    simp only [State.payCredit, state]
    obtain ⟨-, sesc, -, -, -, totals, -⟩ := s.endPayout_unchanged false
    exact (State.startChange_stands (s := s.endPayout false) (by rw [sesc]; exact held)
      (by rw [sesc]; exact phase) _ _).of_same totals (by rw [sesc])
  | ejecting =>
    have marks : s.payCredit = s.setPayout { s.chu.payout with
        endMark := true, due := s.sesc.credit.toNat } := by simp only [State.payCredit, state]
    rw [marks]
    exact ⟨.of_pays held phase ⟨.inr ⟨free.kind (by simp [state]), rfl, state⟩, free.window⟩, rfl, rfl,
      fun h => by rw [State.setPayout_sesc, phase] at h; cases h⟩

theorem State.payOrIdle_stands (free : s.chu.payout.Free) : s.Stands s.payOrIdle := by
  unfold State.payOrIdle
  split
  · next none => exact State.closeSession_stands none free
  · exact (State.payCredit_stands (s := s.setSesc { s.sesc with
      phase := .paying, kind := .cash, escrow := none, authorized := none, pendingVend := none,
      inactivity := none }) (by constructor <;> simp) rfl free).of_same rfl rfl

theorem State.settle_stands (free : s.chu.payout.Free) (charged : Nat) : s.Stands (s.settle charged) :=
  (State.payOrIdle_stands (s := (s.raise (.cashlessSettle charged)).setSesc
    { s.sesc with authorized := none }) free).of_same rfl rfl

theorem State.settle_lawful (phase : s.sesc.phase ≠ .paying) (charged : Nat) :
    s.Lawful (s.settle charged) :=
  .of_stands fun law => State.settle_stands (law.free phase) charged

/-- A payout that is EJECTING ends (R105, R107). -/
theorem State.finishPayout_lawful (ejecting : s.chu.payout.state = .ejecting) :
    s.Lawful s.finishPayout := by
  unfold State.finishPayout
  split
  · next change =>
    refine .of_stands fun law => State.endChange_stands (law.held.plain ?_)
    exact law.change (by simp [ejecting]) change
  · next service =>
    split
    · next marked =>
      refine .of_stands fun law => ?_
      obtain ⟨-, sesc, -, -, -, totals, -⟩ := s.endPayout_unchanged true
      obtain ⟨-, -, phase⟩ := law.marked marked
      exact (State.startChange_stands (s := s.endPayout true) (by rw [sesc]; exact law.held)
        (by rw [sesc]; exact phase) _ _).of_same totals (by rw [sesc])
    · next unmarked => exact State.endService_lawful service (by simpa using unmarked) false

theorem State.replan_lawful (ejecting : s.chu.payout.state = .ejecting)
    (change : s.chu.payout.kind = .change) : s.Lawful s.replan := by
  refine .assuming fun law => ?_
  have phase := law.change (by simp [ejecting]) change
  unfold State.replan
  dsimp only
  split
  · exact .of_stands fun _ => (State.endChange_stands (s := s.setPayout _) (law.held.plain phase)).of_same
      rfl rfl
  · exact State.nextPulse_lawful rfl rfl rfl ejecting

/-- A tube's jam leaves the payout running (R103). -/
theorem State.markJammed_lawful (s : State) (i : Nat) :
    s.Lawful (s.markJammed i) ∧ (s.markJammed i).chu.payout.state = s.chu.payout.state ∧
      (s.markJammed i).chu.payout.kind = s.chu.payout.kind := by
  let x := s.editTube i fun t => { t with state := .jammed }
  let y := x.setPayout { x.chu.payout with
    excluded := if x.chu.payout.excluded.contains i then x.chu.payout.excluded
      else x.chu.payout.excluded ++ [i] }
  have noted : y.Still (s.markJammed i) :=
    (State.raiseTube_still y i .jammed none).trans (State.updateRoute_still _)
  have excluded : x.Lawful y := State.setPayout_lawful rfl rfl rfl .inl
  exact ⟨((s.editTube_still i _).lawful.trans excluded).trans noted.lawful,
    by rw [noted.payout]; rfl, by rw [noted.payout]; rfl⟩

theorem State.windowEnds_lawful (ejecting : s.chu.payout.state = .ejecting) (i : Nat) :
    s.Lawful (s.windowEnds i) := by
  unfold State.windowEnds
  dsimp only
  split
  · refine State.Lawful.trans (t := s.setPayout { s.chu.payout with
      plan := dropPaid s.chu.payout.plan, pulseNumber := 1 }) (State.setPayout_lawful rfl rfl rfl .inl) ?_
    split
    · exact State.finishPayout_lawful ejecting
    · exact State.pulse_lawful ejecting
  · split
    · split
      · exact State.finishPayout_lawful ejecting
      · exact State.nextPulse_lawful rfl rfl rfl ejecting
    · obtain ⟨lawful, state, kind⟩ := s.markJammed_lawful i
      unfold State.jamTube
      dsimp only
      split
      · next change => exact lawful.trans (State.replan_lawful (state.trans ejecting) change)
      · exact lawful.trans (State.finishPayout_lawful (state.trans ejecting))

theorem State.stopPayout_lawful (s : State) : s.Lawful s.stopPayout := by
  refine .assuming fun law => ?_
  unfold State.stopPayout
  split
  · exact .refl s
  · next run =>
    split
    · next change =>
      exact .of_stands fun _ => State.endChange_stands (law.held.plain (law.change run change))
    · next service =>
      split
      · next marked =>
        obtain ⟨-, -, phase⟩ := law.marked marked
        exact .of_stands fun _ => State.endChange_stands (law.held.plain phase)
      · next unmarked => exact State.endService_lawful service (by simpa using unmarked) false

theorem State.takePayout_lawful (s : State) : s.Lawful s.takePayout := by
  have took : s.Still (s.tookGrant .payout) := ⟨rfl, rfl, rfl⟩
  unfold State.takePayout
  rcases s.takeGrant_cases .payout _ with ⟨-, -, e⟩ | ⟨-, e⟩ <;> rw [e]
  · refine took.lawful.trans ?_
    split
    · next waits => exact State.startEjecting_lawful waits
    · exact .refl _
    · exact (State.release_aside _ _).lawful
  · exact .refl s

/-- A SERVICE payout starts on an IDLE executor (R99). -/
theorem State.startService_lawful (idle : s.chu.payout.state = .idle) (i d n count : Nat) :
    s.Lawful (s.startService i d n count) := by
  unfold State.startService
  dsimp only
  generalize record : ({ s.chu.payout with
    state := .awaitPower, kind := .service, amount := n * d,
    plan := if min (min n count) s.settings.coinLimit = 0 then []
      else [⟨i, d, min (min n count) s.settings.coinLimit⟩],
    limit := s.settings.coinLimit, confirmed := 0, paid := 0, overpaid := 0, excluded := [],
    pulseNumber := 1, window := none, counted := false, pulse := none, endMark := false } : Payout) = p
  have started : s.Lawful (s.setPayout p) := by
    subst record
    refine ⟨fun law => ?_, fun _ books => ⟨books.live, books.idle⟩⟩
    have phase : s.sesc.phase ≠ .paying := fun phase => (law.paying phase).1 idle
    exact .of_free law.held phase ⟨fun _ => rfl, rfl, fun h => by simp at h⟩
  split
  · exact started.trans (State.endService_lawful (by subst record; rfl) (by subst record; rfl) false)
  · exact started.trans (State.request_aside _ _ _).lawful

theorem State.payoutTest_lawful (s : State) (i n : Byte) : s.Lawful (s.payoutTest i n).state := by
  unfold State.payoutTest State.withTube
  split
  · split
    · dsimp only
      split
      · exact .refl s
      · split
        · exact .refl s
        · split
          · exact .refl s
          · next free =>
            exact State.startService_lawful (by simpa [State.payoutRunning] using free) _ _ _ _
    · exact .refl s
  · exact .refl s

/-! ### Coins that leave (R102, R106) -/

/-- A total outside the balance. -/
theorem State.payOver_lawful (s : State) (d : Nat) : s.Lawful (s.payOver d) :=
  ⟨fun law => law.congr rfl rfl, fun _ books => ⟨books.live, books.idle⟩⟩

theorem State.payService_lawful (s : State) (d : Nat) : s.Lawful (s.payService d) :=
  ⟨fun law => law.congr rfl rfl, fun _ books => ⟨books.live, books.idle⟩⟩

/-- The change coin's value goes from the credit to change_paid (R25, R88, R102). -/
theorem State.payChange_lawful (phase : SessionLaw s → s.sesc.phase = .paying) (d : Nat) :
    s.Lawful (s.payChange d) := by
  refine ⟨fun h => ⟨h.vend, h.authorized, h.cashless, h.ready, h.escrow, h.timer, h.change, h.marked,
    h.paying, h.window⟩, fun law books => ⟨?_, fun idle => ?_⟩⟩
  · exact balanced.change books.live (money d)
  · have idle : s.sesc.phase = .idle := idle
    rw [phase law] at idle
    cases idle

theorem State.confirmCoin_lawful (ejecting : s.chu.payout.state = .ejecting) (d : Nat) :
    s.Lawful (s.confirmCoin d) := by
  unfold State.confirmCoin
  dsimp only
  generalize counted : ({ s.chu.payout with
    plan := modifyAt (fun e => { e with remaining := e.remaining - 1 }) 0 s.chu.payout.plan
    confirmed := s.chu.payout.confirmed + 1, paid := s.chu.payout.paid + d
    counted := true } : Payout) = p
  have state : p.state = s.chu.payout.state := by rw [← counted]
  have kind : p.kind = s.chu.payout.kind := by rw [← counted]
  refine State.Lawful.trans (State.setPayout_lawful state kind (by rw [← counted])
    fun _ => .inr (state.trans ejecting)) ?_
  split
  · next change =>
    refine State.payChange_lawful (fun law => law.change ?_ (kind.trans change)) d
    exact fun idle => by rw [State.setPayout_chu, state, ejecting] at idle; cases idle
  · exact State.payService_lawful _ d

theorem State.overpayCoin_lawful (s : State) (d : Nat) : s.Lawful (s.overpayCoin d) :=
  State.Lawful.trans (t := s.setPayout { s.chu.payout with
    overpaid := s.chu.payout.overpaid + d, counted := true })
    (State.setPayout_lawful rfl rfl rfl .inl) (State.payOver_lawful _ d)

theorem State.exitCount_lawful (s : State) : s.Lawful s.exitCount := by
  refine .assuming fun law => ?_
  unfold State.exitCount
  split
  · next w open' =>
    have ejecting : (s.lowerCount w.tube).chu.payout.state = .ejecting := law.window (by simp [open'])
    have lowered : s.Lawful (s.lowerCount w.tube) := (s.editTube_still _ _).lawful
    unfold State.countInWindow
    dsimp only
    refine State.Lawful.trans ?_ (State.updateRoute_still _).lawful
    split
    · split
      · exact lowered.trans (State.confirmCoin_lawful ejecting _)
      · exact lowered.trans (State.overpayCoin_lawful _ _)
    · exact lowered
  · unfold State.lateCount
    split
    · split
      · split
        · exact ((s.editTube_still _ _).lawful.trans (State.payOver_lawful _ _)).trans
            (State.tubesChanged_still _).lawful
        · exact .refl s
      · exact .refl s
    · exact .refl s

end Sys2Proof.Machine
end

section
/-! SUPPORT. What vends, escrow, coins and the events of the peripherals keep of the session's law and of the
money balance (R25, R88). -/

namespace Sys2Proof.Machine

variable {s t : State}

/-! ### Opening and cancelling -/

/-- A CASH session opens from IDLE, with or without a bill in escrow (R29, R30). -/
theorem State.openCash_law (held : s.sesc.Held) (idle : s.sesc.phase = .idle) (free : s.chu.payout.Free)
    (e : Option Escrow) : SessionLaw (s.setSesc { s.sesc with escrow := e }).openCash := by
  have free_vend : s.sesc.pendingVend = none := held.no_vend (by simp [idle]) (by simp [idle])
  have unauthorized : s.sesc.authorized = none :=
    Option.not_isSome_iff_eq_none.1 fun some => (held.authorized.1 some).2 idle
  exact .of_free (by constructor <;> simp [State.openCash, State.startInactivity, free_vend, unauthorized])
    (by simp [State.openCash, State.startInactivity]) free

/-- A CASHLESS session opens from IDLE (R44). -/
theorem State.openCashless_lawful (idle : s.sesc.phase = .idle) (n : Nat) :
    s.Lawful (s.openCashless n) := by
  refine ⟨fun law => ?_, fun _ books => ⟨books.live, fun h => ?_⟩⟩
  · have free_vend : s.sesc.pendingVend = none := law.held.no_vend (by simp [idle]) (by simp [idle])
    have empty : s.sesc.escrow = none := law.held.no_escrow (by simp [idle]) (by simp [idle])
    exact .of_free (by constructor <;> simp [State.openCashless, State.startInactivity, free_vend, empty])
      (by simp [State.openCashless, State.startInactivity]) (law.free (by simp [idle]))
  · simp [State.openCashless, State.startInactivity] at h

theorem State.cashlessOpenRequest_lawful (s : State) (n : Half) :
    s.Lawful (s.cashlessOpenRequest n).state := by
  unfold State.cashlessOpenRequest
  split
  · exact .refl s
  · split
    · exact .refl s
    · next idle => exact State.openCashless_lawful (by simpa using idle) _

theorem State.cashlessCloseRequest_lawful (s : State) : s.Lawful s.cashlessCloseRequest.state := by
  unfold State.cashlessCloseRequest
  split
  · next ready => exact State.settle_lawful (by simp [ready]) 0
  · split <;> exact .refl s

theorem State.noteSession_still (s : State) : s.Still s.noteSession :=
  (State.Aside.still (s.raise_aside _)).trans (State.updateMasks_still _)

theorem State.cancelSession_lawful (phase : s.sesc.phase ≠ .paying) (r : BillReason) :
    s.Lawful (s.cancelSession r) := by
  refine .of_stands fun law => ?_
  have free := law.free phase
  have returned : s.Still (s.handEscrowReturn) := s.hand_still _ _
  unfold State.cancelSession
  dsimp only
  generalize before : (if s.sesc.escrow.isSome then
    (s.handEscrowReturn.setSesc { s.sesc with escrow := none }).raise (.bill r) else s : State) = x
  have same : x.chu.totals = s.chu.totals ∧ x.chu.payout = s.chu.payout ∧
      x.sesc.credit = s.sesc.credit := by
    rw [← before]
    split
    · exact ⟨returned.totals, returned.payout, rfl⟩
    · exact ⟨rfl, rfl, rfl⟩
  obtain ⟨totals, payout, credit⟩ := same
  have stands := (State.payOrIdle_stands (s := x) (by rw [payout]; exact free)).of_same totals credit
  split
  · obtain ⟨sesc, money, executor⟩ := x.payOrIdle.noteSession_still
    exact ⟨stands.law.congr sesc executor, money.trans stands.totals, by rw [sesc]; exact stands.credit,
      by rw [sesc]; exact stands.idle⟩
  · exact stands

theorem State.cancelRequest_lawful (s : State) : s.Lawful s.cancelRequest.state := by
  unfold State.cancelRequest
  split
  · exact .refl s
  · exact s.restartInactivity_lawful
  · next phase => exact State.cancelSession_lawful (by simp [phase]) _
  · exact .refl s

theorem State.timeOut_lawful (s : State) : s.Lawful s.timeOut := by
  unfold State.timeOut
  split
  · next phase => exact State.cancelSession_lawful (by simp [phase]) _
  · next phase => exact State.settle_lawful (by simp [phase]) 0
  · exact .refl s

/-! ### VEND (R34, R35) -/

theorem State.enqueue_still (s : State) (v : PendingVend) : s.Still (s.enqueue v) := ⟨rfl, rfl, rfl⟩

/-- An accepted vend stands pending in STACKING or VENDING (R35). -/
theorem State.acceptVend_lawful (phase : s.sesc.phase = .cashCredit ∨ s.sesc.phase = .cashlessReady)
    (v : PendingVend) : s.Lawful (s.acceptVend v) := by
  have still (x : State) (h : x.Still (s.acceptVend v)) (sesc : x.sesc.phase = .stacking ∨
      x.sesc.phase = .vending) (credit : x.sesc.credit = s.sesc.credit) (chu : x.chu = s.chu)
      (held : s.sesc.Held → x.sesc.Held) : s.Lawful (s.acceptVend v) := by
    refine State.Lawful.trans (t := x) ⟨fun law => ?_, fun _ books => ⟨?_, fun idle => ?_⟩⟩ h.lawful
    · refine .of_free (held law.held) (by rcases sesc with h | h <;> simp [h]) ?_
      rw [chu]
      exact law.free (by rcases phase with h | h <;> simp [h])
    · rw [chu, credit]; exact books.live
    · rcases sesc with h | h <;> simp [h] at idle
  by_cases stack : s.sesc.kind = .cash ∧ s.sesc.escrow.isSome
  · refine still (s.setSesc { s.sesc with
      pendingVend := some v, inactivity := none, phase := .stacking }) ?_ (.inl rfl) rfl rfl fun held => ?_
    · unfold State.acceptVend
      simp only [State.setSesc_sesc, stack, and_self, if_true]
      exact State.hand_still _ _ _
    · have unauthorized : s.sesc.authorized = none := Option.not_isSome_iff_eq_none.1 fun some => by
        simpa [stack.1] using (held.authorized.1 some).1
      constructor <;> simp [stack.1, unauthorized]
  · refine still (s.setSesc { s.sesc with
      pendingVend := some v, inactivity := none, phase := .vending }) ?_ (.inr rfl) rfl rfl fun held => ?_
    · unfold State.acceptVend
      simp only [State.setSesc_sesc, stack, if_false]
      exact (State.enqueue_still _ v).trans (State.takeHead_still _)
    · have open' : s.sesc.phase ≠ .idle := by rcases phase with h | h <;> simp [h]
      refine ⟨by simp, by simpa [open'] using held.authorized, by simp, by simp, fun some => ?_, by simp⟩
      have some : s.sesc.escrow.isSome = true := some
      cases kind : s.sesc.kind with
      | cash => exact absurd ⟨kind, some⟩ stack
      | cashless =>
        have ready := held.cashless kind open'
        rcases held.escrow some with h | h <;> simp [h] at ready

theorem State.refuseVend_lawful (s : State) (st : Status) (body : List Field) :
    s.Lawful (s.refuseVend st body).state := by
  unfold State.refuseVend
  dsimp only
  split
  · exact s.restartInactivity_lawful
  · exact .refl s

theorem State.vendFrom_lawful (phase : s.sesc.phase = .cashCredit ∨ s.sesc.phase = .cashlessReady)
    (r : Selection) : s.Lawful (s.vendFrom r).state := by
  unfold State.vendFrom
  dsimp only
  split
  · exact s.refuseVend_lawful _ _
  · split
    · exact s.refuseVend_lawful _ _
    · split
      · exact s.refuseVend_lawful _ _
      · split
        · exact State.acceptVend_lawful phase _
        · exact s.refuseVend_lawful _ _

theorem State.vendRequest_lawful (s : State) (code : Half) : s.Lawful (s.vendRequest code).state := by
  unfold State.vendRequest
  split
  · exact s.refuseVend_lawful _ _
  · split
    · exact s.refuseVend_lawful _ _
    · split
      · exact s.refuseVend_lawful _ _
      · next phase => exact State.vendFrom_lawful (.inl phase) _
      · next phase => exact State.vendFrom_lawful (.inr phase) _
      · exact s.refuseVend_lawful _ _

/-! ### The outcome of a vend (R39 to R42) -/

/-- With a vend pending the session is not in PAYING, and CASH or CASHLESS with an amount (R25). -/
theorem SessionLaw.vends (law : SessionLaw s) {v : PendingVend} (h : s.sesc.pendingVend = some v) :
    s.sesc.phase ≠ .paying ∧ (s.sesc.kind = .cash → s.sesc.authorized = none) := by
  refine ⟨fun phase => ?_, fun kind => ?_⟩
  · have := law.vend.1 (by simp [h])
    simp [phase] at this
  · exact Option.not_isSome_iff_eq_none.1 fun some => by simpa [kind] using (law.authorized.1 some).1

theorem State.vendDelivered_lawful {v : PendingVend} (h : s.sesc.pendingVend = some v) :
    s.Lawful (s.vendDelivered v) := by
  unfold State.vendDelivered
  split
  · next cash =>
    refine .of_balanced (x := s.charged v) (fun live => balanced.charge live (money v.price)) fun law => ?_
    obtain ⟨phase, unauthorized⟩ := law.vends h
    have free : (s.charged v).chu.payout.Free := law.free phase
    dsimp only
    split
    · exact State.creditOrIdle_stands ⟨cash, rfl, unauthorized cash⟩ free
    · exact State.payOrIdle_stands free
  · refine .of_balanced (x := (s.chargeCashless v.price).reportVend v (.drive .delivered) v.price) id
      fun law => State.settle_stands ?_ v.price
    exact law.free (law.vends h).1

theorem State.vendFailed_lawful {v : PendingVend} (h : s.sesc.pendingVend = some v) (o : DriveOutcome) :
    s.Lawful (s.vendFailed v o) := by
  refine .of_balanced (x := s.reportVend v (.drive o) 0) id fun law => ?_
  obtain ⟨phase, unauthorized⟩ := law.vends h
  have free : (s.reportVend v (.drive o) 0).chu.payout.Free := law.free phase
  unfold State.vendFailed
  dsimp only
  split
  · next cash => exact State.backToCredit_stands ⟨cash, rfl, unauthorized cash⟩ free
  · exact State.settle_stands free 0

/-- A pending vend goes on with another one in its place (R40). -/
theorem State.failover_lawful {v : PendingVend} (h : s.sesc.pendingVend = some v) (w : PendingVend) :
    s.Lawful (s.setSesc { s.sesc with pendingVend := some w }) := by
  refine ⟨fun law => ?_, fun _ books => ⟨books.live, books.idle⟩⟩
  have vend := law.vend
  rw [h] at vend
  exact ⟨vend, law.authorized, law.cashless, law.ready, law.escrow, law.timer, law.change, law.marked,
    law.paying, law.window⟩

theorem State.vendJammed_lawful {v : PendingVend} (h : s.sesc.pendingVend = some v) (o : DriveOutcome) :
    s.Lawful (s.vendJammed v o) := by
  unfold State.vendJammed
  split
  · exact (State.failover_lawful h _).trans (State.enqueue_still _ _).lawful
  · exact State.vendFailed_lawful h o

theorem State.seltVend_still (s : State) (code i : Nat) (o : DriveOutcome) :
    s.Still (s.seltVend code i o) := ⟨rfl, rfl, rfl⟩

theorem State.takeVendOutcome_lawful (s : State) (o : DriveOutcome) : s.Lawful (s.takeVendOutcome o) := by
  cases pending : s.sesc.pendingVend with
  | none =>
    simp only [State.takeVendOutcome, pending]
    exact .refl s
  | some v =>
    have seen := (s.seltVend_still v.code v.index o).lawful
    have held : (s.seltVend v.code v.index o).sesc.pendingVend = some v := pending
    cases o <;> simp only [State.takeVendOutcome, pending]
    case delivered => exact seen.trans (State.vendDelivered_lawful held)
    case jammed | openMotor | noDrop => exact seen.trans (State.vendJammed_lawful held _)
    case noPower | interrupted => exact seen.trans (State.vendFailed_lawful held _)

theorem State.handOutcome_lawful (s : State) (e : DriveEntry) (o : DriveOutcome) :
    s.Lawful (s.handOutcome e o) := by
  unfold State.handOutcome
  split
  · exact s.takeVendOutcome_lawful o
  · rw [State.seltTest_frame]
    exact State.Still.lawful ⟨rfl, rfl, rfl⟩

/-! ### Drive work that ends (R57 to R71) -/

theorem State.endEntry_lawful (s : State) (o : DriveOutcome) : s.Lawful (s.endEntry o) := by
  cases list : s.sdc.list with
  | nil =>
    simp only [State.endEntry, list]
    exact .refl s
  | cons e rest =>
    have gone : s.Still (s.entryGone rest) := s.deenergize_still.trans ⟨rfl, rfl, rfl⟩
    have idle (x : State) : x.Still (x.setSdc { x.sdc with seq := .idle }).takeHead :=
      State.Still.trans (t := x.setSdc { x.sdc with seq := .idle }) ⟨rfl, rfl, rfl⟩
        (State.takeHead_still _)
    rw [State.endEntry_of_list o list]
    exact (gone.lawful.trans (State.handOutcome_lawful _ e o)).trans (idle _).lawful

theorem State.dropEvent_lawful (s : State) : s.Lawful s.dropEvent := by
  unfold State.dropEvent
  split
  case h_3 => exact s.endEntry_lawful _
  all_goals exact State.Still.lawful ⟨rfl, rfl, rfl⟩

theorem State.revolution_lawful (s : State) : s.Lawful s.revolution := by
  unfold State.revolution
  split
  · exact .refl s
  · have stopped : s.Still (s.setSdc { s.sdc with turnTimer := none }) := ⟨rfl, rfl, rfl⟩
    dsimp only
    split
    · exact stopped.lawful.trans (State.endEntry_lawful _ _)
    · split
      · exact State.Still.lawful ⟨rfl, rfl, rfl⟩
      · exact (State.enterSettling_still _).after.lawful

theorem State.settleEnds_lawful (s : State) : s.Lawful s.settleEnds := by
  unfold State.settleEnds
  split
  · exact .refl s
  · dsimp only
    split
    · exact (State.enterAwaitPower_still _ _).after.lawful
    · exact s.endEntry_lawful _

theorem State.takeSample_lawful (s : State) (u : DriveUnit) (i : Nat) : s.Lawful (s.takeSample u i) := by
  have counted : s.Lawful (s.sampled u i) := State.Still.lawful ⟨rfl, rfl, rfl⟩
  rw [State.takeSample_eq]
  split
  · exact counted.trans (State.endEntry_lawful _ _)
  · split
    · exact counted.trans (State.endEntry_lawful _ _)
    · exact counted

theorem dropPendingEntries_lawful (es : List DriveEntry) (s : State) :
    s.Lawful (dropPendingEntries es s) := by
  induction es generalizing s with
  | nil => exact .refl s
  | cons e es ih => exact (s.handOutcome_lawful e .noPower).trans (ih _)

theorem State.stopDrive_lawful (s : State) : s.Lawful s.stopDrive := by
  unfold State.stopDrive
  split
  · exact .refl s
  · next e rest _ =>
    have gone : s.Still (s.entryGone []) := s.deenergize_still.trans ⟨rfl, rfl, rfl⟩
    have idle (x : State) : x.Lawful (x.setSdc { x.sdc with seq := .idle }) :=
      State.Still.lawful ⟨rfl, rfl, rfl⟩
    dsimp only
    split
    · exact ((gone.lawful.trans (State.handOutcome_lawful _ e _)).trans
        (dropPendingEntries_lawful rest _)).trans (idle _)
    · exact (gone.lawful.trans (dropPendingEntries_lawful (e :: rest) _)).trans (idle _)

theorem State.curtainBegins_lawful (s : State) : s.Lawful s.curtainBegins := by
  unfold State.curtainBegins
  split
  · exact State.Lawful.trans (t := s.setCurtain .interrupted (some blockTimerMs))
      (State.Still.lawful ⟨rfl, rfl, rfl⟩) (State.dropEvent_lawful _)
  · exact .refl s

theorem State.warnBlocks_lawful (s : State) : s.Lawful s.warnBlocks := by
  have warned : s.Aside s.warned :=
    (State.Aside.trans (t := { s with lba := { s.lba with pfw := true } }) rfl
      (State.setBand_aside _ _)).trans (State.grantPass_aside _)
  exact ((warned.lawful.trans (State.stopDrive_lawful _)).trans (State.stopPayout_lawful _)).trans
    (State.stopMove_aside _).lawful

/-! ### Escrow (R30, R31, R36, R37) -/

/-- The escrow is gone, and its BILL notice raised. -/
def State.escrowGone (s : State) (r : BillReason) : State :=
  (s.setSesc { s.sesc with escrow := none }).raise (.bill r)

theorem State.loseEscrow_lawful (phase : s.sesc.phase = .cashCredit) (r : BillReason) :
    s.Lawful (s.loseEscrow r) := by
  have gone : s.Lawful (s.escrowGone r) :=
    ⟨fun h => ⟨h.vend, h.authorized, h.cashless, h.ready, fun some => (by cases some), h.timer, h.change,
      h.marked, h.paying, h.window⟩, fun _ books => ⟨books.live, books.idle⟩⟩
  unfold State.loseEscrow
  dsimp only
  split
  · next empty =>
    refine .of_balanced (x := s.escrowGone r) id fun law => State.closeSession_stands empty ?_
    exact law.free (by simp [phase])
  · exact gone

/-- A failed stack before the session goes on: the bill and the pending vend are gone and reported (R37). -/
def State.stackGone (s : State) (r : BillReason) : State :=
  match s.sesc.pendingVend with
  | some v => (s.escrowGone r).reportVend v .escrowFault 0
  | none => s.escrowGone r

theorem State.stackFails_eq (s : State) (r : BillReason) :
    s.stackFails r = (s.stackGone r).creditOrIdle := rfl

/-- What a failed stack has written. -/
theorem State.stackGone_unchanged (s : State) (r : BillReason) :
    s.stackGone r = { s with
      sesc := { s.sesc with escrow := none, pendingVend := none }, hli := (s.stackGone r).hli } := by
  unfold State.stackGone
  cases pending : s.sesc.pendingVend with
  | none => simp only [State.escrowGone, State.setSesc, State.raise, pending]
  | some v => rfl

theorem State.stackFails_lawful (phase : s.sesc.phase = .stacking) (r : BillReason) :
    s.Lawful (s.stackFails r) := by
  have frame := s.stackGone_unchanged r
  refine .of_balanced (x := s.stackGone r) (fun live => by rw [frame]; exact live) fun law => ?_
  obtain ⟨kind, unauthorized⟩ := law.held.cash (by simp [phase]) (by simp [phase]) (by simp [phase])
  refine State.creditOrIdle_stands ?_ ?_ <;> rw [frame]
  · exact ⟨kind, rfl, unauthorized⟩
  · exact law.free (by simp [phase])

theorem State.billLost_lawful (s : State) : s.Lawful s.billLost := by
  unfold State.billLost
  split
  · next phase => exact State.stackFails_lawful phase _
  · split
    · next held => exact State.loseEscrow_lawful held.1 _
    · exact .refl s

theorem State.billReturned_lawful (s : State) : s.Lawful s.billReturned := by
  unfold State.billReturned
  split
  · next phase => exact State.stackFails_lawful phase _
  · split
    · next held => exact State.loseEscrow_lawful held.1 _
    · exact .refl s

/-- A bill that is kept finds the session in IDLE or CASH_CREDIT (R30). -/
theorem State.billRefusal_phase {b : BillClass} (h : s.billRefusal b = none) :
    s.sesc.phase = .idle ∨ s.sesc.phase = .cashCredit := by
  by_contra phase
  unfold State.billRefusal at h
  split at h
  · cases h
  · rw [if_pos (not_or.1 phase)] at h
    cases h

theorem State.keepBill_lawful (phase : s.sesc.phase = .idle ∨ s.sesc.phase = .cashCredit)
    (cls value : Nat) : s.Lawful (s.keepBill cls value) := by
  unfold State.keepBill
  dsimp only
  split
  · next idle =>
    have idle : s.sesc.phase = .idle := idle
    exact ⟨fun law => State.openCash_law law.held idle (law.free (by simp [idle])) _,
      fun _ books => ⟨books.live, fun h => by simp [State.openCash, State.startInactivity] at h⟩⟩
  · next open' =>
    have credit : s.sesc.phase = .cashCredit := phase.resolve_left open'
    refine State.Lawful.trans (t := s.setSesc { s.sesc with escrow := some ⟨cls, value⟩ })
      ⟨fun h => ⟨h.vend, h.authorized, h.cashless, h.ready, fun _ => .inl credit, h.timer, h.change,
        h.marked, h.paying, h.window⟩, fun _ books => ⟨books.live, books.idle⟩⟩
      (State.restartInactivity_lawful _)

theorem State.billEscrowed_lawful (s : State) (cls : Nat) : s.Lawful (s.billEscrowed cls) := by
  unfold State.billEscrowed
  split
  · exact .refl s
  · split
    · next r _ =>
      have returned : s.Lawful (s.handEscrowReturn.raise (.bill r)) :=
        ((s.hand_still _ _).trans (State.raise_aside s.handEscrowReturn _).still).lawful
      unfold State.sendBack
      dsimp only
      split
      · exact returned.trans (State.restartInactivity_lawful _)
      · exact returned
    · next keeps => exact State.keepBill_lawful (State.billRefusal_phase keeps) _ _

/-- The stacked bill is credited and its escrow gone; the vend goes on (R36). -/
def State.stacked (s : State) : State :=
  (s.creditBill s.sesc.escrowValue).setSesc
    { (s.creditBill s.sesc.escrowValue).sesc with escrow := none, phase := .vending }

theorem State.stacked_lawful (phase : s.sesc.phase = .stacking) : s.Lawful s.stacked := by
  refine ⟨fun law => ?_, fun _ books => ⟨balanced.bill books.live (money s.sesc.escrowValue), fun h => by cases h⟩⟩
  obtain ⟨kind, unauthorized⟩ := law.held.cash (by simp [phase]) (by simp [phase]) (by simp [phase])
  have vend := law.vend.2 (.inl phase)
  have untimed : s.sesc.inactivity = none :=
    Option.not_isSome_iff_eq_none.1 fun some => by simpa [phase] using law.timer some
  exact .of_free (by constructor <;> simp [State.stacked, kind, unauthorized, vend, untimed])
    (by simp [State.stacked]) (law.free (by simp [phase]))

theorem State.billStacked_lawful (s : State) : s.Lawful s.billStacked := by
  unfold State.billStacked
  split
  · next phase =>
    have stacked := State.stacked_lawful phase
    dsimp only
    split
    · exact stacked.trans ((State.enqueue_still _ _).trans (State.takeHead_still _)).lawful
    · exact stacked
  · exact (s.raise_aside _).lawful

/-! ### Coins (R29, R86) -/

/-- A credited coin with what it does to the session (R29). -/
theorem State.credited_lawful (s : State) (v : Nat) : s.Lawful (s.creditCoin v).coinPhase := by
  have credited (law : SessionLaw s) : SessionLaw (s.creditCoin v) :=
    ⟨law.vend, law.authorized, law.cashless, law.ready, law.escrow, law.timer, law.change, law.marked,
      law.paying, law.window⟩
  have books (phase : s.sesc.phase ≠ .idle) (b : s.Books) : (s.creditCoin v).Books :=
    ⟨balanced.coin b.live (money v), fun idle => absurd idle phase⟩
  unfold State.coinPhase
  split
  · next idle =>
    have idle : s.sesc.phase = .idle := idle
    exact ⟨fun law => State.openCash_law (credited law).held idle (law.free (by simp [idle])) s.sesc.escrow,
      fun _ b => ⟨balanced.coin b.live (money v), fun h => by simp [State.openCash, State.startInactivity] at h⟩⟩
  · next phase =>
    have phase : s.sesc.phase = .cashCredit := phase
    exact State.Lawful.trans ⟨credited, fun _ => books (by simp [phase])⟩
      (State.restartInactivity_lawful _)
  · next phase =>
    have phase : s.sesc.phase = .cashlessReady := phase
    exact State.Lawful.trans ⟨credited, fun _ => books (by simp [phase])⟩
      (State.restartInactivity_lawful _)
  · next open' _ _ => exact ⟨credited, fun _ => books open'⟩

theorem State.coinAccepted_lawful (s : State) (cls : Nat) (toTube : Bool) :
    s.Lawful (s.coinAccepted cls toTube) := by
  unfold State.coinAccepted
  split
  · exact .refl s
  · split
    · exact .refl s
    · exact (s.countCoin_still _ _).lawful.trans (State.credited_lawful _ _)

/-! ### The peripherals (R119 to R128) -/

theorem State.validatorGone_lawful (s : State) (p : Peripheral) : s.Lawful (s.validatorGone p) := by
  cases p with
  | coin => exact .refl s
  | bill => exact s.billLost_lawful

theorem State.goOffline_lawful (s : State) (p : Peripheral) : s.Lawful (s.goOffline p) :=
  ((s.editPeriph_still p _).trans (State.raise_aside _ _).still).lawful.trans
    (State.validatorGone_lawful _ p)

theorem State.attemptFails_lawful (s : State) (p : Peripheral) : s.Lawful (s.attemptFails p) := by
  unfold State.attemptFails
  split
  · exact .refl s
  · split
    · exact (s.editPeriph_still p _).lawful
    · exact s.goOffline_lawful p

theorem State.exchangeFails_lawful (s : State) (p : Peripheral) (probe : Bool) :
    s.Lawful (s.exchangeFails p probe) := by
  unfold State.exchangeFails
  split
  · exact (s.probeFails_still p).lawful
  · exact s.attemptFails_lawful p

theorem State.commandAcked_lawful (s : State) (p : Peripheral) (m : Message) :
    s.Lawful (s.commandAcked p m) := by
  have ended := s.editPeriph_still p fun r => { r with outstanding := none }
  cases m
  case reset =>
    exact (((ended.trans (State.editPeriph_still _ p _)).trans (State.queueSetup_still _ p)).trans
      (State.editPeriph_still _ p _)).lawful.trans (State.validatorGone_lawful _ p)
  case escrowStack =>
    exact (ended.trans (State.editPeriph_still _ p fun r => { r with
      stackWatch := some stackWatchMs })).lawful
  all_goals exact ended.lawful

theorem State.deviceFault_lawful (s : State) (p : Peripheral) (code : Nat) :
    s.Lawful (s.deviceFault p code) := by
  have noted := ((s.editPeriph_still p fun r => { r with lastFault := code, stackWatch := none }).trans
    (State.raise_aside _ (.peripheral p true code)).still).lawful
  unfold State.deviceFault
  dsimp only
  split
  · exact noted
  · split
    · next phase => exact noted.trans (State.stackFails_lawful phase _)
    · exact noted

theorem State.justReset_lawful (s : State) (p : Peripheral) : s.Lawful (s.justReset p) := by
  unfold State.justReset
  split
  · exact .refl s
  · have queued : s.Still ((s.editPending p fun q => { q with escrow := none }).queueSetup p) :=
      State.Still.trans (t := s.editPending p fun q => { q with escrow := none }) ⟨rfl, rfl, rfl⟩
        (State.queueSetup_still _ p)
    exact ((queued.trans (State.editPeriph_still _ p _)).trans (State.raise_aside _ _).still).lawful.trans
      (State.validatorGone_lawful _ p)

theorem State.stopWatch_still (s : State) : s.Still s.stopWatch := s.editPeriph_still _ _

theorem State.busEvent_lawful (s : State) (p : Peripheral) (e : BusEvent) : s.Lawful (s.busEvent p e) := by
  cases e with
  | deviceFault code =>
    have fault := s.deviceFault_lawful p code
    cases p <;> exact fault
  | justReset =>
    have restart := s.justReset_lawful p
    cases p <;> exact restart
  | coinRejected => cases p <;> exact .refl s
  | coinAccepted cls toTube =>
    cases p
    · exact s.coinAccepted_lawful cls toTube
    · exact .refl s
  | billEscrowed cls =>
    cases p
    · exact .refl s
    · exact s.billEscrowed_lawful cls
  | billStacked =>
    cases p
    · exact .refl s
    · exact s.stopWatch_still.lawful.trans (State.billStacked_lawful _)
  | billReturned =>
    cases p
    · exact .refl s
    · exact s.stopWatch_still.lawful.trans (State.billReturned_lawful _)

theorem busEvents_lawful (p : Peripheral) (es : List BusEvent) (s : State) :
    s.Lawful (busEvents p es s) := by
  induction es generalizing s with
  | nil => exact .refl s
  | cons e es ih =>
    exact ((s.busEvent_lawful p e).trans (State.closeEvent_still _ _).lawful).trans (ih _)

theorem State.pollTaken_lawful (s : State) (p : Peripheral) (es : List BusEvent) :
    s.Lawful (s.pollTaken p es) := by
  have begun : s.Still ((s.editPeriph p fun r => { r with outstanding := none }).setBus (.confirming p)) :=
    ⟨rfl, rfl, rfl⟩
  exact (begun.lawful.trans (busEvents_lawful p es _)).trans
    (State.editPeriph_still _ p fun r => { r with resetExpected := false }).lawful

theorem State.closeExchange_lawful {f : State → State} (h : s.Lawful (f s)) : s.Lawful (s.closeExchange f) :=
  h.trans ((State.closeEvent_still _ _).trans (State.endExchange_still _)).lawful

theorem State.replyFails_lawful (s : State) : s.Lawful s.replyFails := by
  unfold State.replyFails
  split
  · exact State.closeExchange_lawful (s.exchangeFails_lawful _ _)
  · exact .refl s

theorem State.replyAck_lawful (s : State) : s.Lawful s.replyAck := by
  unfold State.replyAck
  split
  · refine State.closeExchange_lawful ?_
    split
    · exact (s.comeOnline_still _).lawful
    · split
      · exact .refl s
      · split
        · exact s.commandAcked_lawful _ _
        · exact s.attemptFails_lawful _
  · exact .refl s

theorem State.replySetup_lawful (s : State) (chars : List Byte) : s.Lawful (s.replySetup chars) := by
  unfold State.replySetup
  split
  · split
    · split
      · exact (s.setupTaken_still _ _).lawful
      · exact s.replyFails_lawful
    · exact s.replyFails_lawful
  · exact .refl s

theorem State.replyPoll_lawful (s : State) (chars : List Byte) : s.Lawful (s.replyPoll chars) := by
  unfold State.replyPoll
  split
  · split
    · split
      · exact s.pollTaken_lawful _ _
      · exact s.replyFails_lawful
    · exact s.replyFails_lawful
  · exact .refl s

end Sys2Proof.Machine
end

section
/-! SUPPORT. Every command keeps the session's law and the money balance, or starts the part anew; the balance
of the image and of a snapshot (R25, R88). -/

namespace Sys2Proof.Machine

variable {s t : State}

/-! ### The requests of the other blocks -/

theorem State.withSel_still (s : State) (code : Half) {f : Selection → Reply}
    (h : ∀ r, s.Still (f r).state) : s.Still (s.withSel code f).state := by
  rcases s.withSel_cases code f with ⟨-, e⟩ | ⟨r, -, e⟩ <;> rw [e]
  · exact .refl s
  · exact h r

theorem State.withPosition_still (s : State) (code : Half) (index : Byte) (ok : Bool)
    {f : Position → Reply} (h : ∀ p, s.Still (f p).state) :
    s.Still (s.withPosition code index ok f).state := by
  rcases s.withPosition_cases code index ok f with ⟨st, e⟩ | ⟨r, p, -, -, e⟩ <;> rw [e]
  · exact .refl s
  · exact h p

theorem State.findSelection_still (s : State) (code : Half) : s.Still (s.findSelection code).state := by
  unfold State.findSelection
  split
  · exact s.withSel_still code fun _ => .refl s
  · exact .refl s

theorem State.nextSelections_still (s : State) (after : Half) : s.Still (s.nextSelections after).state := by
  unfold State.nextSelections
  split <;> exact .refl s

theorem State.defineSelection_still (s : State) (d : DefineReq) : s.Still (s.defineSelection d).state := by
  unfold State.defineSelection
  split <;> exact ⟨rfl, rfl, rfl⟩

theorem State.retireSelection_still (s : State) (code : Half) : s.Still (s.retireSelection code).state := by
  refine s.withSel_still code fun r => ?_
  split <;> exact ⟨rfl, rfl, rfl⟩

theorem State.setPrice_still (s : State) (code : Half) (set : Option PriceSet) (price : Half) :
    s.Still (s.setPrice code set price).state := by
  refine s.withSel_still code fun r => ?_
  split
  · exact .refl s
  · split
    · exact .refl s
    · split <;> exact ⟨rfl, rfl, rfl⟩

theorem State.readSetting_still (s : State) (num : Nat) : s.Still (s.readSetting num).state := by
  unfold State.readSetting
  split <;> exact .refl s

theorem State.setZoneRequest_still (s : State) (q : ZoneReq) : s.Still (s.setZoneRequest q).state := by
  unfold State.setZoneRequest
  split
  · split
    · exact .refl s
    · exact (s.writeZone_aside _ _).still
  · exact .refl s

theorem State.clearHoldRequest_still (s : State) (zone : Byte) :
    s.Still (s.clearHoldRequest zone).state := by
  unfold State.clearHoldRequest
  split
  · exact .refl s
  · split
    · exact .refl s
    · split
      · exact .refl s
      · split
        · exact .refl s
        · exact (s.clearHold_aside _).still

theorem State.defrostRequest_still (s : State) : s.Still s.defrostRequest.state := by
  unfold State.defrostRequest
  split
  · exact .refl s
  · exact s.defrostDue_aside.still

theorem State.settingWritten_lawful (s : State) (num : Nat) : s.Lawful (s.settingWritten num) := by
  unfold State.settingWritten
  split
  · exact s.updateMasks_still.lawful
  · exact s.inactivityWritten_lawful
  · exact s.evalExact_still.lawful
  · exact (s.promoteAllDue_aside.trans (State.grantPass_aside _)).lawful
  · split
    · exact ((s.promoteIfDue_aside _).trans (State.grantPass_aside _)).lawful
    · split
      · exact s.grantPass_aside.lawful
      · exact (s.rfcSettingWritten_aside _).lawful

theorem State.writeSetting_lawful (s : State) (num : Nat) (v : Int) :
    s.Lawful (s.writeSetting num v).state := by
  unfold State.writeSetting
  split
  · exact .refl s
  · exact State.Lawful.trans (t := { s with settings := s.settings.write num (settingClamp num v) })
      (State.Still.lawful ⟨rfl, rfl, rfl⟩) (State.settingWritten_lawful _ num)

/-- In IDLE there is no credit to keep the cleared totals from balancing (R88, R89). -/
theorem State.clearTotals_lawful (s : State) : s.Lawful s.clearTotals.state := by
  unfold State.clearTotals
  split
  · next idle =>
    refine ⟨fun law => law.congr rfl rfl, fun _ books => ⟨?_, books.idle⟩⟩
    have empty : (s.setTotals Totals.zero).sesc.credit = 0 := books.idle idle
    rw [empty]
    rfl
  · exact .refl s

/-! ### What a command does -/

/-- What one command can make of session and money: within the laws, or anew from a power-on. -/
inductive SessionChange (s t : State) : Prop
  | lawful (h : s.Lawful t)
  | restarted (straps : BitVec 2) (h : t = s.boot straps)
  | lost (h : t = s.losePower)

theorem SessionChange.of_still (h : s.Still t) : SessionChange s t := .lawful h.lawful

/-- A command that writes none of the three: session, executor, totals. -/
theorem SessionChange.of_same (sesc : t.sesc = s.sesc := by rfl)
    (totals : t.chu.totals = s.chu.totals := by rfl) (payout : t.chu.payout = s.chu.payout := by rfl) :
    SessionChange s t := .of_still ⟨sesc, totals, payout⟩

theorem State.on_sessionChange {f : State → State} (h : SessionChange s (f s)) :
    SessionChange s (s.on f) := by
  unfold State.on
  split
  · exact .of_same
  · exact h

theorem State.on_lawful {f : State → State} (h : s.Lawful (f s)) : SessionChange s (s.on f) :=
  State.on_sessionChange (.lawful h)

theorem State.on_still {f : State → State} (h : s.Still (f s)) : SessionChange s (s.on f) :=
  State.on_lawful h.lawful

theorem State.event_lawful {f : State → State} (h : s.Lawful (f s)) : SessionChange s (s.event f) :=
  State.on_lawful (h.trans (State.closeEvent_still _ _).lawful)

theorem State.event_still {f : State → State} (h : s.Still (f s)) : SessionChange s (s.event f) :=
  State.event_lawful h.lawful

theorem State.event_aside {f : State → State} (h : s.Aside (f s)) : SessionChange s (s.event f) :=
  State.event_lawful h.lawful

theorem State.expire_lawful (s : State) (left : Option Nat) {f : State → State}
    (h : ∀ x : State, x.Lawful (f x)) : s.Lawful (s.expire left f) := by
  cases left with
  | none => exact .refl s
  | some d => exact (s.elapse_lawful d).trans (h _)

theorem State.expire_aside_lawful (s : State) (left : Option Nat) {f : State → State}
    (h : ∀ x : State, x.Aside (f x)) : s.Lawful (s.expire left f) :=
  s.expire_lawful left fun x => (h x).lawful

theorem State.host_lawful (s : State) (code want len : Nat) {f : State → Reply}
    (h : s.Lawful (f s).state) : SessionChange s (s.host code want len f) := by
  unfold State.host
  split
  · split
    · exact .lawful ((h.trans (State.closeEvent_still _ s.sesc).lawful).trans
        (State.Still.lawful ⟨rfl, rfl, rfl⟩))
    · exact .of_same
  · exact .of_same

theorem State.host_still (s : State) (code want len : Nat) {f : State → Reply}
    (h : s.Still (f s).state) : SessionChange s (s.host code want len f) := s.host_lawful _ _ _ h.lawful

theorem State.host_reads (s : State) (code want len : Nat) (st : Status) (body : State → List Field) :
    SessionChange s (s.host code want len fun x => x.reply st (body x)) := s.host_still _ _ _ (.refl s)

theorem State.hostSave_sessionChange (s : State) (code len : Nat) (isRestart : Bool) :
    SessionChange s (s.hostSave code len isRestart) := by
  unfold State.hostSave
  split
  · split <;> exact .of_same
  · exact .of_same

theorem State.onLink_sessionChange {f : State → State} (h : SessionChange s (f s)) :
    SessionChange s (s.onLink f) := by
  unfold State.onLink
  split
  · exact h
  · exact .of_same

/-- A command of the link that at most sets the receive slot. -/
theorem State.onLink_slot (s : State) (p : State → Prop) [DecidablePred p] (x : Slot) :
    SessionChange s (s.onLink fun s => if p s then s.setSlot x else s) := by
  refine State.onLink_sessionChange ?_
  split <;> exact .of_same

theorem State.endResponse_sessionChange (s : State) (straps : BitVec 2) :
    SessionChange s (s.endResponse straps) := by
  unfold State.endResponse
  split
  · exact .restarted straps rfl
  all_goals exact .of_same

theorem State.endSave_still (s : State) : s.Still s.endSave := by
  unfold State.endSave
  split
  · exact .refl s
  · unfold State.answerSave
    split <;> exact ⟨rfl, rfl, rfl⟩

theorem State.assertWarning_lawful (s : State) : s.Lawful s.assertWarning := by
  unfold State.assertWarning
  split
  · exact .refl s
  · exact (s.warnBlocks_lawful.trans (State.closeEvent_still _ s.sesc).lawful).trans
      (State.Still.lawful ⟨rfl, rfl, rfl⟩)

theorem State.pulseEnd_lawful (s : State) : s.Lawful (s.setPayout { s.chu.payout with pulse := none }) :=
  State.setPayout_lawful rfl rfl rfl .inl

/-- Every command in every state does to session and money one of the things of `SessionChange`. -/
theorem exec_sessionChange (s : State) (c : Instr) : ∃ t, exec c s = .next t ∧ SessionChange s t :=
  match c with
  | .powerOn straps => ⟨_, rfl, .restarted straps rfl⟩
  | .resetPin straps => ⟨_, rfl, State.on_sessionChange (.restarted straps rfl)⟩
  | .restoreEnd => ⟨_, rfl, by unfold State.endRestore; split <;> exact .of_same⟩
  | .pfwAssertion => ⟨_, rfl, State.on_lawful s.assertWarning_lawful⟩
  | .pfwDeassertion => ⟨_, rfl, State.event_aside s.deassertWarning_aside⟩
  | .saveEnd => ⟨_, rfl, State.on_still s.endSave_still⟩
  | .doorChange isOpen => ⟨_, rfl, State.event_still (s.changeDoor_still isOpen)⟩
  | .badFrame => ⟨_, rfl, by split <;> exact .of_same⟩
  | .unknownRequest _ => ⟨_, rfl, by split <;> exact .of_same⟩
  | .discardQuietTimeExpiry => ⟨_, rfl, s.onLink_slot (fun s => s.hli.slot = .discarding) _⟩
  | .frameGapExpiry => ⟨_, rfl, s.onLink_slot (fun s => s.hli.slot.collects) _⟩
  | .responseEnd straps => ⟨_, rfl, State.onLink_sessionChange (s.endResponse_sessionChange straps)⟩
  | .ident _ => ⟨_, rfl, s.host_reads _ _ _ _ _⟩
  | .noticesRead _ => ⟨_, rfl, s.host_still _ _ _ ⟨rfl, rfl, rfl⟩⟩
  | .settingRead _ num => ⟨_, rfl, s.host_still _ _ _ (s.readSetting_still _)⟩
  | .settingWrite _ num value => ⟨_, rfl, s.host_lawful _ _ _ (s.writeSetting_lawful _ _)⟩
  | .storeSave _ => ⟨_, rfl, s.hostSave_sessionChange _ _ _⟩
  | .restart _ => ⟨_, rfl, s.hostSave_sessionChange _ _ _⟩
  | .selFind _ code => ⟨_, rfl, s.host_still _ _ _ (s.findSelection_still code)⟩
  | .selNext _ after => ⟨_, rfl, s.host_still _ _ _ (s.nextSelections_still after)⟩
  | .selDefine _ d => ⟨_, rfl, s.host_still _ _ _ (s.defineSelection_still d)⟩
  | .selStockSet _ code index known n =>
    ⟨_, rfl, s.host_still _ _ _ (s.withPosition_still code index _ fun _ => ⟨rfl, rfl, rfl⟩)⟩
  | .selStockAdd _ code index n =>
    ⟨_, rfl, s.host_still _ _ _ (s.withPosition_still code index _ fun _ => ⟨rfl, rfl, rfl⟩)⟩
  | .selSuspend _ code => ⟨_, rfl, s.host_still _ _ _ (s.withSel_still code fun _ => ⟨rfl, rfl, rfl⟩)⟩
  | .selResume _ code => ⟨_, rfl, s.host_still _ _ _ (s.withSel_still code fun _ => ⟨rfl, rfl, rfl⟩)⟩
  | .selClearFault _ code index =>
    ⟨_, rfl, s.host_still _ _ _ (s.withPosition_still code index _ fun _ => ⟨rfl, rfl, rfl⟩)⟩
  | .selRetire _ code => ⟨_, rfl, s.host_still _ _ _ (s.retireSelection_still code)⟩
  | .priceSet _ code set price => ⟨_, rfl, s.host_still _ _ _ (s.setPrice_still code set price)⟩
  | .priceSwap _ => ⟨_, rfl, s.host_still _ _ _ ⟨rfl, rfl, rfl⟩⟩
  | .vend _ code => ⟨_, rfl, s.host_lawful _ _ _ (s.vendRequest_lawful code)⟩
  | .cancel _ => ⟨_, rfl, s.host_lawful _ _ _ s.cancelRequest_lawful⟩
  | .cashlessOpen _ amount => ⟨_, rfl, s.host_lawful _ _ _ (s.cashlessOpenRequest_lawful amount)⟩
  | .cashlessClose _ => ⟨_, rfl, s.host_lawful _ _ _ s.cashlessCloseRequest_lawful⟩
  | .sessionRead _ => ⟨_, rfl, s.host_reads _ _ _ _ _⟩
  | .driveTest _ row col => ⟨_, rfl, s.host_still _ _ _ (s.testRequest_still _ _)⟩
  | .driveRead _ => ⟨_, rfl, s.host_reads _ _ _ _ _⟩
  | .tubeDefine _ tube denom capacity lowMark =>
    ⟨_, rfl, s.host_still _ _ _ (s.defineTube_still tube denom capacity lowMark)⟩
  | .tubeSetCount _ tube count => ⟨_, rfl, s.host_still _ _ _ (s.setCount_still tube count)⟩
  | .tubeEnable _ tube => ⟨_, rfl, s.host_still _ _ _ (s.setTubeState_still tube .ok)⟩
  | .tubeDisable _ tube => ⟨_, rfl, s.host_still _ _ _ (s.setTubeState_still tube .disabled)⟩
  | .tubeRead _ => ⟨_, rfl, s.host_reads _ _ _ _ _⟩
  | .classSet _ cls enabled tube => ⟨_, rfl, s.host_still _ _ _ (s.setClass_still cls enabled tube)⟩
  | .billSet _ cls enabled => ⟨_, rfl, s.host_still _ _ _ (s.setBill_still cls enabled)⟩
  | .classRead _ => ⟨_, rfl, s.host_reads _ _ _ _ _⟩
  | .totalsRead _ => ⟨_, rfl, s.host_reads _ _ _ _ _⟩
  | .totalsClear _ => ⟨_, rfl, s.host_lawful _ _ _ s.clearTotals_lawful⟩
  | .payoutTest _ tube n => ⟨_, rfl, s.host_lawful _ _ _ (s.payoutTest_lawful tube n)⟩
  | .probeSet _ p1 p2 p3 p4 => ⟨_, rfl, s.host_still _ _ _ (s.setProbes_still p1 p2 p3 p4)⟩
  | .payoutRead _ => ⟨_, rfl, s.host_reads _ _ _ _ _⟩
  | .cashbusReset _ address => ⟨_, rfl, s.host_still _ _ _ (s.busReset_still address)⟩
  | .cashbusRead _ => ⟨_, rfl, s.host_reads _ _ _ _ _⟩
  | .loadRead _ => ⟨_, rfl, s.host_reads _ _ _ _ _⟩
  | .measRead _ => ⟨_, rfl, s.host_reads _ _ _ _ _⟩
  | .zoneSet _ z => ⟨_, rfl, s.host_still _ _ _ (s.setZoneRequest_still z)⟩
  | .zoneRead _ => ⟨_, rfl, s.host_reads _ _ _ _ _⟩
  | .zoneClearHold _ zone => ⟨_, rfl, s.host_still _ _ _ (s.clearHoldRequest_still zone)⟩
  | .refrigDefrost _ => ⟨_, rfl, s.host_still _ _ _ s.defrostRequest_still⟩
  | .refrigRead _ => ⟨_, rfl, s.host_reads _ _ _ _ _⟩
  | .inactivityExpiry => ⟨_, rfl, State.event_lawful (s.expire_lawful _ State.timeOut_lawful)⟩
  | .serveSlot => ⟨_, rfl, State.on_lawful ((s.elapse_lawful _).trans (State.openSlot_still _).lawful)⟩
  | .masterFrameSent => ⟨_, rfl, State.on_still s.frameSent_still⟩
  | .replyWindowExpiry => ⟨_, rfl, State.on_lawful (s.expire_lawful _ State.replyFails_lawful)⟩
  | .replyGapExpiry => ⟨_, rfl, State.on_lawful s.replyFails_lawful⟩
  | .ack => ⟨_, rfl, State.on_lawful s.replyAck_lawful⟩
  | .nak => ⟨_, rfl, State.on_lawful s.replyFails_lawful⟩
  | .badReply => ⟨_, rfl, State.on_lawful s.replyFails_lawful⟩
  | .setupReply chars => ⟨_, rfl, State.on_lawful (s.replySetup_lawful chars)⟩
  | .pollReply chars => ⟨_, rfl, State.on_lawful (s.replyPoll_lawful chars)⟩
  | .confirmationSent => ⟨_, rfl, State.on_still s.confirmed_still⟩
  | .probeTimeExpiry p => ⟨_, rfl, State.on_lawful (by
      split
      · exact .refl s
      · exact s.elapse_lawful _)⟩
  | .stackWatchExpiry =>
    ⟨_, rfl, State.event_lawful (s.expire_lawful _ fun x => x.goOffline_lawful .bill)⟩
  | .fullSwitchChange tube active => ⟨_, rfl, State.event_still (s.fullReads_still _ active)⟩
  | .lowSwitchChange tube low => ⟨_, rfl, State.event_still (s.lowReads_still _ low)⟩
  | .payoutGrant => ⟨_, rfl, State.event_lawful s.takePayout_lawful⟩
  | .pulseEnd => ⟨_, rfl, State.event_lawful (s.expire_lawful _ State.pulseEnd_lawful)⟩
  | .exitCount => ⟨_, rfl, State.event_lawful s.exitCount_lawful⟩
  | .exitWindowExpiry => ⟨_, rfl, State.event_lawful (.assuming fun law => by
      split
      · next w open' =>
        have ejecting : s.chu.payout.state = .ejecting := law.window (by simp [open'])
        exact (s.elapse_lawful w.left).trans (State.windowEnds_lawful (s := s.elapse w.left) ejecting w.tube)
      · exact .refl s)⟩
  | .spiralGrant homeOpen => ⟨_, rfl, State.event_still (s.takeSpiral_still homeOpen)⟩
  | .powerTimerExpiry =>
    ⟨_, rfl, State.event_lawful (s.expire_lawful _ fun x => x.endEntry_lawful .noPower)⟩
  | .homeSwitchOpens =>
    ⟨_, rfl, State.event_still (by unfold State.homeOpens; split <;> exact ⟨rfl, rfl, rfl⟩)⟩
  | .homeSwitchCloses => ⟨_, rfl, State.event_lawful (by
      split
      · exact s.revolution_lawful
      · exact .refl s)⟩
  | .leaveTimerExpiry => ⟨_, rfl, State.event_lawful (s.expire_lawful _ fun x => x.endEntry_lawful _)⟩
  | .turnTimerExpiry => ⟨_, rfl, State.event_lawful (s.expire_lawful _ fun x => x.endEntry_lawful _)⟩
  | .currentSample code => ⟨_, rfl, State.event_lawful (by
      split
      · exact (s.elapse_lawful _).trans (State.takeSample_lawful _ _ _)
      · exact .refl s)⟩
  | .settleWindowExpiry => ⟨_, rfl, State.event_lawful (s.expire_lawful _ State.settleEnds_lawful)⟩
  | .curtainInterruptionBegins => ⟨_, rfl, State.event_lawful s.curtainBegins_lawful⟩
  | .curtainInterruptionEnds => ⟨_, rfl, State.event_still (by split <;> exact ⟨rfl, rfl, rfl⟩)⟩
  | .blockTimerExpiry =>
    ⟨_, rfl, State.event_lawful (s.expire_lawful _ fun _ => State.Still.lawful ⟨rfl, rfl, rfl⟩)⟩
  | .passEnd codes =>
    ⟨_, rfl, State.event_lawful ((s.elapse_lawful _).trans (State.endPass_aside _ codes).lawful)⟩
  | .zoneTemperature zone => ⟨_, rfl, State.event_aside (s.zoneTakes_aside zone)⟩
  | .vdriveValue => ⟨_, rfl, State.event_aside s.vdriveTakes_aside⟩
  | .evaporatorValue => ⟨_, rfl, State.event_aside s.evapTakes_aside⟩
  | .promotion load =>
    ⟨_, rfl, State.event_lawful (s.expire_aside_lawful _ fun x => x.promote_aside load)⟩
  | .damperGrant => ⟨_, rfl, State.event_aside s.takeDamper_aside⟩
  | .damperMoveEnd => ⟨_, rfl, State.event_lawful (s.expire_aside_lawful _ State.endMove_aside)⟩
  | .minuteMark => ⟨_, rfl, State.event_lawful ((s.elapse_lawful _).trans
      (((State.markZone_aside _ .z1).trans (State.markZone_aside _ .z2)).trans
        (State.markZone_aside _ .z3)).still.after.lawful)⟩
  | .compressorGrant => ⟨_, rfl, State.event_aside s.takeCompressor_aside⟩
  | .defrostGrant => ⟨_, rfl, State.event_aside s.takeDefrost_aside⟩
  | .lockoutExpiry => ⟨_, rfl, State.event_lawful (s.expire_aside_lawful _ State.lockoutEnds_aside)⟩
  | .startWindowEnd =>
    ⟨_, rfl, State.event_lawful (s.expire_aside_lawful _ State.startWindowEnds_aside)⟩
  | .minRunExpiry => ⟨_, rfl, State.event_lawful (s.expire_aside_lawful _ fun x => by
      split
      · exact x.stopCompressor_aside
      · exact .refl x)⟩
  | .maxContinuousRunExpiry =>
    ⟨_, rfl, State.event_lawful (s.expire_aside_lawful _ State.defrostDue_aside)⟩
  | .defrostIntervalExpiry =>
    ⟨_, rfl, State.event_lawful (s.expire_aside_lawful _ State.defrostDue_aside)⟩
  | .heaterTimeLimitExpiry =>
    ⟨_, rfl, State.event_lawful (s.expire_aside_lawful _ State.endDefrost_aside)⟩
  | .defrostWallTimeExpiry =>
    ⟨_, rfl, State.event_lawful (s.expire_aside_lawful _ State.endDefrost_aside)⟩
  | .dripTimeExpiry => ⟨_, rfl, State.event_lawful (s.expire_aside_lawful _ State.dripEnds_aside)⟩
  | .recoveryWindowExpiry =>
    ⟨_, rfl, State.event_lawful (s.expire_aside_lawful _ State.recoveryEnds_aside)⟩
  | .powerLoss => ⟨_, rfl, .lost rfl⟩
  | .frameStart => ⟨_, rfl, s.onLink_slot (fun s => s.hli.slot = .idle) _⟩
  | .lenOutOfRange => ⟨_, rfl, s.onLink_slot (fun s => s.hli.slot.collects) _⟩
  | .curtainFirstReading interrupted => ⟨_, rfl, State.event_still (by
      split
      · exact .refl s
      · split <;> exact ⟨rfl, rfl, rfl⟩)⟩

/-- A step does to session and money what its command does; an idle step lets time pass. -/
theorem step_sessionChange (h : step s = .next t) : ∃ q, SessionChange (s.withPending q) t := by
  unfold step at h
  split at h
  · cases h
    refine ⟨s.pending, ?_⟩
    unfold State.idle State.on
    split
    · exact .of_same
    · exact .lawful (s.elapse_lawful 1)
  · next c rest _ =>
    obtain ⟨u, hu, change⟩ := exec_sessionChange (s.withPending rest) c
    rw [hu] at h
    cases h
    exact ⟨rest, change⟩

/-! ### The laws of every step -/

theorem boot_session (s : State) (straps : BitVec 2) : SessionLaw (s.boot straps) := by
  have started : (s.boot straps).sesc = (s.rst.image.getD Image.default).session := rfl
  refine .of_free ?_ ?_ ⟨fun run => absurd rfl run, rfl, fun some => by cases some⟩ <;> rw [started]
  · by_cases credit : (s.rst.image.getD Image.default).credit = 0#32 <;>
      constructor <;> simp [Image.session, credit]
  · unfold Image.session
    dsimp only
    split <;> simp

theorem losePower_session (s : State) : SessionLaw s.losePower := reset_safe.session.congr rfl rfl

/-- Settles O57: each change a step can make (`step_sessionChange`) keeps the session's law. -/
theorem sessionKept : Obligations.SessionKept := by
  intro s t law hstep
  obtain ⟨q, change⟩ := step_sessionChange hstep
  cases change with
  | lawful h => exact h.session (law.congr rfl rfl)
  | restarted straps h => subst h; exact boot_session _ straps
  | lost h => subst h; exact losePower_session _

/-- A power-on finds the image's totals and credit, or none. -/
theorem boot_books {s : State} (straps : BitVec 2)
    (image : ∀ x, s.rst.image = some x → balanced x.totals x.credit) : (s.boot straps).Books := by
  have started : (s.boot straps).Books ↔ balanced (s.rst.image.getD Image.default).totals
      (s.rst.image.getD Image.default).credit := by
    refine ⟨fun books => books.live, fun live => ⟨live, fun idle => ?_⟩⟩
    change (s.rst.image.getD Image.default).session.phase = .idle at idle
    by_contra credit
    change (s.rst.image.getD Image.default).credit ≠ 0 at credit
    simp [Image.session] at idle
    exact credit idle
  rw [started]
  cases h : s.rst.image with
  | none => rfl
  | some x => exact image x h

/-- The live records of a balanced state after a step. -/
theorem step_books (law : SessionLaw s) (balance : BalanceLaw s) (hstep : step s = .next t) : t.Books := by
  obtain ⟨q, change⟩ := step_sessionChange hstep
  cases change with
  | lawful h => exact h.books (law.congr rfl rfl) ⟨balance.live, balance.idle⟩
  | restarted straps h => subst h; exact boot_books straps balance.image
  | lost h => subst h; exact ⟨reset_balance.live, reset_balance.idle⟩

/-- Settles O51: the live records balance after each change a step can make (`step_books`), and the image and a
snapshot take their money from live records (`step_tableChange`). -/
theorem balanceKept : Obligations.BalanceKept := by
  intro s t law balance hstep
  obtain ⟨live, idle⟩ := step_books law balance hstep
  obtain ⟨-, -, image, saving⟩ := balance
  obtain ⟨q, change⟩ := step_tableChange hstep
  cases change with
  | ran _ k => exact ⟨live, idle, by rw [k]; exact image, by rw [k]; exact saving⟩
  | saveStarted _ k =>
    refine ⟨live, idle, ?_, ?_⟩ <;> intro x hx <;> rw [k] at hx <;> cases hx
    exact live
  | saveEnded y _ hy k =>
    refine ⟨live, idle, ?_, ?_⟩ <;> intro x hx <;> rw [k] at hx <;> cases hx
    exact saving _ hy
  | restarted straps h =>
    subst h
    exact ⟨live, idle, image, fun x hx => by cases hx⟩
  | lost h =>
    subst h
    exact ⟨live, idle, image, fun x hx => by cases hx⟩

end Sys2Proof.Machine
end

section
/-! SUPPORT. What CHU hands to the Cash Bus: the masks and the map as functions of what they are made of, and the
records of both peripherals behind a recomputation (R84, R85, R122, R123). -/

namespace Sys2Proof.Machine

variable {s t : State}

/-! ### The masks by what they are made of (R85) -/

/-- The masks depend on the session as its notice shows it, the door, the max credit and the classes. -/
theorem State.maskOf_congr (view : t.sesc.view = s.sesc.view) (door : t.hli.doorOpen = s.hli.doorOpen)
    (max : t.settings.maxCredit = s.settings.maxCredit) (coins : t.chu.coins = s.chu.coins)
    (bills : t.chu.bills = s.chu.bills) (p : Peripheral) : t.maskOf p = s.maskOf p := by
  obtain ⟨phase, kind, credit, escrow⟩ : t.sesc.phase = s.sesc.phase ∧ t.sesc.kind = s.sesc.kind ∧
      t.sesc.credit = s.sesc.credit ∧ t.sesc.escrow = s.sesc.escrow := by
    simpa [Session.view] using view
  cases p
  · simp only [State.maskOf, State.coinMask, State.coinsInhibited, Session.escrowValue, phase, kind, credit, escrow,
      door, max, coins] <;>
      rfl
  · simp only [State.maskOf, State.billMask, State.billsInhibited, phase, credit, escrow, door, max, bills]

/-- The route map depends on the coin classes and the tubes. -/
theorem State.routeMap_congr (coins : t.chu.coins = s.chu.coins) (tubes : t.chu.tubes = s.chu.tubes) :
    t.routeMap = s.routeMap := by
  simp only [State.routeMap, coins, tubes]

@[simp] theorem State.setPeriph_maskOf (p q : Peripheral) (r : PeriphRec) :
    (s.setPeriph q r).maskOf p = s.maskOf p := State.maskOf_congr rfl rfl rfl rfl rfl p

@[simp] theorem State.raise_maskOf (n : Notice) (p : Peripheral) : (s.raise n).maskOf p = s.maskOf p :=
  State.maskOf_congr rfl rfl rfl rfl rfl p

@[simp] theorem State.noteMask_maskOf (q : Peripheral) (m : BitVec 16) (p : Peripheral) :
    (s.noteMask q m).maskOf p = s.maskOf p := by
  cases q <;> exact State.maskOf_congr rfl rfl rfl rfl rfl p

@[simp] theorem State.answer_periph (k : Nat) (st : Status) (body : List Field) (p : Peripheral) :
    (s.answer k st body).periph p = s.periph p := rfl

@[simp] theorem State.raise_periph (n : Notice) (p : Peripheral) : (s.raise n).periph p = s.periph p := rfl

@[simp] theorem State.setSesc_periph (x : Session) (p : Peripheral) : (s.setSesc x).periph p = s.periph p := rfl

/-! ### A mask handed (R85, R122) -/

/-- A peripheral's record with another command in its ACCEPT_MASK slot. -/
def PeriphRec.withMask (r : PeriphRec) (m : Option (BitVec 16)) : PeriphRec :=
  { r with pending := { r.pending with acceptMask := m } }

@[simp] theorem State.hand_periph (p : Peripheral) (f : PendingSet → PendingSet) : (s.hand p f).periph p =
    if (s.periph p).link = .online then { s.periph p with pending := f (s.periph p).pending } else s.periph p := by
  unfold State.hand
  split
  · exact s.periph_setPeriph_self _ _
  · rfl

theorem State.hand_periph_ne {p q : Peripheral} (f : PendingSet → PendingSet) (h : q ≠ p) :
    (s.hand p f).periph q = s.periph q := by
  unfold State.hand
  split
  · exact s.periph_setPeriph_ne _ h
  · rfl

@[simp] theorem State.hand_maskOf (q : Peripheral) (f : PendingSet → PendingSet) (p : Peripheral) :
    (s.hand q f).maskOf p = s.maskOf p :=
  State.maskOf_congr (by simp) (by simp) (by simp) (by simp) (by simp) p

@[simp] theorem State.updateMask_maskOf (q p : Peripheral) : (s.updateMask q).maskOf p = s.maskOf p := by
  unfold State.updateMask State.handAcceptMask
  simp only
  split <;> simp

@[simp] theorem State.noteMask_lastMask (p : Peripheral) (m : BitVec 16) :
    (s.noteMask p m).lastMask p = some m := by
  cases p <;> rfl

theorem State.noteMask_lastMask_ne {p q : Peripheral} (m : BitVec 16) (h : q ≠ p) :
    (s.noteMask p m).lastMask q = s.lastMask q :=
  match p, q, h with
  | .coin, .bill, _ => rfl
  | .bill, .coin, _ => rfl
  | .coin, .coin, h => absurd rfl h
  | .bill, .bill, h => absurd rfl h

@[simp] theorem State.hand_lastMask (q : Peripheral) (f : PendingSet → PendingSet) (p : Peripheral) :
    (s.hand q f).lastMask p = s.lastMask p := by
  cases p <;> simp [State.lastMask]

@[simp] theorem State.noteMask_periph (q : Peripheral) (m : BitVec 16) (p : Peripheral) :
    (s.noteMask q m).periph p = s.periph p := by
  cases q <;> rfl

/-- The mask's recomputation leaves it the last one handed. -/
@[simp] theorem State.updateMask_lastMask (p : Peripheral) :
    (s.updateMask p).lastMask p = some (s.maskOf p) := by
  unfold State.updateMask State.handAcceptMask
  simp only
  split
  · next h => exact h
  · simp

theorem State.updateMask_lastMask_ne {p q : Peripheral} (h : q ≠ p) :
    (s.updateMask p).lastMask q = s.lastMask q := by
  unfold State.updateMask State.handAcceptMask
  simp only
  split
  · rfl
  · simp [State.noteMask_lastMask_ne _ h]

/-- A peripheral's record behind the recomputation of its mask: a mask that differs from the last one handed
stands in the slot of an ONLINE validator. -/
def State.masked (s : State) (p : Peripheral) : PeriphRec :=
  if (s.periph p).link = .online ∧ s.lastMask p ≠ some (s.maskOf p) then
    (s.periph p).withMask (some (s.maskOf p))
  else s.periph p

@[simp] theorem State.updateMask_periph (p : Peripheral) : (s.updateMask p).periph p = s.masked p := by
  unfold State.updateMask State.handAcceptMask State.masked
  by_cases same : s.lastMask p = some (s.maskOf p)
  · simp [same]
  · simp only [same, if_false, State.hand_periph, State.noteMask_periph, ne_eq, not_false_eq_true, and_true]
    rfl

theorem State.updateMask_periph_ne {p q : Peripheral} (h : q ≠ p) : (s.updateMask p).periph q = s.periph q := by
  unfold State.updateMask State.handAcceptMask
  simp only
  split
  · rfl
  · rw [State.hand_periph_ne _ h, State.noteMask_periph]

/-! ### Both masks -/

@[simp] theorem State.updateMasks_maskOf (p : Peripheral) : s.updateMasks.maskOf p = s.maskOf p := by
  simp [State.updateMasks]

@[simp] theorem State.updateMasks_lastMask (p : Peripheral) :
    s.updateMasks.lastMask p = some (s.maskOf p) := by
  cases p
  · exact (State.updateMask_lastMask_ne (by decide)).trans (s.updateMask_lastMask .coin)
  · exact (State.updateMask_lastMask .bill).trans (by simp)

@[simp] theorem State.updateMasks_periph (p : Peripheral) : s.updateMasks.periph p = s.masked p := by
  cases p
  · exact (State.updateMask_periph_ne (by decide)).trans (s.updateMask_periph .coin)
  · refine (State.updateMask_periph .bill).trans ?_
    simp only [State.masked, State.updateMask_periph_ne (s := s) (p := .coin) (q := .bill) (by decide),
      State.updateMask_lastMask_ne (s := s) (p := .coin) (q := .bill) (by decide), State.updateMask_maskOf]

/-- The masks as they stand are the last ones handed (R85). -/
theorem State.updateMasks_last : s.updateMasks.chu.lastCoinMask = some s.updateMasks.coinMask ∧
    s.updateMasks.chu.lastBillMask = some s.updateMasks.billMask := by
  refine ⟨(s.updateMasks_lastMask .coin).trans ?_, (s.updateMasks_lastMask .bill).trans ?_⟩ <;>
    exact congrArg some (s.updateMasks_maskOf _).symm

theorem State.masked_eq (s : State) (p : Peripheral) : ∃ m, s.masked p = (s.periph p).withMask m := by
  unfold State.masked
  split
  · exact ⟨_, rfl⟩
  · exact ⟨_, rfl⟩

/-- The end of an event changes the ACCEPT_MASK slot of a peripheral's record alone. -/
theorem State.closeEvent_periph (s : State) (before : Session) (p : Peripheral) :
    ∃ m, (s.closeEvent before).periph p = (s.periph p).withMask m := by
  unfold State.closeEvent State.noteSession
  split
  · exact ⟨_, rfl⟩
  · rw [State.updateMasks_periph]
    exact (s.raise (.session s.sesc.phase s.sesc.credit s.sesc.escrowValue)).masked_eq p

@[simp] theorem State.closeEvent_slots (s : State) (before : Session) (p : Peripheral) :
    ((s.closeEvent before).periph p).link = (s.periph p).link ∧
    ((s.closeEvent before).periph p).pending.reset = (s.periph p).pending.reset ∧
    ((s.closeEvent before).periph p).pending.escrow = (s.periph p).pending.escrow ∧
    ((s.closeEvent before).periph p).pending.setup = (s.periph p).pending.setup ∧
    ((s.closeEvent before).periph p).pending.routeMap = (s.periph p).pending.routeMap ∧
    ((s.closeEvent before).periph p).outstanding = (s.periph p).outstanding ∧
    ((s.closeEvent before).periph p).stackWatch = (s.periph p).stackWatch ∧
    ((s.closeEvent before).periph p).resetExpected = (s.periph p).resetExpected ∧
    ((s.closeEvent before).periph p).lastFault = (s.periph p).lastFault := by
  obtain ⟨m, h⟩ := s.closeEvent_periph before p
  rw [h]
  exact ⟨rfl, rfl, rfl, rfl, rfl, rfl, rfl, rfl, rfl⟩

/-! ### A mask queued in a set-up (R125 to R127) -/

/-- The mask as it stands is the last one handed, and waits in the slot. -/
def State.MaskQueued (s : State) (p : Peripheral) : Prop :=
  s.lastMask p = some (s.maskOf p) ∧ (s.periph p).pending.acceptMask = some (s.maskOf p)

/-- A waiting mask of an ONLINE validator follows the recomputation. -/
theorem State.updateMasks_queued {p : Peripheral} (online : (s.periph p).link = .online)
    (last : s.lastMask p = (s.periph p).pending.acceptMask) : s.updateMasks.MaskQueued p := by
  refine ⟨by simp, ?_⟩
  rw [State.updateMasks_periph, State.updateMasks_maskOf, State.masked]
  by_cases same : s.lastMask p = some (s.maskOf p)
  · simp [same, ← last]
  · simp [same, online, PeriphRec.withMask]

/-- A mask queued before the session's part of an event is queued as it stands behind it. -/
theorem State.closeEvent_queued {p : Peripheral} {before : Session} (online : (s.periph p).link = .online)
    (last : s.lastMask p = (s.periph p).pending.acceptMask)
    (fresh : s.sesc.view = before.view → s.lastMask p = some (s.maskOf p)) :
    (s.closeEvent before).MaskQueued p := by
  unfold State.closeEvent State.noteSession
  split
  · next same => exact ⟨fresh same, last.symm.trans (fresh same)⟩
  · exact State.updateMasks_queued (s := s.raise (.session s.sesc.phase s.sesc.credit s.sesc.escrowValue))
      online (by cases p <;> exact last)

/-! ### The end of an exchange (R113, R123) -/

/-- With no slot late the exchange alone ends. -/
theorem State.endExchange_of_none_late (late : s.cbm.late = []) : s.endExchange = s.setBus .idle := by
  have none_left : (s.setBus .idle).cbm.late = [] := late
  simp only [State.endExchange, none_left, serveLate]
  exact congrArg (fun l => { s with cbm := { s.cbm with bus := Bus.idle, late := l } }) late.symm

end Sys2Proof.Machine
end

section
/-! SUPPORT. VEND: the refusals, and the vend accepted (R34 to R36, R38). -/

namespace Sys2Proof.Machine

variable {s : State}

/-! ### The refusals (R34) -/

@[simp] theorem State.restartInactivity_view (s : State) : s.restartInactivity.sesc.view = s.sesc.view := by
  unfold State.restartInactivity
  split <;> rfl

/-- A session as a refusal of VEND leaves it. -/
def State.vendRefused (s : State) : State :=
  if s.sesc.phase = .cashCredit ∨ s.sesc.phase = .cashlessReady then s.restartInactivity else s

@[simp] theorem State.vendRefused_view (s : State) : s.vendRefused.sesc.view = s.sesc.view := by
  unfold State.vendRefused
  split
  · exact s.restartInactivity_view
  · rfl

/-- Outside CASH_CREDIT and CASHLESS_READY a refusal leaves the session as it was. -/
theorem State.vendRefused_of_ne (credit : s.sesc.phase ≠ .cashCredit) (ready : s.sesc.phase ≠ .cashlessReady) :
    s.vendRefused = s :=
  if_neg (not_or.2 ⟨credit, ready⟩)

/-- A VEND the owner refuses is answered with the refusal, the timer restarted. -/
theorem exec_vend_refused (ready : s.linkReady = true) {code : Half} {st : Status} {body : List Field}
    (hf : s.vendRequest code = s.refuseVend st body) :
    exec (.vend 2 code) s = .next (s.vendRefused.answer 0x20 st body) :=
  State.host_answers ready (f := fun s => s.vendRequest code) hf s.vendRefused_view

/-- A VEND with the door closed and a known code. -/
theorem State.vendRequest_of_found {code : Half} {r : Selection} (door : s.hli.doorOpen = false)
    (found : findSel s.selt.table code.toNat = some r) : s.vendRequest code =
      match s.sesc.phase with
      | .idle => s.refuseVend .noSession [.money (r.price s.selt.active)]
      | .cashCredit => s.vendFrom r
      | .cashlessReady => s.vendFrom r
      | _ => s.refuseVend .busy [] := by
  simp only [State.vendRequest, door, found]
  rfl

theorem State.vendRequest_of_open_session {code : Half} {r : Selection} (door : s.hli.doorOpen = false)
    (found : findSel s.selt.table code.toNat = some r)
    (phase : s.sesc.phase = .cashCredit ∨ s.sesc.phase = .cashlessReady) :
    s.vendRequest code = s.vendFrom r := by
  rw [State.vendRequest_of_found door found]
  rcases phase with phase | phase <;> rw [phase]

/-- Settles O21: each check of R34 in its turn. -/
theorem vendRefused : Obligations.VendRefused := by
  intro s code ready
  have refused {st : Status} {body : List Field} (hf : s.vendRequest code = s.refuseVend st body) :=
    exec_vend_refused ready hf
  refine ⟨fun door => refused (if_pos door), fun door => ⟨fun absent => refused ?_, fun r found => ⟨?_, ?_, ?_⟩⟩⟩
  · simp only [State.vendRequest, door, absent]
    rfl
  · intro idle
    rw [refused (by rw [State.vendRequest_of_found door found, idle]),
      State.vendRefused_of_ne (by simp [idle]) (by simp [idle])]
    rfl
  · intro busy
    rw [refused (st := .busy) (body := []) (by
        rw [State.vendRequest_of_found door found]; rcases busy with h | h | h <;> rw [h]),
      State.vendRefused_of_ne (by rcases busy with h | h | h <;> simp [h])
        (by rcases busy with h | h | h <;> simp [h])]
  · intro phase
    have request := State.vendRequest_of_open_session door found phase
    refine ⟨fun sale => refused (request.trans (if_pos sale)), fun sale => ⟨fun low => ?_, fun enough blocked => ?_⟩⟩
    · refine refused (request.trans ?_)
      simp only [State.vendFrom, sale, low]
      rfl
    · refine refused (request.trans ?_)
      simp only [State.vendFrom, sale, Nat.not_lt.2 enough, blocked]
      rfl

/-! ### The vend accepted (R35, R36, R38) -/

theorem State.any_usable_of_active {r : Selection} (active : s.saleState r = .active) :
    r.positions.any Position.usable = true := by
  unfold State.saleState at active
  by_contra unusable
  simp only [unusable] at active
  split at active
  · cases active
  · split at active
    · cases active
    · split at active
      · next h => cases h
      · split at active <;> cases active

/-- An ACTIVE selection has a position to vend from (R5, R6). -/
theorem State.choose_of_active {r : Selection} (active : s.saleState r = .active) :
    ∃ i p, r.choose = some (i, p) := by
  obtain ⟨p, hp, usable⟩ := List.any_eq_true.1 (s.any_usable_of_active active)
  rcases h : r.choose with _ | ⟨i, q⟩
  · rw [Selection.choose_eq_none_iff.1 h p hp] at usable
    cases usable
  · exact ⟨i, q, rfl⟩

/-- The session with a vend begun in a phase, its timer stopped. -/
def State.vendBegun (s : State) (v : PendingVend) (phase : Phase) : State :=
  s.setSesc { s.sesc with phase := phase, pendingVend := some v, inactivity := none }

theorem State.handEscrowStack_escrow (online : (s.periph .bill).link = .online) :
    (s.handEscrowStack.periph .bill).pending.escrow = some .stack := by
  simp [State.handEscrowStack, online]

theorem State.acceptVend_eq (v : PendingVend) : s.acceptVend v =
    if s.sesc.kind = .cash ∧ s.sesc.escrow.isSome then (s.vendBegun v .stacking).handEscrowStack
    else ((s.vendBegun v .vending).enqueue v).takeHead := rfl

theorem State.acceptVend_of_escrow (v : PendingVend) (kind : s.sesc.kind = .cash)
    (escrow : s.sesc.escrow.isSome = true) : s.acceptVend v = (s.vendBegun v .stacking).handEscrowStack :=
  if_pos ⟨kind, escrow⟩

theorem State.acceptVend_of_free (v : PendingVend) (free : s.sesc.kind = .cashless ∨ s.sesc.escrow = none) :
    s.acceptVend v = ((s.vendBegun v .vending).enqueue v).takeHead := by
  refine if_neg fun h => ?_
  obtain ⟨kind, escrow⟩ : s.sesc.kind = .cash ∧ s.sesc.escrow.isSome = true := h
  rcases free with free | free
  · simp [free] at kind
  · simp [free] at escrow

theorem mem_enqueueVend (e : DriveEntry) (l : List DriveEntry) : e ∈ enqueueVend e l := by
  unfold enqueueVend
  split
  · split <;> simp
  · simp

/-- What an entry is from its enqueuing on (R38, R52). -/
def DriveEntry.SameWork (d e : DriveEntry) : Prop :=
  d.origin = e.origin ∧ d.unit = e.unit ∧ d.turns = e.turns ∧ d.allowance = e.allowance

/-- Taking a head leaves the work of every entry (R56). -/
theorem State.takeHead_keeps {e : DriveEntry} (h : e ∈ s.sdc.list) :
    ∃ d ∈ s.takeHead.sdc.list, d.SameWork e := by
  by_cases idle : s.sdc.seq = .idle
  · cases list : s.sdc.list with
    | nil => rw [list] at h; cases h
    | cons n more =>
      rw [State.takeHead_of_idle idle list]
      rw [list] at h
      simp only [State.enterAwaitPower_unchanged]
      rcases List.mem_cons.1 h with same | h
      · subst same
        exact ⟨_, List.mem_cons_self, rfl, rfl, rfl, rfl⟩
      · exact ⟨e, List.mem_cons_of_mem _ h, rfl, rfl, rfl, rfl⟩
  · rw [State.takeHead_of_busy idle]
    exact ⟨e, h, rfl, rfl, rfl, rfl⟩

/-- A vend that goes to SDC has its entry on the list, and an IDLE sequencer without work takes it (R38,
R56). -/
theorem State.enqueue_takeHead (v : PendingVend) :
    (∃ d ∈ (s.enqueue v).takeHead.sdc.list, d.SameWork (s.vendEntry v)) ∧
      (s.sdc.list = [] → s.sdc.seq = .idle → (s.enqueue v).takeHead.sdc.seq = .awaitPower ∧
        (s.enqueue v).takeHead.sdc.powerTimer = some 5000) := by
  refine ⟨State.takeHead_keeps (by simp [mem_enqueueVend]), fun empty idle => ?_⟩
  have list : (s.enqueue v).sdc.list = [s.vendEntry v] := by simp [empty, enqueueVend]
  rw [State.takeHead_of_idle (by simpa using idle) list]
  simp [powerTimerMs]

/-- What an accepted vend leaves of the session, the tables and the totals (R35). -/
theorem State.acceptVend_session (v : PendingVend) :
    (s.acceptVend v).sesc.pendingVend = some v ∧ (s.acceptVend v).sesc.inactivity = none ∧
      (s.acceptVend v).sesc.credit = s.sesc.credit ∧ (s.acceptVend v).sesc.escrow = s.sesc.escrow ∧
      (s.acceptVend v).selt = s.selt ∧ (s.acceptVend v).chu = s.chu := by
  rw [State.acceptVend_eq]
  split <;> simp [State.handEscrowStack, State.vendBegun]

/-- A VEND that passes every check is accepted. -/
theorem State.vendFrom_accepts {r : Selection} {i : Nat} {p : Position} (active : s.saleState r = .active)
    (enough : r.price s.sesc.sessionSet ≤ s.sesc.available) (clear : s.sdc.curtain ≠ .blocked)
    (chosen : r.choose = some (i, p)) : s.vendFrom r =
      ⟨s.acceptVend (newVend r.code i p (r.price s.sesc.sessionSet)), .accepted,
        [.half r.code, .byte i, .money (r.price s.sesc.sessionSet)]⟩ := by
  simp [State.vendFrom, active, Nat.not_lt.2 enough, clear, chosen]

/-- A request its owner answers, the session noted when the event has changed it. -/
theorem State.host_closes (ready : s.linkReady = true) {code want : Nat} {f : State → Reply} {r : Reply}
    (hf : f s = r) : (.next (s.host code want want f) : Result) =
      .next ((r.state.closeEvent s.sesc).answer code r.status r.body) := by
  simp only [State.host, ready, hf, if_true]

/-- Settles O20, by the two ways an accepted vend goes on (R35): the escrow is stacked, or the drive works. -/
theorem vendAccepted : Obligations.VendAccepted := by
  intro s code r ready door found phase active enough clear
  obtain ⟨i, p, chosen⟩ := s.choose_of_active active
  have request : s.vendRequest code = _ :=
    (State.vendRequest_of_open_session door found phase).trans
      (State.vendFrom_accepts active enough clear chosen)
  obtain ⟨vend, timer, credit, escrow, selt, chu⟩ :=
    s.acceptVend_session (newVend r.code i p (r.price s.sesc.sessionSet))
  refine ⟨_, i, p, State.host_closes ready (f := fun s => s.vendRequest code) request, chosen, rfl, ?_⟩
  simp only [State.answer_sesc, State.answer_selt, State.answer_chu, State.answer_sdc, State.closeEvent_unchanged]
  refine ⟨vend, timer, credit, escrow, selt, by rw [chu], fun kind held => ?_, fun free => ?_⟩
  · rw [State.acceptVend_of_escrow _ kind held]
    refine ⟨by simp [State.handEscrowStack, State.vendBegun], by simp [State.handEscrowStack, State.vendBegun],
      fun online => ?_⟩
    simpa using State.handEscrowStack_escrow (s := s.vendBegun _ .stacking) online
  · rw [State.acceptVend_of_free _ free]
    obtain ⟨⟨d, mem, work⟩, idle⟩ := State.enqueue_takeHead
      (s := s.vendBegun (newVend r.code i p (r.price s.sesc.sessionSet)) .vending)
      (newVend r.code i p (r.price s.sesc.sessionSet))
    exact ⟨by simp [State.vendBegun], ⟨d, mem, work⟩, idle⟩

end Sys2Proof.Machine
end

section
/-! SUPPORT. Sessions that end without a vend: the cash session cancelled or timed out, the card session closed
(R32, R33, R43 to R47, R98, R105, R107). -/

namespace Sys2Proof.Machine

variable {s : State}

/-! ### The note of a session (R28) -/

@[simp] theorem State.noteSession_unchanged (s : State) :
    s.noteSession.settings = s.settings ∧ s.noteSession.sesc = s.sesc ∧ s.noteSession.sdc = s.sdc ∧
    s.noteSession.chu.tubes = s.chu.tubes ∧ s.noteSession.chu.payout = s.chu.payout ∧
    s.noteSession.chu.totals = s.chu.totals ∧ s.noteSession.lba = s.lba ∧
    s.noteSession.hli.slot = s.hli.slot := by
  obtain ⟨_, _, _, h⟩ :=
    (s.raise (.session s.sesc.phase s.sesc.credit s.sesc.escrowValue)).updateMasks_frame
  simp [State.noteSession, h]

theorem State.noteSession_hli (s : State) :
    s.noteSession.hli = (s.raise (.session s.sesc.phase s.sesc.credit s.sesc.escrowValue)).hli := by
  obtain ⟨_, _, _, h⟩ :=
    (s.raise (.session s.sesc.phase s.sesc.credit s.sesc.escrowValue)).updateMasks_frame
  simp only [State.noteSession, h]

theorem State.noteSession_notes (s : State) :
    s.noteSession.notes (.session s.sesc.phase s.sesc.credit s.sesc.escrowValue) :=
  State.notes_congr (s.raise_notes _) (congrArg Hli.notices s.noteSession_hli)

theorem State.notes.noteSession {m : Notice} (h : s.notes m)
    (ne : (Notice.session .idle 0 0).kindNo ≠ m.kindNo) : s.noteSession.notes m :=
  State.notes_congr (State.notes.raise (n := .session s.sesc.phase s.sesc.credit s.sesc.escrowValue) h ne)
    (congrArg Hli.notices s.noteSession_hli)

/-! ### Credit handed to the executor (R32, R98, R107) -/

theorem State.payOrIdle_of_none (none : s.sesc.credit = 0) : s.payOrIdle = s.closeSession := if_pos none

/-- With credit left PAYING is entered. -/
def State.paying (s : State) : State :=
  s.setSesc { s.sesc with
    phase := .paying, kind := .cash, escrow := none, authorized := none, pendingVend := none,
    inactivity := none }

theorem State.payOrIdle_of_credit (some : s.sesc.credit ≠ 0) : s.payOrIdle = s.paying.payCredit := if_neg some

/-- A payout that is EJECTING is marked to end, and the credit of this moment waits for it (R107). -/
theorem State.payCredit_of_ejecting (state : s.chu.payout.state = .ejecting) :
    s.payCredit = s.setPayout { s.chu.payout with endMark := true, due := s.sesc.credit.toNat } := by
  simp only [State.payCredit, state]

/-- The state from which the change payout of the credit starts: one that waits for its load has ended. -/
def State.payoutFree (s : State) : State :=
  if s.chu.payout.state = .awaitPower then s.endPayout false else s

theorem State.payCredit_of_free (state : s.chu.payout.state ≠ .ejecting) :
    s.payCredit = s.payoutFree.startChange s.sesc.credit.toNat false := by
  cases h : s.chu.payout.state with
  | idle => simp [State.payCredit, State.payoutFree, h]
  | awaitPower => simp [State.payCredit, State.payoutFree, h]
  | ejecting => exact absurd h state

@[simp] theorem State.payoutFree_unchanged (s : State) : s.payoutFree.settings = s.settings ∧
    s.payoutFree.sesc = s.sesc ∧ s.payoutFree.chu.tubes = s.chu.tubes := by
  unfold State.payoutFree
  split <;> simp

theorem State.payoutFree_plan (s : State) (n : Nat) : s.payoutFree.changePlan n = s.changePlan n := by
  simp [State.changePlan]

/-- Handing the credit over leaves no escrow where none was. -/
theorem State.payCredit_escrow (credit : s.sesc.credit ≠ 0) (none : s.sesc.escrow = none) :
    s.payCredit.sesc.escrow = .none := by
  by_cases state : s.chu.payout.state = .ejecting
  · rw [State.payCredit_of_ejecting state]
    exact none
  · rw [State.payCredit_of_free state]
    have held : s.payoutFree.sesc = s.sesc := by simp
    by_cases plan : s.payoutFree.changePlan s.sesc.credit.toNat = []
    · obtain ⟨⟨i, sesc⟩, -⟩ := State.startChange_ends plan (by rw [held]; exact credit)
      rw [sesc, held]
      exact none
    · rw [(State.startChange_waits plan).1, held]
      exact none

/-- A change payout that can pay nothing leaves its load without request or grant (R98, R105). -/
theorem State.payCredit_load (state : s.chu.payout.state ≠ .ejecting)
    (plan : s.changePlan s.sesc.credit.toNat = []) : s.payCredit.load .payout = .none := by
  rw [State.payCredit_of_free state,
    State.startChange_of_nothing (by rw [State.payoutFree_plan]; exact plan)]
  have given := (s.payoutFree.setPayout (s.payoutFree.changeRecord s.sesc.credit.toNat)).endPayout_load
  rw [← given]
  simp [State.endChange, State.load]

theorem State.payOrIdle_escrow (s : State) : s.payOrIdle.sesc.escrow = none := by
  by_cases credit : s.sesc.credit = 0
  · rw [State.payOrIdle_of_none credit]
    rfl
  · rw [State.payOrIdle_of_credit credit]
    exact State.payCredit_escrow (s := s.paying) credit rfl

/-! ### A cash session cancelled or timed out (R43, R47) -/

/-- An escrow is given up: the bill goes back with its notice (R43, R47). -/
def State.escrowGivenUp (s : State) (r : BillReason) : State :=
  if s.sesc.escrow.isSome then
    (s.handEscrowReturn.setSesc { s.sesc with escrow := none }).raise (.bill r)
  else s

@[simp] theorem State.escrowGivenUp_unchanged (s : State) (r : BillReason) :
    (s.escrowGivenUp r).settings = s.settings ∧ (s.escrowGivenUp r).sdc = s.sdc ∧
    (s.escrowGivenUp r).chu = s.chu ∧ (s.escrowGivenUp r).selt = s.selt ∧
    (s.escrowGivenUp r).sesc.credit = s.sesc.credit := by
  unfold State.escrowGivenUp
  split <;> simp [State.handEscrowReturn]

theorem State.escrowGivenUp_notes (held : s.sesc.escrow.isSome = true) (r : BillReason) :
    (s.escrowGivenUp r).notes (.bill r) := by
  rw [State.escrowGivenUp, if_pos held]
  exact State.raise_notes _ _

/-- The cancel's event ends with the session noted, once, also where it stands in CASH_CREDIT again (R28). -/
theorem State.cancelSession_closed (s : State) (r : BillReason) {before : Session}
    (view : s.sesc.view = before.view) :
    (s.cancelSession r).closeEvent before = (s.escrowGivenUp r).payOrIdle.noteSession := by
  have cancelled : s.cancelSession r =
      if (s.escrowGivenUp r).payOrIdle.sesc.view = s.sesc.view then (s.escrowGivenUp r).payOrIdle.noteSession
      else (s.escrowGivenUp r).payOrIdle := rfl
  rw [cancelled]
  split
  · next same =>
    obtain ⟨-, sesc, -⟩ := (s.escrowGivenUp r).payOrIdle.noteSession_unchanged
    exact State.closeEvent_of_view _ (by rw [sesc, same, view])
  · next changed => exact if_neg (by rwa [← view])

theorem exec_cancel_of_cash {s : State} (ready : s.linkReady = true) (phase : s.sesc.phase = .cashCredit) :
    exec (.cancel 0) s = .next (((s.escrowGivenUp .cancelled).payOrIdle.noteSession).answer 0x21 .accepted []) := by
  rw [← State.cancelSession_closed s .cancelled rfl]
  exact State.host_closes ready (r := ⟨s.cancelSession .cancelled, .accepted, []⟩)
    (by simp only [State.cancelRequest, phase])

theorem exec_inactivityExpiry {d : Nat} (on : s.power ≠ .off) (runs : s.sesc.inactivity = some d) :
    exec .inactivityExpiry s = .next ((s.elapse d).timeOut.closeEvent s.sesc) :=
  exec_of_event rfl on (by simp only [State.expire, runs])

theorem exec_inactivityExpiry_of_cash {d : Nat} (on : s.power ≠ .off) (runs : s.sesc.inactivity = some d)
    (phase : s.sesc.phase = .cashCredit) : exec .inactivityExpiry s =
      .next ((s.elapse d).escrowGivenUp .timedOut).payOrIdle.noteSession := by
  have timed : (s.elapse d).timeOut = (s.elapse d).cancelSession .timedOut := by
    have still : (s.elapse d).sesc.phase = .cashCredit := phase
    simp only [State.timeOut, still]
  rw [exec_inactivityExpiry on runs, timed]
  exact congrArg _ (State.cancelSession_closed (s.elapse d) .timedOut rfl)

/-- What a cash session's end leaves, from the state `b` in which it is ended. -/
structure State.CashEnded (b : State) (reason : BillReason) (t : State) : Prop where
  escrow : t.sesc.escrow = none
  pendingVend : t.sesc.pendingVend = none
  bill : b.sesc.escrow.isSome = true → t.notes (.bill reason)
  session : t.notes (.session t.sesc.phase t.sesc.credit 0)
  credit : t.sesc.credit = b.sesc.credit
  closes : b.sesc.credit = 0 → t.sesc.phase = .idle ∧ t.chu.payout = b.chu.payout
  pays : b.sesc.credit ≠ 0 → b.PaysOut t
  marks : b.sesc.credit ≠ 0 → b.chu.payout.state = .ejecting →
    t.chu.payout = { b.chu.payout with endMark := true, due := b.sesc.credit.toNat }
  load : b.sesc.credit ≠ 0 → b.chu.payout.state ≠ .ejecting → b.changePlan b.sesc.credit.toNat = [] →
    t.load .payout = .none
  selt : t.selt = b.selt
  sdc : t.sdc = b.sdc
  totals : t.chu.totals = b.chu.totals

/-- What has become of a session's credit stands in the session, the executor and the PAYOUT notice. -/
theorem State.PaysOut.kept {t u : State} (h : s.PaysOut t) (sesc : u.sesc = t.sesc)
    (payout : u.chu.payout = t.chu.payout)
    (notes : ∀ n, t.notes (.payout 0 n 0) → u.notes (.payout 0 n 0)) : s.PaysOut u := by
  unfold State.PaysOut at h ⊢
  rw [sesc, payout]
  obtain ⟨ejecting, free⟩ := h
  refine ⟨ejecting, fun still => ⟨(free still).1, fun plan => ?_⟩⟩
  obtain ⟨phase, state, note⟩ := (free still).2 plan
  exact ⟨phase, state, notes _ note⟩

theorem State.PaysOut.noteSession {t : State} (h : s.PaysOut t) : s.PaysOut t.noteSession :=
  h.kept (by simp) (by simp) fun _ note => note.noteSession (by simp [Notice.kindNo])

theorem State.PaysOut.closeEvent {t : State} (h : s.PaysOut t) (before : Session) :
    s.PaysOut (t.closeEvent before) :=
  h.kept (by simp) (by simp) fun _ note => note.closeEvent before (by simp [Notice.kindNo])

theorem State.payOrIdle_cashEnded (b : State) (reason : BillReason) :
    b.CashEnded reason (b.escrowGivenUp reason).payOrIdle.noteSession := by
  obtain ⟨wsettings, wsdc, wchu, wselt, wcredit⟩ := b.escrowGivenUp_unchanged reason
  obtain ⟨-, sdc, totals, credit, -, vend, closes, pays, notes⟩ :=
    (b.escrowGivenUp reason).payOrIdle_settled
  have escrow := (b.escrowGivenUp reason).payOrIdle_escrow
  have session := (b.escrowGivenUp reason).payOrIdle.noteSession_notes
  rw [wcredit] at closes pays credit
  refine ⟨by simpa using escrow, by simpa using vend, fun held => ?_, ?_, by simp [credit], fun none => ?_,
    fun some => ?_, fun some state => ?_, fun some state plan => ?_, by simp, by simp [sdc],
    by simp [totals]⟩
  · exact (notes _ ⟨by simp [Notice.kindNo], by simp [Notice.kindNo]⟩
      (State.escrowGivenUp_notes held reason)).noteSession (by simp [Notice.kindNo])
  · simpa [Session.escrowValue, escrow] using session
  · refine ⟨by simpa using closes none, ?_⟩
    rw [State.payOrIdle_of_none (wcredit.trans none)]
    simp only [State.noteSession_unchanged, ← wchu]
    rfl
  · exact ((pays some).of_same wsettings (by rw [wchu]) (by rw [wchu])).noteSession
  · rw [State.payOrIdle_of_credit (by rwa [wcredit]),
      State.payCredit_of_ejecting (s := (b.escrowGivenUp reason).paying) (by rw [← state, ← wchu]; rfl)]
    simp [State.paying]
  · rw [State.payOrIdle_of_credit (by rwa [wcredit])]
    have given := State.payCredit_load (s := (b.escrowGivenUp reason).paying)
      (by rw [← wchu] at state; exact state) (by
        rw [← plan, ← wcredit]
        simp [State.changePlan, State.paying])
    rw [← given]
    simp [State.load]

/-- CANCEL in CASH_CREDIT and the expiry of the inactivity timer there, each from the state it ends. -/
theorem cashSession_cancelled {s b : State} {c : Instr} {reason : BillReason} (phase : s.sesc.phase = .cashCredit)
    (h : (c = .cancel 0 ∧ s.linkReady = true ∧ b = s ∧ reason = .cancelled) ∨
      (c = .inactivityExpiry ∧ s.power ≠ .off ∧ (∃ d, s.sesc.inactivity = some d ∧ b = s.elapse d) ∧
        reason = .timedOut)) :
    ∃ t, exec c s = .next t ∧ b.CashEnded reason t ∧
      (c = .cancel 0 → t.hli.slot = .answering ⟨0xA1, .accepted, []⟩ false) := by
  rcases h with ⟨rfl, ready, rfl, rfl⟩ | ⟨rfl, on, ⟨d, runs, rfl⟩, rfl⟩
  · have ended := b.payOrIdle_cashEnded .cancelled
    exact ⟨_, exec_cancel_of_cash ready phase, { ended with }, fun _ => rfl⟩
  · exact ⟨_, exec_inactivityExpiry_of_cash on runs phase, (s.elapse d).payOrIdle_cashEnded .timedOut,
      fun h => by cases h⟩

/-- Settles O22: the session's end (`payOrIdle_cashEnded`), and the refusals of CANCEL. -/
theorem cashSessionEnds : Obligations.CashSessionEnds := by
  refine ⟨fun s c b reason phase h => ?_, fun s ready => ⟨fun idle => ?_, fun card => ?_, fun busy => ?_⟩⟩
  · obtain ⟨t, step, ended, answered⟩ := cashSession_cancelled phase h
    have same : b.sesc.escrow = s.sesc.escrow ∧ b.sesc.credit = s.sesc.credit ∧
        b.chu.payout.state = s.chu.payout.state ∧ b.chu.tubes = s.chu.tubes ∧ b.settings = s.settings ∧
        b.selt = s.selt ∧ b.chu.totals = s.chu.totals := by
      rcases h with ⟨-, -, rfl, -⟩ | ⟨-, -, ⟨d, -, rfl⟩, -⟩ <;> exact ⟨rfl, rfl, rfl, rfl, rfl, rfl, rfl⟩
    obtain ⟨escrow, credit, state, tubes, settings, selt, totals⟩ := same
    have pays (some : s.sesc.credit ≠ 0) : s.PaysOut t :=
      (ended.pays (by rwa [credit])).of_same settings tubes state
    have held := ended.credit.trans credit
    simp only [State.PaysOut, held] at pays
    refine ⟨t, step, ended.escrow, ended.pendingVend, by rw [← escrow]; exact ended.bill, ended.session,
      by rw [← credit]; exact ended.closes, fun some ejecting => ?_, fun some still plan => ?_,
      fun some still plan => ?_, answered, ended.selt.trans selt, ended.sdc, ended.totals.trans totals⟩
    · obtain ⟨paying, -⟩ := (pays some).1 ejecting
      rw [← credit] at some ⊢
      exact ⟨paying, ended.credit, ended.marks some (state.trans ejecting)⟩
    · obtain ⟨paying, waits, kind, amount, planned⟩ := ((pays some).2 still).1 plan
      exact ⟨paying, held, waits, kind, amount, planned⟩
    · obtain ⟨stands, idle, note⟩ := ((pays some).2 still).2 plan
      refine ⟨stands, held, idle, ended.load (by rwa [credit]) (by rwa [state]) ?_, note⟩
      rw [State.changePlan, tubes, credit, settings]
      exact plan
  · exact State.host_replies ready (by simp only [State.cancelRequest, idle])
  · exact State.host_answers ready (r := ⟨s.restartInactivity, .noSession, []⟩)
      (by simp only [State.cancelRequest, card]) s.restartInactivity_view
  · refine State.host_replies ready ?_
    rcases busy with h | h | h <;> simp only [State.cancelRequest, h]

/-! ### A card session (R33, R44, R45, R47) -/

/-- What a card session's settlement for 0 leaves, from the state `b` in which it is settled. -/
structure State.CardEnded (b t : State) : Prop where
  authorized : t.sesc.authorized = none
  credit : t.sesc.credit = b.sesc.credit
  notice : t.notes (.cashlessSettle 0)
  closes : b.sesc.credit = 0 → t.sesc.phase = .idle
  pays : b.sesc.credit ≠ 0 → b.PaysOut t
  selt : t.selt = b.selt
  totals : t.chu.totals = b.chu.totals

theorem State.settle_cardEnded (b : State) (before : Session) :
    b.CardEnded ((b.settle 0).closeEvent before) := by
  have settled := b.settle_settled 0
  have notice := (b.settle_notes 0).closeEvent before (by simp [Notice.kindNo])
  exact ⟨by simpa using settled.authorized, by simpa using settled.credit, notice,
    fun none => by simpa using settled.closes none,
    fun some => ((settled.pays some).of_same rfl rfl rfl).closeEvent before, by simp,
    by simpa using settled.totals⟩

/-- CASHLESS.CLOSE and the expiry of the inactivity timer in CASHLESS_READY, each from the state it settles. -/
theorem cardSession_settled {s : State} {c : Instr} (phase : s.sesc.phase = .cashlessReady)
    (h : (c = .cashlessClose 0 ∧ s.linkReady = true) ∨
      (c = .inactivityExpiry ∧ s.power ≠ .off ∧ s.sesc.inactivity.isSome = true)) :
    ∃ t, exec c s = .next t ∧ s.CardEnded t ∧
      (c = .cashlessClose 0 → t.hli.slot = .answering ⟨0xA3, .ok, []⟩ false) := by
  rcases h with ⟨rfl, ready⟩ | ⟨rfl, on, runs⟩
  · have ended := s.settle_cardEnded s.sesc
    exact ⟨_, State.host_closes ready (f := State.cashlessCloseRequest) (if_pos phase), { ended with },
      fun _ => rfl⟩
  · obtain ⟨d, runs⟩ := Option.isSome_iff_exists.1 runs
    have timed : (s.elapse d).timeOut = (s.elapse d).settle 0 := by
      have still : (s.elapse d).sesc.phase = .cashlessReady := phase
      simp only [State.timeOut, still]
    have ended := (s.elapse d).settle_cardEnded s.sesc
    exact ⟨_, (exec_inactivityExpiry on runs).trans (by rw [timed]),
      { ended with pays := fun some => (ended.pays some).of_same rfl rfl rfl }, fun h => by cases h⟩

/-- A card session opens (R44). -/
theorem exec_cashlessOpen {s : State} {amount : Half} (ready : s.linkReady = true)
    (idle : s.sesc.phase = .idle) (range : inRange 1 60000 amount.toNat = true) :
    exec (.cashlessOpen 2 amount) s =
      .next (((s.openCashless amount.toNat).closeEvent s.sesc).answer 0x22 .ok []) :=
  State.host_closes ready (f := fun s => s.cashlessOpenRequest amount)
    (r := ⟨s.openCashless amount.toNat, .ok, []⟩) (by simp [State.cashlessOpenRequest, range, idle])

/-- Settles O23: the requests' branches, and the settlement (`settle_cardEnded`). -/
theorem cashlessSession : Obligations.CashlessSession := by
  intro s
  refine ⟨fun amount ready idle low high => ?_, fun amount ready started low high => ?_,
    fun amount ready out => ?_, fun ready phase => ?_, fun c phase h => ?_⟩
  · refine ⟨_, exec_cashlessOpen ready idle (inRange_iff.2 (by omega)), ?_, rfl, ?_⟩
    · simp only [State.answer_sesc, State.closeEvent_unchanged]
      rfl
    · obtain ⟨_, _, _, _, frame⟩ := (s.openCashless amount.toNat).closeEvent_frame s.sesc
      rw [frame]
      rfl
  · have range : inRange 1 60000 amount.toNat = true := inRange_iff.2 (by omega)
    exact State.host_replies ready (f := fun s => s.cashlessOpenRequest amount)
      (by simp [State.cashlessOpenRequest, range, started])
  · have range : inRange 1 60000 amount.toNat = false := by
      rw [Bool.eq_false_iff, Ne, inRange_iff]
      omega
    exact State.host_replies ready (f := fun s => s.cashlessOpenRequest amount)
      (by simp [State.cashlessOpenRequest, range])
  · refine State.host_replies ready ?_
    simp only [State.cashlessCloseRequest, phase, if_false]
    split <;> rfl
  · obtain ⟨t, step, ended, answered⟩ := cardSession_settled phase h
    have pays := ended.pays
    simp only [State.PaysOut, ended.credit] at pays
    exact ⟨t, step, ended.authorized, ended.credit, ended.notice, ended.closes, fun some => (pays some).1,
      fun some => (pays some).2, answered, ended.selt, ended.totals⟩

end Sys2Proof.Machine
end

section
/-! SUPPORT. An exit count: the coin confirmed, overpaid or late (R102, R106). -/

namespace Sys2Proof.Machine

variable {s : State}

@[simp] theorem State.closeEvent_tubes (s : State) (before : Session) :
    (s.closeEvent before).chu.tubes = s.chu.tubes := by
  obtain ⟨_, _, _, _, h⟩ := s.closeEvent_frame before
  simp [h]

@[simp] theorem State.updateRoute_unchanged (s : State) :
    s.updateRoute.settings = s.settings ∧ s.updateRoute.selt = s.selt ∧ s.updateRoute.sesc = s.sesc ∧
    s.updateRoute.sdc = s.sdc ∧ s.updateRoute.chu.tubes = s.chu.tubes ∧
    s.updateRoute.chu.payout = s.chu.payout ∧ s.updateRoute.chu.totals = s.chu.totals ∧
    s.updateRoute.hli = s.hli := by
  obtain ⟨_, _, h⟩ := s.updateRoute_frame
  simp [h]

/-- A coin counted in the window of tube `i` with head entry `e` (R102). -/
theorem State.countInWindow_of_head {i : Nat} {e : PlanEntry} {rest : List PlanEntry}
    (plan : s.chu.payout.plan = e :: rest) : s.countInWindow i =
      (if 0 < e.remaining then (s.lowerCount i).confirmCoin e.denom
        else (s.lowerCount i).overpayCoin e.denom).updateRoute := by
  have held : (s.lowerCount i).chu.payout.plan = e :: rest := plan
  simp only [State.countInWindow, held]

/-- The executor's record behind a coin that was due, of denomination `d` (R102). -/
def Payout.coinPaid (p : Payout) (d : Nat) : Payout :=
  { p with
    plan := modifyAt (fun e => { e with remaining := e.remaining - 1 }) 0 p.plan
    confirmed := p.confirmed + 1
    paid := p.paid + d
    counted := true }

theorem State.confirmCoin_of_change (kind : s.chu.payout.kind = .change) (d : Nat) :
    s.confirmCoin d = (s.setPayout (s.chu.payout.coinPaid d)).payChange d := by
  simp only [State.confirmCoin, Payout.coinPaid, kind]

theorem State.confirmCoin_of_service (kind : s.chu.payout.kind = .service) (d : Nat) :
    s.confirmCoin d = (s.setPayout (s.chu.payout.coinPaid d)).payService d := by
  simp only [State.confirmCoin, Payout.coinPaid, kind]

/-- What a confirmed coin writes (R25, R102). -/
theorem State.confirmCoin_unchanged (s : State) (d : Nat) :
    (s.confirmCoin d).chu.tubes = s.chu.tubes ∧ (s.confirmCoin d).sdc = s.sdc ∧
    (s.confirmCoin d).selt = s.selt ∧ (s.confirmCoin d).sesc.phase = s.sesc.phase ∧
    (s.confirmCoin d).chu.payout = s.chu.payout.coinPaid d := by
  cases kind : s.chu.payout.kind with
  | change => rw [State.confirmCoin_of_change kind]; exact ⟨rfl, rfl, rfl, rfl, rfl⟩
  | service => rw [State.confirmCoin_of_service kind]; exact ⟨rfl, rfl, rfl, rfl, rfl⟩

theorem exec_exitCount_of_window {w : ExitWindow} {e : PlanEntry} {rest : List PlanEntry} (on : s.power ≠ .off)
    (window : s.chu.payout.window = some w) (plan : s.chu.payout.plan = e :: rest) : exec .exitCount s =
      .next ((if 0 < e.remaining then (s.lowerCount w.tube).confirmCoin e.denom
        else (s.lowerCount w.tube).overpayCoin e.denom).updateRoute.closeEvent s.sesc) :=
  exec_of_event rfl on (by simp only [State.exitCount, window, State.countInWindow_of_head plan])

theorem exec_exitCount_late {i : Nat} {x : Tube} {a : TubeAssign} (on : s.power ≠ .off)
    (window : s.chu.payout.window = none) (last : s.chu.payout.lastPulsed = some i)
    (tube : s.tube i = some x) (assign : x.assign = some a) : exec .exitCount s =
      .next (((s.lowerCount i).payOver a.denom).tubesChanged.closeEvent s.sesc) :=
  exec_of_event rfl on (by simp only [State.exitCount, window, State.lateCount, last, tube, assign])

/-- Settles O36, by what the coin is to the plan: due, beyond it, or late. -/
theorem exitCounts : Obligations.ExitCounts := by
  refine fun s on => ⟨fun w e rest window plan => ⟨_, exec_exitCount_of_window on window plan, ?_⟩,
    fun i x a window last tube assign => ⟨_, exec_exitCount_late on window last tube assign, ?_⟩⟩
  · simp only [State.closeEvent_unchanged, State.closeEvent_tubes, State.updateRoute_unchanged]
    by_cases due : 0 < e.remaining
    · obtain ⟨tubes, sdc, selt, phase, payout⟩ := (s.lowerCount w.tube).confirmCoin_unchanged e.denom
      rw [if_pos due]
      refine ⟨tubes, sdc, selt, phase, fun _ => ⟨?_, fun kind => ?_, fun kind => ?_⟩,
        fun h => absurd h (Nat.ne_of_gt due)⟩
      · rw [payout, Payout.coinPaid]
        exact congrArg (fun l => { s.chu.payout with
          plan := modifyAt (fun e => { e with remaining := e.remaining - 1 }) 0 l
          confirmed := s.chu.payout.confirmed + 1, paid := s.chu.payout.paid + e.denom, counted := true }) plan
      · rw [State.confirmCoin_of_change (s := s.lowerCount w.tube) kind]
        exact ⟨rfl, rfl⟩
      · rw [State.confirmCoin_of_service (s := s.lowerCount w.tube) kind]
        exact ⟨rfl, rfl⟩
    · rw [if_neg due]
      exact ⟨rfl, rfl, rfl, rfl, fun h => absurd h due, fun _ => ⟨rfl, rfl, rfl⟩⟩
  · obtain ⟨_, _, _, _, changed⟩ := ((s.lowerCount i).payOver a.denom).tubesChanged_frame
    simp only [State.closeEvent_unchanged, State.closeEvent_tubes, changed]
    exact ⟨rfl, rfl, rfl, rfl, rfl, rfl⟩

end Sys2Proof.Machine
end

section
/-! SUPPORT. The exchange on the Cash Bus: what leaves it as it is, how it ends, and the loss of a bill (R31, R37,
R113, R115, R123, R124). -/

namespace Sys2Proof.Machine

variable {s t u : State}

/-! ### The exchange -/

@[simp] theorem Cbm.set_nextSlot (c : Cbm) (p : Peripheral) (r : PeriphRec) :
    (c.set p r).nextSlot = c.nextSlot := by
  cases p <;> rfl

@[simp] theorem Cbm.set_set (c : Cbm) (p : Peripheral) (r q : PeriphRec) : (c.set p r).set p q = c.set p q := by
  cases p <;> rfl

@[simp] theorem State.setPeriph_setPeriph (s : State) (p : Peripheral) (r q : PeriphRec) :
    (s.setPeriph p r).setPeriph p q = s.setPeriph p q :=
  congrArg (fun c => { s with cbm := c }) (s.cbm.set_set p r q)

/-- Two changes of one record are one. -/
theorem State.editPeriph_editPeriph (s : State) (p : Peripheral) (f g : PeriphRec → PeriphRec) :
    (s.editPeriph p f).editPeriph p g = s.editPeriph p fun r => g (f r) := by
  simp only [State.editPeriph, State.periph_setPeriph_self, State.setPeriph_setPeriph]

/-- From `s` to `t` the exchange on the bus, the slots and the frames outstanding are the same. -/
structure State.SameExchange (s t : State) : Prop where
  bus : t.cbm.bus = s.cbm.bus
  late : t.cbm.late = s.cbm.late
  nextSlot : t.cbm.nextSlot = s.cbm.nextSlot
  outstanding : ∀ p, (t.periph p).outstanding = (s.periph p).outstanding

theorem State.SameExchange.refl (s : State) : s.SameExchange s := ⟨rfl, rfl, rfl, fun _ => rfl⟩

theorem State.SameExchange.trans (h : s.SameExchange t) (k : t.SameExchange u) : s.SameExchange u :=
  ⟨k.bus.trans h.bus, k.late.trans h.late, k.nextSlot.trans h.nextSlot,
    fun p => (k.outstanding p).trans (h.outstanding p)⟩

/-- A step that leaves the records of CBM. -/
theorem State.SameExchange.of_cbm (h : t.cbm = s.cbm) : s.SameExchange t :=
  ⟨by rw [h], by rw [h], by rw [h], fun p => by simp only [State.periph, h]⟩

theorem State.editPeriph_exchange (p : Peripheral) {f : PeriphRec → PeriphRec}
    (h : (f (s.periph p)).outstanding = (s.periph p).outstanding) : s.SameExchange (s.editPeriph p f) := by
  refine ⟨by simp [State.editPeriph], by simp [State.editPeriph], by simp [State.editPeriph], fun q => ?_⟩
  by_cases same : q = p
  · subst same
    simpa [State.editPeriph] using h
  · rw [State.editPeriph, State.periph_setPeriph_ne s _ same]

theorem State.editPending_exchange (s : State) (p : Peripheral) (f : PendingSet → PendingSet) :
    s.SameExchange (s.editPending p f) :=
  State.editPeriph_exchange (f := fun r => { r with pending := f r.pending }) p rfl

theorem State.hand_exchange (s : State) (p : Peripheral) (f : PendingSet → PendingSet) :
    s.SameExchange (s.hand p f) := by
  unfold State.hand
  split
  · exact s.editPending_exchange p f
  · exact .refl s

theorem State.updateMask_exchange (s : State) (p : Peripheral) : s.SameExchange (s.updateMask p) := by
  unfold State.updateMask
  dsimp only
  split
  · exact .refl s
  · exact (State.SameExchange.of_cbm (by cases p <;> rfl)).trans (State.hand_exchange _ p _)

theorem State.updateMasks_exchange (s : State) : s.SameExchange s.updateMasks :=
  (s.updateMask_exchange .coin).trans (State.updateMask_exchange _ .bill)

theorem State.updateRoute_exchange (s : State) : s.SameExchange s.updateRoute := by
  unfold State.updateRoute
  dsimp only
  split
  · exact .refl s
  · exact (State.SameExchange.of_cbm (s := s) (t := s.noteMap s.routeMap) rfl).trans (State.hand_exchange _ _ _)

theorem State.noteSession_exchange (s : State) : s.SameExchange s.noteSession :=
  (State.SameExchange.of_cbm (s := s) (t := s.raise (.session s.sesc.phase s.sesc.credit s.sesc.escrowValue)) rfl).trans
    (State.updateMasks_exchange _)

theorem State.closeEvent_exchange (s : State) (before : Session) : s.SameExchange (s.closeEvent before) := by
  unfold State.closeEvent
  split
  · exact .refl s
  · exact s.noteSession_exchange

/-- An exchange closed with no slot late: its effect, the session's note, and the bus IDLE. -/
theorem State.closeExchange_of_none_late {f : State → State} (late : (f s).cbm.late = []) :
    s.closeExchange f = ((f s).closeEvent s.sesc).setBus .idle :=
  State.endExchange_of_none_late (((f s).closeEvent_exchange s.sesc).late.trans late)

theorem exec_of_on {c : Instr} {f : State → State} (arm : exec c s = .next (s.on f)) (on : s.power ≠ .off) :
    exec c s = .next (f s) := by
  rw [arm, State.on, if_neg on]

/-! ### The loss of a bill (R31, R37) -/

/-- From `s` to `t` nothing has changed but the session and the notices. -/
def State.SessionOnly (s t : State) : Prop :=
  t = { s with sesc := t.sesc, hli := { s.hli with notices := t.hli.notices } }

theorem State.SessionOnly.refl (s : State) : s.SessionOnly s := rfl

theorem State.SessionOnly.trans (h : s.SessionOnly t) (k : t.SessionOnly u) : s.SessionOnly u :=
  Eq.trans k (congrArg (fun x : State => { x with
    sesc := u.sesc, hli := { x.hli with notices := u.hli.notices } }) h)

/-- What a step of the session leaves. -/
theorem State.SessionOnly.unchanged (h : s.SessionOnly t) : t.settings = s.settings ∧ t.selt = s.selt ∧
    t.sdc = s.sdc ∧ t.chu = s.chu ∧ t.cbm = s.cbm ∧ t.hli.slot = s.hli.slot ∧
    t.hli.doorOpen = s.hli.doorOpen := by
  rw [State.SessionOnly] at h
  rw [h]
  exact ⟨rfl, rfl, rfl, rfl, rfl, rfl, rfl⟩

theorem State.creditOrIdle_only (s : State) : s.SessionOnly s.creditOrIdle := by
  unfold State.creditOrIdle
  split <;> exact rfl

theorem State.loseEscrow_only (s : State) (r : BillReason) : s.SessionOnly (s.loseEscrow r) := by
  unfold State.loseEscrow
  dsimp only
  split <;> exact rfl

theorem State.stackGone_only (s : State) (r : BillReason) : s.SessionOnly (s.stackGone r) := by
  unfold State.stackGone
  split <;> exact rfl

theorem State.stackFails_only (s : State) (r : BillReason) : s.SessionOnly (s.stackFails r) := by
  rw [State.stackFails_eq]
  exact (s.stackGone_only r).trans (State.creditOrIdle_only _)

/-- What the validator tells of a bill it holds: a stack under way fails, an escrow in CASH_CREDIT is lost. -/
def State.billGone (s : State) (r : BillReason) : State :=
  if s.sesc.phase = .stacking then s.stackFails r
  else if s.sesc.phase = .cashCredit ∧ s.sesc.escrow.isSome then s.loseEscrow r
  else s

theorem State.billLost_eq (s : State) : s.billLost = s.billGone .validatorLost := rfl

theorem State.billReturned_eq (s : State) : s.billReturned = s.billGone .validatorReturned := rfl

theorem State.billGone_only (s : State) (r : BillReason) : s.SessionOnly (s.billGone r) := by
  unfold State.billGone
  split
  · exact s.stackFails_only r
  · split
    · exact s.loseEscrow_only r
    · exact .refl s

/-- An escrow is lost: its notice, and the session with the credit it has (R31, R37). -/
structure State.EscrowLost (s t : State) (why : BillReason) : Prop where
  escrow : t.sesc.escrow = none
  credit : t.sesc.credit = s.sesc.credit
  phase : t.sesc.phase = if s.sesc.credit = 0 then .idle else .cashCredit
  bill : t.notes (.bill why)

/-- A stack has failed: the escrow is lost, and the vend ends without a charge (R37). -/
structure State.StackLost (s t : State) (why : BillReason) : Prop extends s.EscrowLost t why where
  pendingVend : t.sesc.pendingVend = none
  outcome : ∀ v, s.sesc.pendingVend = some v → t.notes (.vendOutcome v.code v.index .escrowFault 0)

/-- Behind the loss a state with the session and the notices but the note of the session. -/
theorem State.EscrowLost.kept {why : BillReason} (h : s.EscrowLost t why) (sesc : u.sesc = t.sesc)
    (notes : t.notes (.bill why) → u.notes (.bill why)) : s.EscrowLost u why :=
  ⟨by rw [sesc]; exact h.escrow, by rw [sesc]; exact h.credit, by rw [sesc]; exact h.phase, notes h.bill⟩

theorem State.StackLost.kept {why : BillReason} (h : s.StackLost t why) (sesc : u.sesc = t.sesc)
    (notes : ∀ m, (Notice.session .idle 0 0).kindNo ≠ m.kindNo → t.notes m → u.notes m) : s.StackLost u why :=
  ⟨h.toEscrowLost.kept sesc (notes _ (by simp [Notice.kindNo])), by rw [sesc]; exact h.pendingVend,
    fun v pending => notes _ (by simp [Notice.kindNo]) (h.outcome v pending)⟩

theorem State.creditOrIdle_phase (s : State) :
    s.creditOrIdle.sesc.phase = if s.sesc.credit = 0 then .idle else .cashCredit := by
  unfold State.creditOrIdle
  split <;> rfl

theorem State.stackGone_notes (s : State) (r : BillReason) : (s.stackGone r).notes (.bill r) ∧
    ∀ v, s.sesc.pendingVend = some v →
      (s.stackGone r).notes (.vendOutcome v.code v.index .escrowFault 0) := by
  unfold State.stackGone
  have bill : (s.escrowGone r).notes (.bill r) := State.raise_notes _ _
  cases pending : s.sesc.pendingVend with
  | none => exact ⟨bill, fun v h => by cases h⟩
  | some v =>
    refine ⟨State.notes.raise (s := (s.escrowGone r).setSesc _) bill (by simp [Notice.kindNo]), fun w h => ?_⟩
    cases h
    exact State.raise_notes _ _

theorem State.stackFails_lost (s : State) (r : BillReason) : s.StackLost (s.stackFails r) r := by
  have gone : (s.stackGone r).sesc = { s.sesc with escrow := none, pendingVend := none } :=
    congrArg State.sesc (s.stackGone_unchanged r)
  obtain ⟨bill, outcome⟩ := s.stackGone_notes r
  have hli : (s.stackGone r).creditOrIdle.hli = (s.stackGone r).hli := by simp
  rw [State.stackFails_eq]
  refine ⟨⟨?_, by simp [gone], by rw [State.creditOrIdle_phase, gone], State.notes_congr bill (by rw [hli])⟩, ?_,
    fun v pending => State.notes_congr (outcome v pending) (by rw [hli])⟩ <;>
  · unfold State.creditOrIdle
    split
    · rfl
    · simp [State.backToCredit, State.startInactivity, gone]

theorem State.loseEscrow_lost (phase : s.sesc.phase = .cashCredit) (r : BillReason) :
    s.EscrowLost (s.loseEscrow r) r := by
  have bill : (s.escrowGone r).notes (.bill r) := State.raise_notes _ _
  have lost : s.loseEscrow r = if s.sesc.credit = 0 then (s.escrowGone r).closeSession else s.escrowGone r := rfl
  rw [lost]
  split
  · next none => exact ⟨rfl, rfl, by rw [if_pos none]; rfl, bill⟩
  · next some => exact ⟨rfl, rfl, by rw [if_neg some]; exact phase, bill⟩

/-- What has become of the bill that a validator held. -/
structure State.BillGone (s t : State) (why : BillReason) : Prop where
  stack : s.sesc.phase = .stacking → s.StackLost t why
  held : s.sesc.phase = .cashCredit → s.sesc.escrow.isSome = true → s.EscrowLost t why
  free : s.sesc.phase ≠ .stacking → s.sesc.phase ≠ .cashCredit ∨ s.sesc.escrow = none → t.sesc = s.sesc

theorem State.billGone_gone (s : State) (r : BillReason) : s.BillGone (s.billGone r) r := by
  refine ⟨fun phase => ?_, fun phase held => ?_, fun phase free => ?_⟩
  · rw [State.billGone, if_pos phase]
    exact s.stackFails_lost r
  · rw [State.billGone, if_neg (by simp [phase]), if_pos ⟨phase, held⟩]
    exact State.loseEscrow_lost phase r
  · rw [State.billGone, if_neg phase, if_neg]
    rintro ⟨credit, held⟩
    rcases free with free | free
    · exact free credit
    · simp [free] at held

/-- Behind the loss a state with the session and the notices but the note of the session. -/
theorem State.BillGone.kept {why : BillReason} (h : s.BillGone t why) (sesc : u.sesc = t.sesc)
    (notes : ∀ m, (Notice.session .idle 0 0).kindNo ≠ m.kindNo → t.notes m → u.notes m) : s.BillGone u why :=
  ⟨fun phase => (h.stack phase).kept sesc notes,
    fun phase held => (h.held phase held).kept sesc (notes _ (by simp [Notice.kindNo])),
    fun phase free => sesc.trans (h.free phase free)⟩

/-- The loss depends on the state before it by its session alone. -/
theorem State.EscrowLost.of_sesc {why : BillReason} (h : s.EscrowLost u why) (sesc : s.sesc = t.sesc) :
    t.EscrowLost u why := by
  obtain ⟨escrow, credit, phase, bill⟩ := h
  rw [sesc] at credit phase
  exact ⟨escrow, credit, phase, bill⟩

theorem State.StackLost.of_sesc {why : BillReason} (h : s.StackLost u why) (sesc : s.sesc = t.sesc) :
    t.StackLost u why :=
  ⟨h.toEscrowLost.of_sesc sesc, h.pendingVend, fun v pending => h.outcome v (by rw [sesc]; exact pending)⟩

theorem State.BillGone.of_sesc {why : BillReason} (h : s.BillGone u why) (sesc : s.sesc = t.sesc) :
    t.BillGone u why := by
  obtain ⟨stack, held, free⟩ := h
  rw [sesc] at stack held free
  exact ⟨fun phase => (stack phase).of_sesc sesc, fun phase some => (held phase some).of_sesc sesc, free⟩

theorem State.BillGone.closeEvent {why : BillReason} (h : s.BillGone t why) (before : Session) :
    s.BillGone (t.closeEvent before) why :=
  h.kept (by simp) fun _ ne held => held.closeEvent before ne

end Sys2Proof.Machine
end

section
/-! SUPPORT. Attempts that fail on the Cash Bus (R115, R124, R126). -/

namespace Sys2Proof.Machine

variable {s : State} {p : Peripheral}

/-! ### Going OFFLINE (R124) -/

theorem State.notes.billGone {m : Notice} (h : s.notes m) (r : BillReason)
    (bill : (Notice.bill r).kindNo ≠ m.kindNo)
    (outcome : (Notice.vendOutcome 0 0 .escrowFault 0).kindNo ≠ m.kindNo) : (s.billGone r).notes m := by
  have gone : (s.escrowGone r).notes m := State.notes.raise (s := s.setSesc _) h bill
  have reported : (s.stackGone r).notes m := by
    unfold State.stackGone
    split
    · exact State.notes.raise (s := (s.escrowGone r).setSesc _) gone outcome
    · exact gone
  unfold State.billGone
  split
  · exact State.notes_congr reported (by rw [State.stackFails_eq]; simp)
  · split
    · have lost : s.loseEscrow r =
          if s.sesc.credit = 0 then (s.escrowGone r).closeSession else s.escrowGone r := rfl
      rw [lost]
      split
      · exact gone
      · exact gone
    · exact h

theorem State.validatorGone_bill (s : State) : s.validatorGone .bill = s.billGone .validatorLost :=
  s.billLost_eq

theorem State.validatorGone_only (s : State) (p : Peripheral) : s.SessionOnly (s.validatorGone p) := by
  cases p with
  | coin => exact .refl s
  | bill =>
    rw [State.validatorGone_bill]
    exact s.billGone_only .validatorLost

theorem State.notes_validatorGone (s : State) (p q : Peripheral) (online : Bool) (fault : Nat) :
    ((s.raise (.peripheral q online fault)).validatorGone p).notes (.peripheral q online fault) :=
  match p with
  | .coin => s.raise_notes _
  | .bill => State.notes.billGone (s.raise_notes _) .validatorLost (by simp [Notice.kindNo])
      (by simp [Notice.kindNo])

/-- The record of a peripheral that has gone OFFLINE (R124). -/
def PeriphRec.gone (r : PeriphRec) : PeriphRec :=
  { r with
    link := .offline, outstanding := none, pending := PendingSet.empty, stackWatch := none,
    resetExpected := false, probeTime := probeMs }

/-- A peripheral that has gone OFFLINE, before its loss is handed to SESC. -/
def State.offline (s : State) (p : Peripheral) : State :=
  (s.editPeriph p PeriphRec.gone).raise (.peripheral p false 0)

theorem State.goOffline_eq (s : State) (p : Peripheral) : s.goOffline p = (s.offline p).validatorGone p := rfl

theorem State.goOffline_cbm (s : State) (p : Peripheral) :
    (s.goOffline p).cbm = s.cbm.set p (s.periph p).gone := by
  obtain ⟨-, -, -, -, cbm, -⟩ := ((s.offline p).validatorGone_only p).unchanged
  exact cbm

@[simp] theorem State.goOffline_periph (s : State) (p : Peripheral) :
    (s.goOffline p).periph p = (s.periph p).gone := by
  rw [State.periph, State.goOffline_cbm, Cbm.get_set_self]

theorem State.closeEvent_periph_of_link (link : (s.periph p).link ≠ .online) (before : Session) :
    (s.closeEvent before).periph p = s.periph p := by
  unfold State.closeEvent State.noteSession
  split
  · rfl
  · rw [State.updateMasks_periph, State.masked, if_neg fun h => link h.1]
    rfl

/-! ### The attempt (R124, R126) -/

theorem State.attemptFails_again {o : Outstanding} (out : (s.periph p).outstanding = some o)
    (more : o.attempt < 3) : s.attemptFails p =
      s.setPeriph p { s.periph p with outstanding := some { o with attempt := o.attempt + 1 } } := by
  simp only [State.attemptFails, out, more, if_true]
  rfl

theorem State.attemptFails_last {o : Outstanding} (out : (s.periph p).outstanding = some o)
    (third : 3 ≤ o.attempt) : s.attemptFails p = s.goOffline p := by
  simp only [State.attemptFails, out, Nat.not_lt.2 third, if_false]

theorem State.probeFails_of_offline (link : (s.periph p).link = .offline) :
    s.probeFails p = s.setPeriph p { s.periph p with probeTime := 2000 } :=
  if_neg (by simp [link])

theorem State.probeFails_of_unknown (link : (s.periph p).link = .unknown) : s.probeFails p =
    (s.setPeriph p { s.periph p with link := .offline, probeTime := 2000 }).raise (.peripheral p false 0) := by
  rw [State.probeFails, if_pos link, State.editPeriph_editPeriph]
  rfl

/-- A failed exchange leaves the late slots and the next slot. -/
theorem State.exchangeFails_slots (s : State) (p : Peripheral) (probe : Bool) :
    (s.exchangeFails p probe).cbm.late = s.cbm.late ∧
    (s.exchangeFails p probe).cbm.nextSlot = s.cbm.nextSlot := by
  unfold State.exchangeFails State.attemptFails State.probeFails
  split
  · dsimp only
    split <;> simp [State.editPeriph]
  · split
    · exact ⟨rfl, rfl⟩
    · split
      · simp [State.editPeriph]
      · simp [State.goOffline_cbm]

/-- The reply to a frame fails (R115): the attempt's failure, the session's note, and the bus IDLE. -/
theorem State.replyFails_of_awaiting {m : Message} {probe : Bool} {left : Nat} {got : List (Option Byte)}
    (bus : s.cbm.bus = .awaiting p m probe left got) (late : s.cbm.late = []) :
    s.replyFails = ((s.exchangeFails p probe).closeEvent s.sesc).setBus .idle := by
  simp only [State.replyFails, bus]
  exact State.closeExchange_of_none_late ((s.exchangeFails_slots p probe).1.trans late)

theorem State.elapse_periph (s : State) (d : Nat) (p : Peripheral) :
    (s.elapse d).periph p = (s.periph p).elapse d := by
  cases p <;> rfl

/-- An event that fails the reply, from the state `b` in which it acts. -/
structure State.ReplyFailsFrom (s b : State) (c : Instr) (p : Peripheral) (m : Message) (probe : Bool) :
    Prop where
  step : exec c s = .next b.replyFails
  bus : ∃ left got, b.cbm.bus = .awaiting p m probe left got
  late : b.cbm.late = s.cbm.late
  nextSlot : b.cbm.nextSlot = s.cbm.nextSlot
  link : (b.periph p).link = (s.periph p).link
  outstanding : (b.periph p).outstanding = (s.periph p).outstanding
  phase : b.sesc.phase = s.sesc.phase
  credit : b.sesc.credit = s.sesc.credit

theorem replyFailsFrom {b : State} {c : Instr} {m : Message} {probe : Bool} {left : Nat}
    {got : List (Option Byte)} (on : s.power ≠ .off) (bus : s.cbm.bus = .awaiting p m probe left got)
    (h : (c = .replyWindowExpiry ∧ got = [] ∧ b = s.elapse left) ∨
      ((c = .replyGapExpiry ∨ c = .nak ∨ c = .badReply) ∧ b = s)) : s.ReplyFailsFrom b c p m probe := by
  rcases h with ⟨rfl, rfl, rfl⟩ | ⟨h, rfl⟩
  · refine ⟨?_, ⟨left - left, [], ?_⟩, rfl, rfl, ?_, ?_, rfl, rfl⟩
    · rw [exec_of_on (f := fun s => s.expire s.cbm.bus.windowLeft State.replyFails) rfl on]
      simp only [bus, Bus.windowLeft, State.expire]
    · change s.cbm.bus.elapse left = _
      rw [bus]
      rfl
    · rw [State.elapse_periph]
      rfl
    · rw [State.elapse_periph]
      rfl
  · refine ⟨?_, ⟨left, got, bus⟩, rfl, rfl, rfl, rfl, rfl, rfl⟩
    rcases h with rfl | rfl | rfl <;> exact exec_of_on rfl on

/-- Settles O38, by what the failed attempt was: one of the first two, the third, or a probe. -/
theorem attemptsFail : Obligations.AttemptsFail := by
  intro s b c p m probe left got on awaiting late h
  obtain ⟨step, ⟨_, _, bus⟩, sameLate, nextSlot, link, outstanding, phase, credit⟩ := replyFailsFrom on awaiting h
  have fails := State.replyFails_of_awaiting bus (sameLate.trans late)
  obtain ⟨-, slot⟩ := b.exchangeFails_slots p probe
  have exchange := (b.exchangeFails p probe).closeEvent_exchange b.sesc
  refine ⟨_, step.trans (congrArg Host.Outcome.next fails), rfl, (exchange.nextSlot.trans slot).trans nextSlot,
    fun o probed out more => ?_, fun o probed out third => ?_, fun probed unknown => ?_, fun probed off => ?_⟩
  all_goals subst probed
  · have again : b.exchangeFails p false = _ := State.attemptFails_again (outstanding.trans out) more
    rw [again, State.closeEvent_of_view _ (before := b.sesc) (by rfl)]
    exact ⟨b.periph_setPeriph_self _ _, rfl⟩
  · have gone : b.exchangeFails p false = _ := State.attemptFails_last (outstanding.trans out) third
    rw [gone]
    refine ⟨?_, ?_, fun bill stacking => ?_⟩
    · exact (State.closeEvent_periph_of_link (by simp [PeriphRec.gone]) _).trans (b.goOffline_periph p)
    · exact State.notes.closeEvent (State.notes_validatorGone _ p p false 0) _ (by simp [Notice.kindNo])
    · subst bill
      have lost : (b.offline .bill).BillGone (b.goOffline .bill) .validatorLost :=
        (b.offline .bill).billGone_gone .validatorLost
      obtain ⟨⟨escrow, kept, stands, bill⟩, vend, -⟩ := (lost.closeEvent b.sesc).stack (phase.trans stacking)
      have held : (b.offline .bill).sesc.credit = s.sesc.credit := credit
      rw [held] at kept stands
      exact ⟨escrow, vend, stands, kept, bill⟩
  · have failed : b.exchangeFails p true = _ := State.probeFails_of_unknown (link.trans unknown)
    rw [failed, State.closeEvent_of_view _ (before := b.sesc) (by rfl)]
    exact ⟨b.periph_setPeriph_self _ _, State.raise_notes _ _⟩
  · have failed : b.exchangeFails p true = _ := State.probeFails_of_offline (link.trans off)
    rw [failed, State.closeEvent_of_view _ (before := b.sesc) (by rfl)]
    exact ⟨b.periph_setPeriph_self _ _, rfl⟩

end Sys2Proof.Machine
end

section
/-! SUPPORT. ACK on the Cash Bus: the set-up queued, and a validator started anew (R117, R121, R125 to R127). -/

namespace Sys2Proof.Machine

variable {s t : State} {p : Peripheral}

/-! ### The set-up queued (R125 to R127) -/

/-- A pending set with the set-up commands in their slots. -/
def State.setUpSlots (s : State) (p : Peripheral) (q : PendingSet) : PendingSet :=
  { q with
    setup := true, acceptMask := some (s.maskOf p)
    routeMap := if p = .coin then some s.routeMap else q.routeMap }

@[simp] theorem State.queueSetup_periph (s : State) (p : Peripheral) : (s.queueSetup p).periph p =
    { s.periph p with pending := s.setUpSlots p (s.periph p).pending } := by
  cases p <;> rfl

@[simp] theorem State.queueSetup_lastMask (s : State) (p : Peripheral) :
    (s.queueSetup p).lastMask p = some (s.maskOf p) := by
  cases p <;> rfl

theorem State.queueSetup_frame (s : State) (p : Peripheral) : ∃ m a b c, s.queueSetup p = { s with
    chu := { s.chu with lastMap := m, lastCoinMask := a, lastBillMask := b }, cbm := c } := by
  cases p <;> exact ⟨_, _, _, _, rfl⟩

@[simp] theorem State.queueSetup_unchanged (s : State) (p : Peripheral) :
    (s.queueSetup p).settings = s.settings ∧ (s.queueSetup p).sesc = s.sesc ∧ (s.queueSetup p).sdc = s.sdc ∧
    (s.queueSetup p).chu.totals = s.chu.totals ∧ (s.queueSetup p).chu.coins = s.chu.coins ∧
    (s.queueSetup p).chu.bills = s.chu.bills ∧ (s.queueSetup p).chu.tubes = s.chu.tubes ∧
    (s.queueSetup p).hli = s.hli := by
  obtain ⟨_, _, _, _, h⟩ := s.queueSetup_frame p
  simp [h]

theorem State.queueSetup_exchange (s : State) (p : Peripheral) : s.SameExchange (s.queueSetup p) := by
  refine ⟨?_, ?_, ?_, fun q => ?_⟩
  · cases p <;> rfl
  · cases p <;> rfl
  · cases p <;> rfl
  · cases p <;> cases q <;> rfl

/-- The set-up of a peripheral waits in its slots, with the mask and the map as they stand. -/
structure State.SetUpQueued (t : State) (p : Peripheral) : Prop where
  setup : (t.periph p).pending.setup = true
  mask : t.MaskQueued p
  route : p = .coin → (t.periph p).pending.routeMap = some t.routeMap

theorem State.queueSetup_queued (s : State) (p : Peripheral) : (s.queueSetup p).SetUpQueued p := by
  have mask : (s.queueSetup p).maskOf p = s.maskOf p :=
    State.maskOf_congr (by simp) (by simp) (by simp) (by simp) (by simp) p
  have route : (s.queueSetup p).routeMap = s.routeMap := State.routeMap_congr (by simp) (by simp)
  refine ⟨by simp [State.setUpSlots], ⟨by simp [mask], by simp [mask, State.setUpSlots]⟩, fun coin => ?_⟩
  rw [route, State.queueSetup_periph, State.setUpSlots, if_pos coin]

/-- A change of the record off its pending set leaves the set-up queued. -/
theorem State.SetUpQueued.editPeriph (h : s.SetUpQueued p) {f : PeriphRec → PeriphRec}
    (pending : (f (s.periph p)).pending = (s.periph p).pending) : (s.editPeriph p f).SetUpQueued p := by
  obtain ⟨setup, ⟨last, mask⟩, route⟩ := h
  have maskOf : (s.editPeriph p f).maskOf p = s.maskOf p := s.setPeriph_maskOf p p _
  refine ⟨?_, ⟨?_, ?_⟩, fun coin => ?_⟩
  · simpa [State.editPeriph, pending] using setup
  · rw [maskOf, ← last]
    cases p <;> rfl
  · rw [maskOf, ← mask]
    simp [State.editPeriph, pending]
  · rw [State.editPeriph, State.periph_setPeriph_self, pending]
    exact route coin

/-- Behind the session's part of the event the mask and the map still stand as they are queued (R28, R85). -/
theorem State.SetUpQueued.closes (h : s.SetUpQueued p) (online : (s.periph p).link = .online)
    (only : s.SessionOnly t) : (t.closeEvent s.sesc).SetUpQueued p := by
  obtain ⟨setup, ⟨last, mask⟩, route⟩ := h
  obtain ⟨settings, -, -, chu, cbm, -, door⟩ := only.unchanged
  have record : t.periph p = s.periph p := by simp only [State.periph, cbm]
  have lastMask : t.lastMask p = s.lastMask p := by cases p <;> simp only [State.lastMask, chu]
  have coins : (t.closeEvent s.sesc).routeMap = t.routeMap := by
    obtain ⟨_, _, _, _, frame⟩ := t.closeEvent_frame s.sesc
    exact State.routeMap_congr (by rw [frame]) (by rw [frame])
  refine ⟨by simp [record, setup], State.closeEvent_queued (by rw [record]; exact online)
    (by rw [lastMask, record, last, mask]) fun view => ?_, fun coin => ?_⟩
  · rw [lastMask, last, State.maskOf_congr view door (by rw [settings]) (by rw [chu]) (by rw [chu])]
  · rw [coins, State.routeMap_congr (s := s) (by rw [chu]) (by rw [chu])]
    simpa [record] using route coin

/-! ### The effects of ACK (R117, R121, R125, R126) -/

/-- The ACK of a frame, its effect done, the session noted, and the bus IDLE. -/
theorem exec_ack {m : Message} {probe : Bool} {left : Nat} {got : List (Option Byte)} {f : State → State}
    (on : s.power ≠ .off) (bus : s.cbm.bus = .awaiting p m probe left got) (late : (f s).cbm.late = [])
    (acts : f s = if probe then s.comeOnline p
      else if (s.periph p).outstanding = none then s
      else if m.expectsAck then s.commandAcked p m
      else s.attemptFails p) :
    exec .ack s = .next (((f s).closeEvent s.sesc).setBus .idle) := by
  rw [exec_of_on (f := State.replyAck) rfl on, ← State.closeExchange_of_none_late late]
  simp only [State.replyAck, bus, State.closeExchange, acts]

/-- The ACK of a command: the frame ends, with the command's effect. -/
theorem exec_ack_of_command {m : Message} {left : Nat} {got : List (Option Byte)} {o : Outstanding}
    (on : s.power ≠ .off) (bus : s.cbm.bus = .awaiting p m false left got)
    (late : (s.commandAcked p m).cbm.late = []) (out : (s.periph p).outstanding = some o)
    (expects : m.expectsAck = true) :
    exec .ack s = .next (((s.commandAcked p m).closeEvent s.sesc).setBus .idle) :=
  exec_ack (f := fun s => s.commandAcked p m) on bus late (by simp [out, expects])

/-- The state behind the ACK of a RESET, before a loss is handed to SESC (R125). -/
def State.setUpAnew (s : State) (p : Peripheral) : State :=
  ((s.editPeriph p fun r => { r with outstanding := none, pending := PendingSet.empty }).queueSetup p).editPeriph p
    fun r => { r with resetExpected := true, stackWatch := none }

theorem State.resetAcked_eq (s : State) (p : Peripheral) :
    s.commandAcked p .reset = (s.setUpAnew p).validatorGone p := by
  simp only [State.commandAcked, State.resetAcked, State.setUpAnew, State.editPeriph_editPeriph]

/-- The state behind the ACK of a probe (R126). -/
theorem State.comeOnline_queued (s : State) (p : Peripheral) : (s.comeOnline p).SetUpQueued p := by
  have queued := (State.queueSetup_queued (s.editPeriph p fun r => { r with link := .online }) p).editPeriph
    (f := fun r => { r with resetExpected := true }) rfl
  exact ⟨queued.setup, queued.mask, queued.route⟩

theorem State.setUpAnew_queued (s : State) (p : Peripheral) : (s.setUpAnew p).SetUpQueued p :=
  (State.queueSetup_queued _ p).editPeriph rfl

/-- The record of a peripheral set up anew (R125). -/
theorem State.setUpAnew_periph (s : State) (p : Peripheral) : (s.setUpAnew p).periph p =
    { s.periph p with
      outstanding := none, resetExpected := true, stackWatch := none
      pending := (s.editPeriph p fun r => { r with outstanding := none, pending := PendingSet.empty }).setUpSlots p
        PendingSet.empty } := by
  simp only [State.setUpAnew, State.editPeriph, State.periph_setPeriph_self, State.queueSetup_periph]

theorem State.setUpAnew_late (s : State) (p : Peripheral) : (s.setUpAnew p).cbm.late = s.cbm.late := by
  have queued := (State.queueSetup_exchange
    (s.editPeriph p fun r => { r with outstanding := none, pending := PendingSet.empty }) p).late
  simpa [State.setUpAnew, State.editPeriph] using queued

theorem State.SetUpQueued.setBus (h : s.SetUpQueued p) (b : Bus) : (s.setBus b).SetUpQueued p :=
  ⟨h.setup, h.mask, h.route⟩

/-- The state behind the ACK of a probe, the peripheral ONLINE (R126). -/
theorem State.comeOnline_unchanged (s : State) (p : Peripheral) :
    ((s.comeOnline p).periph p).link = .online ∧ ((s.comeOnline p).periph p).resetExpected = true ∧
    (s.comeOnline p).cbm.late = s.cbm.late ∧ (s.comeOnline p).sesc = s.sesc ∧ (s.comeOnline p).sdc = s.sdc := by
  have queued := (State.queueSetup_exchange (s.editPeriph p fun r => { r with link := .online }) p).late
  refine ⟨?_, ?_, ?_, ?_, ?_⟩
  · simp [State.comeOnline, State.editPeriph]
  · simp [State.comeOnline, State.editPeriph]
  · simpa [State.comeOnline, State.editPeriph] using queued
  · simp [State.comeOnline]
  · simp [State.comeOnline]

theorem exec_ack_of_probe {m : Message} {left : Nat} {got : List (Option Byte)} (on : s.power ≠ .off)
    (bus : s.cbm.bus = .awaiting p m true left got) (late : s.cbm.late = []) :
    exec .ack s = .next ((s.comeOnline p).setBus .idle) := by
  obtain ⟨-, -, sameLate, sesc, -⟩ := s.comeOnline_unchanged p
  rw [exec_ack (f := fun s => s.comeOnline p) on bus (sameLate.trans late) rfl,
    State.closeEvent_of_view _ (by rw [sesc])]

/-- The ACK of a command but RESET ends its frame, and starts the stack watch behind ESCROW_STACK (R117, R121). -/
theorem exec_ack_of_effect {m : Message} {left : Nat} {got : List (Option Byte)} {o : Outstanding}
    {f : PeriphRec → PeriphRec} (on : s.power ≠ .off) (bus : s.cbm.bus = .awaiting p m false left got)
    (late : s.cbm.late = []) (out : (s.periph p).outstanding = some o) (expects : m.expectsAck = true)
    (effect : s.commandAcked p m = s.editPeriph p f) : exec .ack s =
      .next { s with cbm := { (s.cbm.set p (f (s.periph p))) with bus := .idle } } := by
  have sameLate : (s.editPeriph p f).cbm.late = s.cbm.late := by simp [State.editPeriph]
  rw [exec_ack_of_command on bus (by rw [effect, sameLate, late]) out expects, effect,
    State.closeEvent_of_view _ (by rfl)]
  rfl

/-- What the ACK of a RESET leaves (R125). -/
theorem exec_ack_of_reset {left : Nat} {got : List (Option Byte)} {o : Outstanding} (on : s.power ≠ .off)
    (bus : s.cbm.bus = .awaiting p .reset false left got) (late : s.cbm.late = [])
    (out : (s.periph p).outstanding = some o) : exec .ack s =
      .next ((((s.setUpAnew p).validatorGone p).closeEvent s.sesc).setBus .idle) := by
  obtain ⟨-, -, -, -, cbm, -⟩ := ((s.setUpAnew p).validatorGone_only p).unchanged
  have sameLate : ((s.setUpAnew p).validatorGone p).cbm.late = [] := by
    rw [cbm, State.setUpAnew_late, late]
  rw [exec_ack_of_command on bus (by rw [State.resetAcked_eq, sameLate]) out rfl, State.resetAcked_eq]

/-- Settles O39, by the message that the ACK answers. -/
theorem ackEffects : Obligations.AckEffects := by
  intro s p m probe left got on bus late setUp
  refine ⟨fun probed => ?_, fun o command out => ⟨fun reset online => ?_, fun stack => ?_, fun plain => ?_,
    fun data => ?_⟩⟩
  · subst probed
    obtain ⟨link, expected, -, sesc, sdc⟩ := s.comeOnline_unchanged p
    obtain ⟨setup, mask, route⟩ := (s.comeOnline_queued p).setBus .idle
    exact ⟨_, exec_ack_of_probe on bus late, link, ⟨setup, mask.2, route, expected⟩, rfl,
      State.raise_notes _ _, sesc, sdc⟩
  · subst command reset
    have only := (s.setUpAnew p).validatorGone_only p
    obtain ⟨-, -, -, chu, cbm, -⟩ := only.unchanged
    have before : (s.setUpAnew p).sesc = s.sesc := by simp [State.setUpAnew]
    have held : ((s.setUpAnew p).validatorGone p).periph p = (s.setUpAnew p).periph p := by
      simp only [State.periph, cbm]
    have record := s.setUpAnew_periph p
    obtain ⟨setup, mask, route⟩ :=
      ((s.setUpAnew_queued p).closes (by rw [record]; exact online) only).setBus .idle
    rw [before] at setup mask route
    obtain ⟨-, reset, escrow, -, -, outstanding, watch, expected, -⟩ :=
      ((s.setUpAnew p).validatorGone p).closeEvent_slots s.sesc p
    rw [held, record] at reset escrow outstanding watch expected
    have totals : ((s.setUpAnew p).validatorGone p).chu.totals = s.chu.totals := by
      rw [chu]
      simp [State.setUpAnew]
    refine ⟨_, exec_ack_of_reset on bus late out, ⟨setup, mask.2, route, expected⟩, outstanding, reset, escrow,
      watch, rfl, by simpa using totals, fun coin => ?_, fun bill => ?_⟩
    · subst coin
      obtain ⟨-, -, -, -, sesc, -⟩ :=
        State.closeEvent_unchanged ((s.setUpAnew .coin).validatorGone .coin) s.sesc
      exact sesc.trans before
    · subst bill
      have gone : s.BillGone (((s.setUpAnew .bill).validatorGone .bill).closeEvent s.sesc) .validatorLost :=
        (((s.setUpAnew .bill).billGone_gone .validatorLost).closeEvent s.sesc).of_sesc before
      refine ⟨fun lost => ?_, fun stacking => ?_, gone.free⟩
      · have lost : s.EscrowLost (((s.setUpAnew .bill).validatorGone .bill).closeEvent s.sesc) .validatorLost := by
          rcases lost with stacking | ⟨credit, some⟩
          · exact (gone.stack stacking).toEscrowLost
          · exact gone.held credit some
        exact ⟨lost.escrow, lost.credit, lost.phase, lost.bill⟩
      · exact ⟨(gone.stack stacking).pendingVend, by simp [State.setUpAnew], (gone.stack stacking).outcome⟩
  · subst command stack
    refine exec_ack_of_effect (f := fun r => { r with outstanding := none, stackWatch := some 10000 }) on bus late
      out rfl ?_
    simp only [State.commandAcked, State.editPeriph_editPeriph, stackWatchMs]
  · subst command
    rcases plain with rfl | ⟨k, rfl⟩ | ⟨k, rfl⟩ <;>
      exact exec_ack_of_effect (f := fun r => { r with outstanding := none }) on bus late out rfl rfl
  · subst command
    have expects : m.expectsAck = false := by rcases data with rfl | rfl <;> rfl
    have ack : s.replyAck = s.replyFails := by
      simp [State.replyAck, State.replyFails, bus, State.closeExchange, State.exchangeFails, out, expects]
    rw [exec_of_on (f := State.replyAck) rfl on, exec_of_on (c := .badReply) (f := State.replyFails) rfl on, ack]

end Sys2Proof.Machine
end

section
/-! SUPPORT. The replies to POLL: the events done in their turn, and the money they report (R29, R30, R36, R86, R87,
R116, R119). -/

namespace Sys2Proof.Machine

variable {s t : State} {p : Peripheral}

/-! ### A POLL reply taken as good (R116, R119) -/

/-- The frame has ended, and its reply is being confirmed. -/
def State.pollBegun (s : State) (p : Peripheral) : State :=
  (s.editPeriph p fun r => { r with outstanding := none }).setBus (.confirming p)

theorem State.pollTaken_eq (s : State) (p : Peripheral) (es : List BusEvent) : s.pollTaken p es =
    (busEvents p es (s.pollBegun p)).editPeriph p fun r => { r with resetExpected := false } := rfl

theorem exec_pollReply {left : Nat} {got : List (Option Byte)} {o : Outstanding} {chars : List Byte}
    {es : List BusEvent} (on : s.power ≠ .off) (out : (s.periph p).outstanding = some o)
    (bus : s.cbm.bus = .awaiting p .poll false left got) (events : pollEventsOf chars = some es) :
    exec (.pollReply chars) s = .next (s.pollTaken p es) := by
  rw [exec_of_on (f := fun s => s.replyPoll chars) rfl on]
  simp [State.replyPoll, bus, out, events]

/-- The state behind a reply's single event, its session noted. -/
def State.pollDone (s : State) (p : Peripheral) (e : BusEvent) : State :=
  ((s.pollBegun p).busEvent p e).closeEvent s.sesc

theorem State.pollTaken_single (s : State) (p : Peripheral) (e : BusEvent) : s.pollTaken p [e] =
    (s.pollDone p e).editPeriph p fun r => { r with resetExpected := false } := rfl

@[simp] theorem State.pollBegun_unchanged (s : State) (p : Peripheral) :
    (s.pollBegun p).settings = s.settings ∧ (s.pollBegun p).selt = s.selt ∧ (s.pollBegun p).sesc = s.sesc ∧
    (s.pollBegun p).sdc = s.sdc ∧ (s.pollBegun p).chu = s.chu ∧ (s.pollBegun p).hli = s.hli :=
  ⟨rfl, rfl, rfl, rfl, rfl, rfl⟩

@[simp] theorem State.pollBegun_periph (s : State) (p : Peripheral) :
    (s.pollBegun p).periph p = { s.periph p with outstanding := none } :=
  s.periph_setPeriph_self p _

@[simp] theorem State.editPeriph_periph (s : State) (p : Peripheral) (f : PeriphRec → PeriphRec) :
    (s.editPeriph p f).periph p = f (s.periph p) :=
  s.periph_setPeriph_self p _

/-! ### Coins (R29, R86) -/

theorem State.coinAccepted_of_used {k : Nat} {toTube : Bool} {c : CoinClass} (cls : s.chu.coins[k]? = some c)
    (used : c.value ≠ 0) : s.coinAccepted k toTube = ((s.countCoin c toTube).creditCoin c.value).coinPhase := by
  simp only [State.coinAccepted, cls, used, if_false]

@[simp] theorem State.restartInactivity_unchanged (s : State) : s.restartInactivity.selt = s.selt ∧
    s.restartInactivity.chu = s.chu ∧ s.restartInactivity.cbm = s.cbm ∧ s.restartInactivity.hli = s.hli ∧
    s.restartInactivity.sesc = { s.sesc with inactivity := s.restartInactivity.sesc.inactivity } := by
  unfold State.restartInactivity
  split <;> exact ⟨rfl, rfl, rfl, rfl, rfl⟩

/-- A credited coin opens a session in IDLE, and leaves the phase of every other (R29). -/
theorem State.coinPhase_session (s : State) : s.coinPhase.chu = s.chu ∧ s.coinPhase.sesc.credit = s.sesc.credit ∧
    (s.sesc.phase = .idle → s.coinPhase.sesc.phase = .cashCredit ∧ s.coinPhase.sesc.kind = .cash ∧
      s.coinPhase.sesc.sessionSet = s.selt.active) ∧
    (s.sesc.phase ≠ .idle → s.coinPhase.sesc.phase = s.sesc.phase) := by
  obtain ⟨-, chu, -, -, sesc⟩ := s.restartInactivity_unchanged
  unfold State.coinPhase
  split
  · next idle => exact ⟨rfl, rfl, fun _ => ⟨rfl, rfl, rfl⟩, fun h => absurd idle h⟩
  · next phase => exact ⟨chu, by rw [sesc], fun h => by simp [phase] at h, fun _ => by rw [sesc]⟩
  · next phase => exact ⟨chu, by rw [sesc], fun h => by simp [phase] at h, fun _ => by rw [sesc]⟩
  · next other _ _ => exact ⟨rfl, rfl, fun h => absurd h other, fun _ => rfl⟩

@[simp] theorem State.tubesChanged_tubes (s : State) : s.tubesChanged.chu.tubes = s.chu.tubes := by
  obtain ⟨_, _, _, _, h⟩ := s.tubesChanged_frame
  simp [h]

/-- A coin counted to a tube below its capacity raises the tube's count (R86). -/
theorem State.countCoin_of_room {c : CoinClass} {i : Nat} {x : Tube} {a : TubeAssign} (mapped : c.tube = some i)
    (tube : s.tube i = some x) (assign : x.assign = some a) (room : x.count < a.capacity) :
    (s.countCoin c true).tube i = some { x with count := x.count + 1 } := by
  have cap : x.count < x.cap := by simpa [Tube.cap, assign] using room
  have counted : s.countCoin c true =
      (s.editTube i fun t => { t with count := t.count + 1 }).tubesChanged := by
    simp only [State.countCoin, mapped, tube, cap, if_true]
  have place : s.chu.tubes[i]? = some x := tube
  rw [counted, State.tube, State.tubesChanged_tubes]
  exact (modifyAt_getElem?_self _ _ _).trans (by rw [place]; rfl)

/-- A coin for the cashbox, or of a class without a tube, is counted to no tube (R86). -/
theorem State.countCoin_of_cashbox {c : CoinClass} {toTube : Bool} (h : toTube = false ∨ c.tube = none) :
    s.countCoin c toTube = s := by
  rcases h with rfl | h
  · cases c.tube <;> rfl
  · cases toTube <;> simp only [State.countCoin, h]

@[simp] theorem State.closeEvent_tube (s : State) (before : Session) (i : Nat) :
    (s.closeEvent before).tube i = s.tube i := by
  simp only [State.tube, State.closeEvent_tubes]

/-- A coin of a used class, as POLL reports it. -/
theorem State.pollDone_coin {k : Nat} {toTube : Bool} {c : CoinClass} (cls : s.chu.coins[k]? = some c)
    (used : c.value ≠ 0) : s.pollDone .coin (.coinAccepted k toTube) =
      ((((s.pollBegun .coin).countCoin c toTube).creditCoin c.value).coinPhase).closeEvent s.sesc :=
  congrArg (fun x : State => x.closeEvent s.sesc) (State.coinAccepted_of_used (s := s.pollBegun .coin) cls used)

/-- What a coin counted and credited leaves of money, session and tubes. -/
theorem State.coinCredited (s : State) (c : CoinClass) (toTube : Bool) :
    let t := ((s.countCoin c toTube).creditCoin c.value).coinPhase
    t.sesc.credit = s.sesc.credit + money c.value ∧
    t.chu.totals = { s.chu.totals with coinsIn := s.chu.totals.coinsIn + money c.value } ∧
    t.chu.tubes = (s.countCoin c toTube).chu.tubes ∧
    (s.sesc.phase = .idle → t.sesc.phase = .cashCredit ∧ t.sesc.kind = .cash ∧
      t.sesc.sessionSet = s.selt.active) ∧
    (s.sesc.phase ≠ .idle → t.sesc.phase = s.sesc.phase) := by
  intro t
  obtain ⟨sesc, totals, -⟩ := s.countCoin_still c toTube
  obtain ⟨chu, credit, opens, stays⟩ := ((s.countCoin c toTube).creditCoin c.value).coinPhase_session
  have phase : ((s.countCoin c toTube).creditCoin c.value).sesc.phase = s.sesc.phase := by
    rw [← sesc]; rfl
  refine ⟨credit.trans (by rw [← sesc]; rfl), ?_, by rw [chu]; rfl, fun idle => ?_, fun busy => ?_⟩
  · rw [chu, ← totals]
    rfl
  · obtain ⟨cash, kind, set⟩ := opens (phase.trans idle)
    exact ⟨cash, kind, set.trans (by simp)⟩
  · exact (stays (by rwa [phase])).trans phase

/-! ### Bills (R30, R36, R87) -/

theorem State.billEscrowed_of_refusal {k : Nat} {b : BillClass} {r : BillReason}
    (cls : s.chu.bills[k]? = some b) (refused : s.billRefusal b = some r) :
    s.billEscrowed k = s.sendBack r := by
  simp only [State.billEscrowed, cls, refused]

theorem State.billEscrowed_of_kept {k : Nat} {b : BillClass} (cls : s.chu.bills[k]? = some b)
    (kept : s.billRefusal b = none) : s.billEscrowed k = s.keepBill k b.value := by
  simp only [State.billEscrowed, cls, kept]

/-- A bill kept is escrowed, in CASH_CREDIT (R30). -/
theorem State.keepBill_session {b : BillClass} (kept : s.billRefusal b = none) (k : Nat) :
    (s.keepBill k b.value).chu = s.chu ∧ (s.keepBill k b.value).sesc.credit = s.sesc.credit ∧
    (s.keepBill k b.value).sesc.escrow = some ⟨k, b.value⟩ ∧
    (s.keepBill k b.value).sesc.phase = .cashCredit := by
  obtain ⟨-, chu, -, -, sesc⟩ :=
    (s.setSesc { s.sesc with escrow := some ⟨k, b.value⟩ }).restartInactivity_unchanged
  unfold State.keepBill
  dsimp only
  split
  · exact ⟨rfl, rfl, rfl, rfl⟩
  · next notIdle =>
    have phase : s.sesc.phase = .cashCredit := (State.billRefusal_phase kept).resolve_left notIdle
    rw [chu, sesc]
    exact ⟨rfl, rfl, rfl, phase⟩

/-- A bill sent back changes a running timer at most, and its notice gives the reason (R30). -/
theorem State.sendBack_session (s : State) (r : BillReason) :
    (s.sendBack r).chu = s.chu ∧ (s.sendBack r).cbm = s.handEscrowReturn.cbm ∧
    (s.sendBack r).sesc.credit = s.sesc.credit ∧ (s.sendBack r).sesc.escrow = s.sesc.escrow ∧
    (s.sendBack r).sesc.phase = s.sesc.phase ∧ (s.sendBack r).notes (.bill r) := by
  obtain ⟨-, chu, cbm, hli, sesc⟩ := (s.handEscrowReturn.raise (.bill r)).restartInactivity_unchanged
  obtain ⟨handed, credit, escrow, phase⟩ : s.handEscrowReturn.chu = s.chu ∧
      s.handEscrowReturn.sesc.credit = s.sesc.credit ∧ s.handEscrowReturn.sesc.escrow = s.sesc.escrow ∧
      s.handEscrowReturn.sesc.phase = s.sesc.phase := by
    simp [State.handEscrowReturn]
  have raised : (s.handEscrowReturn.raise (.bill r)).notes (.bill r) := State.raise_notes _ _
  unfold State.sendBack
  dsimp only
  split
  · rw [chu, cbm, sesc]
    exact ⟨handed, rfl, credit, escrow, phase, State.notes_congr raised (by rw [hli])⟩
  · exact ⟨handed, rfl, credit, escrow, phase, raised⟩

/-- An ESCROW_RETURN handed waits in its slot, with no ESCROW_STACK there (R122). -/
theorem State.handEscrowReturn_escrow (online : (s.periph .bill).link = .online)
    (free : (s.periph .bill).pending.escrow ≠ some .stack) :
    (s.handEscrowReturn.periph .bill).pending.escrow = some .giveBack := by
  simp [State.handEscrowReturn, online, free]

/-- A stacked bill is credited, and the vend goes on (R36). -/
theorem State.billStacked_of_vend {v : PendingVend} (phase : s.sesc.phase = .stacking)
    (pending : s.sesc.pendingVend = some v) : s.billStacked = (s.stacked.enqueue v).takeHead := by
  have held : s.stacked.sesc.pendingVend = some v := pending
  unfold State.billStacked
  rw [if_pos phase]
  change (match s.stacked.sesc.pendingVend with
    | some v => (s.stacked.enqueue v).takeHead
    | none => s.stacked) = _
  rw [held]

/-- What a bill stacked leaves: its value credited, and the vend's entry on the list (R36, R38). -/
theorem State.billStacked_session {e : Escrow} {v : PendingVend} (phase : s.sesc.phase = .stacking)
    (escrow : s.sesc.escrow = some e) (pending : s.sesc.pendingVend = some v) :
    s.billStacked.sesc.credit = s.sesc.credit + money e.value ∧
    s.billStacked.chu.totals = { s.chu.totals with billsIn := s.chu.totals.billsIn + money e.value } ∧
    s.billStacked.sesc.phase = .vending ∧ s.billStacked.sesc.escrow = none ∧
    ∃ d ∈ s.billStacked.sdc.list, d.SameWork (s.stacked.vendEntry v) := by
  have value : s.sesc.escrowValue = e.value := by simp only [Session.escrowValue, escrow]
  obtain ⟨listed, -⟩ := s.stacked.enqueue_takeHead v
  rw [State.billStacked_of_vend phase pending]
  exact ⟨by simp [State.stacked, value], by simp [State.stacked, value], by simp [State.stacked],
    by simp [State.stacked], listed⟩

/-- Settles O41, an event at a time. -/
theorem moneyArrives : Obligations.MoneyArrives := by
  intro s left got o chars on
  refine ⟨fun k toTube c out bus events cls used => ⟨_, exec_pollReply on out bus events, ?_⟩,
    fun k b out bus events cls => ⟨_, exec_pollReply on out bus events, ?_⟩,
    fun e v out bus events phase escrow pending => ⟨_, exec_pollReply on out bus events, ?_⟩⟩
  · rw [State.pollTaken_single, State.pollDone_coin cls used]
    obtain ⟨credit, totals, tubes, opens, stays⟩ := (s.pollBegun .coin).coinCredited c toTube
    simp only [State.editPeriph_sesc, State.editPeriph_chu, State.closeEvent_unchanged, State.closeEvent_tubes,
      State.tube, tubes]
    refine ⟨credit, totals, opens, stays, fun i x a toTube mapped tube assign room => ?_, fun box => ?_⟩
    · subst toTube
      exact State.countCoin_of_room (s := s.pollBegun .coin) mapped tube assign room
    · rw [State.countCoin_of_cashbox box]
      rfl
  · rw [State.pollTaken_single]
    cases refusal : s.billRefusal b with
    | none =>
      have done : s.pollDone .bill (.billEscrowed k) = ((s.pollBegun .bill).keepBill k b.value).closeEvent s.sesc :=
        congrArg (fun x : State => x.closeEvent s.sesc)
          (State.billEscrowed_of_kept (s := s.pollBegun .bill) cls refusal)
      obtain ⟨chu, credit, escrow, phase⟩ := State.keepBill_session (s := s.pollBegun .bill) refusal k
      simp only [State.editPeriph_sesc, State.editPeriph_chu, State.closeEvent_unchanged, done]
      exact ⟨credit, by rw [chu]; rfl, fun _ => ⟨escrow, phase⟩, fun why h => by cases h⟩
    | some r =>
      have done : s.pollDone .bill (.billEscrowed k) = ((s.pollBegun .bill).sendBack r).closeEvent s.sesc :=
        congrArg (fun x : State => x.closeEvent s.sesc)
          (State.billEscrowed_of_refusal (s := s.pollBegun .bill) cls refusal)
      obtain ⟨chu, cbm, credit, escrow, phase, notes⟩ := (s.pollBegun .bill).sendBack_session r
      simp only [State.editPeriph_sesc, State.editPeriph_chu, State.closeEvent_unchanged, done]
      refine ⟨credit, by rw [chu]; rfl, (fun h => by cases h), fun why h => ?_⟩
      cases h
      refine ⟨escrow, phase, notes.closeEvent _ (by simp [Notice.kindNo]), fun online free => ?_⟩
      have handed := State.handEscrowReturn_escrow (s := s.pollBegun .bill) online free
      have record : ((s.pollBegun .bill).sendBack r).periph .bill =
          (s.pollBegun .bill).handEscrowReturn.periph .bill := by simp only [State.periph, cbm]
      simp only [State.editPeriph_periph, State.closeEvent_slots, record]
      exact handed
  · rw [State.pollTaken_single]
    have done : s.pollDone .bill .billStacked = ((s.pollBegun .bill).stopWatch.billStacked).closeEvent s.sesc := rfl
    obtain ⟨credit, totals, vending, gone, d, mem, origin, unit, -⟩ :=
      State.billStacked_session (s := (s.pollBegun .bill).stopWatch) phase escrow pending
    simp only [State.editPeriph_sesc, State.editPeriph_chu, State.editPeriph_sdc, State.closeEvent_unchanged, done]
    exact ⟨credit, totals, vending, gone, d, mem, origin, unit⟩

end Sys2Proof.Machine
end

section
/-! SUPPORT. The replies to SETUP and POLL: what each event leaves of the exchange, and what a validator tells of its
bill (R31, R37, R116, R118, R119, R121, R124, R127, R128). -/

namespace Sys2Proof.Machine

variable {s t : State} {p : Peripheral}

/-! ### The exchange behind the events of a reply (R116, R119) -/

theorem State.evalExact_exchange (s : State) : s.SameExchange s.evalExact := by
  obtain ⟨_, _, h⟩ := s.evalExact_frame
  exact .of_cbm (by rw [h])

theorem State.tubesChanged_exchange (s : State) : s.SameExchange s.tubesChanged :=
  s.updateRoute_exchange.trans (State.evalExact_exchange _)

theorem State.countCoin_exchange (s : State) (c : CoinClass) (toTube : Bool) :
    s.SameExchange (s.countCoin c toTube) := by
  unfold State.countCoin
  split
  · split
    · split
      · exact (State.SameExchange.of_cbm (s := s) (t := s.editTube _ _) rfl).trans (State.tubesChanged_exchange _)
      · exact .refl s
    · exact .refl s
  · exact .refl s

theorem State.coinAccepted_exchange (s : State) (k : Nat) (toTube : Bool) :
    s.SameExchange (s.coinAccepted k toTube) := by
  unfold State.coinAccepted
  split
  · exact .refl s
  · next c _ =>
    split
    · exact .refl s
    · refine (s.countCoin_exchange c toTube).trans (.of_cbm ?_)
      unfold State.coinPhase
      split
      · rfl
      · simp
      · simp
      · rfl

theorem State.sendBack_exchange (s : State) (r : BillReason) : s.SameExchange (s.sendBack r) := by
  obtain ⟨-, cbm, -⟩ := s.sendBack_session r
  exact (s.hand_exchange .bill _).trans (.of_cbm cbm)

theorem State.keepBill_exchange (s : State) (k v : Nat) : s.SameExchange (s.keepBill k v) := by
  unfold State.keepBill
  dsimp only
  split
  · exact .of_cbm rfl
  · exact .of_cbm (by simp)

theorem State.billEscrowed_exchange (s : State) (k : Nat) : s.SameExchange (s.billEscrowed k) := by
  unfold State.billEscrowed
  split
  · exact .refl s
  · split
    · exact s.sendBack_exchange _
    · exact s.keepBill_exchange _ _

theorem State.billStacked_exchange (s : State) : s.SameExchange s.billStacked := by
  unfold State.billStacked
  split
  · dsimp only
    split
    · exact .of_cbm (by simp [State.enqueue])
    · exact .of_cbm rfl
  · exact .of_cbm rfl

theorem State.SessionOnly.exchange (h : s.SessionOnly t) : s.SameExchange t := by
  obtain ⟨-, -, -, -, cbm, -⟩ := h.unchanged
  exact .of_cbm cbm

theorem State.billReturned_only (s : State) : s.SessionOnly s.billReturned := by
  rw [State.billReturned_eq]
  exact s.billGone_only .validatorReturned

theorem State.stopWatch_exchange (s : State) : s.SameExchange s.stopWatch := State.editPeriph_exchange .bill rfl

/-- The state behind DEVICE_FAULT, before a loss is handed to SESC (R128). -/
def State.faulted (s : State) (p : Peripheral) (code : Nat) : State :=
  (s.editPeriph p fun r => { r with lastFault := code, stackWatch := none }).raise (.peripheral p true code)

theorem State.deviceFault_bill (s : State) (code : Nat) : s.deviceFault .bill code =
    if s.sesc.phase = .stacking then (s.faulted .bill code).stackFails .validatorLost
    else s.faulted .bill code := rfl

theorem State.deviceFault_only (s : State) (p : Peripheral) (code : Nat) :
    (s.faulted p code).SessionOnly (s.deviceFault p code) := by
  cases p with
  | coin => exact .refl _
  | bill =>
    rw [State.deviceFault_bill]
    split
    · exact State.stackFails_only _ _
    · exact .refl _

theorem State.faulted_exchange (s : State) (p : Peripheral) (code : Nat) : s.SameExchange (s.faulted p code) :=
  (State.editPeriph_exchange (f := fun r => { r with lastFault := code, stackWatch := none }) p rfl).trans
    (.of_cbm rfl)

/-- The state behind an unasked JUST_RESET, before a loss is handed to SESC (R127). -/
def State.restarted (s : State) (p : Peripheral) : State :=
  (((s.editPending p fun q => { q with escrow := none }).queueSetup p).editPeriph p fun r =>
    { r with stackWatch := none }).raise (.peripheral p true 0)

theorem State.justReset_of_expected (h : (s.periph p).resetExpected = true) : s.justReset p = s := if_pos h

theorem State.justReset_of_unasked (h : (s.periph p).resetExpected = false) :
    s.justReset p = (s.restarted p).validatorGone p :=
  if_neg (by simp [h])

theorem State.restarted_exchange (s : State) (p : Peripheral) : s.SameExchange (s.restarted p) :=
  (((s.editPending_exchange p _).trans (State.queueSetup_exchange _ p)).trans
    (State.editPeriph_exchange (f := fun r => { r with stackWatch := none }) p rfl)).trans (.of_cbm rfl)

theorem State.justReset_exchange (s : State) (p : Peripheral) : s.SameExchange (s.justReset p) := by
  cases h : (s.periph p).resetExpected with
  | true => rw [State.justReset_of_expected h]; exact .refl s
  | false =>
    rw [State.justReset_of_unasked h]
    exact (s.restarted_exchange p).trans (State.validatorGone_only _ p).exchange

/-- No event of a reply touches the exchange that reports it (R119). -/
theorem State.busEvent_exchange (s : State) (p : Peripheral) (e : BusEvent) : s.SameExchange (s.busEvent p e) :=
  match e, p with
  | .coinAccepted k toTube, .coin => s.coinAccepted_exchange k toTube
  | .coinAccepted _ _, .bill => .refl s
  | .coinRejected, _ => .refl s
  | .billEscrowed _, .coin => .refl s
  | .billEscrowed k, .bill => s.billEscrowed_exchange k
  | .billStacked, .coin => .refl s
  | .billStacked, .bill => s.stopWatch_exchange.trans (State.billStacked_exchange _)
  | .billReturned, .coin => .refl s
  | .billReturned, .bill => s.stopWatch_exchange.trans (State.billReturned_only _).exchange
  | .deviceFault code, p => (s.faulted_exchange p code).trans (s.deviceFault_only p code).exchange
  | .justReset, p => s.justReset_exchange p

theorem busEvents_exchange (p : Peripheral) (es : List BusEvent) (s : State) :
    s.SameExchange (busEvents p es s) := by
  induction es generalizing s with
  | nil => exact .refl s
  | cons e rest ih =>
    exact ((s.busEvent_exchange p e).trans (State.closeEvent_exchange _ _)).trans (ih _)

/-! ### SETUP (R80, R116, R118) -/

theorem map_modifyAt {α β : Type} {f : α → α} {g : α → β} (h : ∀ x, g (f x) = g x) (i : Nat) (xs : List α) :
    (modifyAt f i xs).map g = xs.map g := by
  induction xs generalizing i with
  | nil => cases i <;> rfl
  | cons x xs ih =>
    cases i with
    | zero => simp [modifyAt, h]
    | succ i => simp [modifyAt, ih]

/-- Class `k` loses its mapping to tube `i`, with a TUBE notice (R80). -/
def State.unmapped (s : State) (k i : Nat) : State :=
  ({ s with chu := { s.chu with
    coins := modifyAt (fun x => { x with tube := none }) k s.chu.coins } }).raiseTube i .mappingDropped (some k)

theorem State.unmapped_records (s : State) (k i : Nat) :
    (s.unmapped k i).chu.coins.map CoinClass.value = s.chu.coins.map CoinClass.value ∧
    (s.unmapped k i).chu.bills = s.chu.bills ∧ (s.unmapped k i).cbm = s.cbm := by
  have values := map_modifyAt (f := fun x : CoinClass => { x with tube := none }) (g := CoinClass.value)
    (fun _ => rfl) k s.chu.coins
  unfold State.unmapped State.raiseTube
  split <;> exact ⟨values, rfl, rfl⟩

/-- Each class of the list keeps its mapping or loses it. -/
theorem dropMappings_cons (only : Option Nat) (k : Nat) (c : CoinClass) (rest : List CoinClass) (s : State) :
    dropMappings only k (c :: rest) s = dropMappings only (k + 1) rest s ∨
      ∃ i, dropMappings only k (c :: rest) s = dropMappings only (k + 1) rest (s.unmapped k i) := by
  simp only [dropMappings]
  split
  · exact .inl rfl
  · next i _ =>
    split <;> split
    · exact .inr ⟨i, rfl⟩
    · exact .inl rfl
    · exact .inr ⟨i, rfl⟩
    · exact .inl rfl

/-- Dropping mappings leaves the values of the classes, the bills and the exchange (R80). -/
theorem dropMappings_records (only : Option Nat) (k : Nat) (cs : List CoinClass) (s : State) :
    (dropMappings only k cs s).chu.coins.map CoinClass.value = s.chu.coins.map CoinClass.value ∧
    (dropMappings only k cs s).chu.bills = s.chu.bills ∧ (dropMappings only k cs s).cbm = s.cbm := by
  induction cs generalizing k s with
  | nil => exact ⟨rfl, rfl, rfl⟩
  | cons c rest ih =>
    rcases dropMappings_cons only k c rest s with kept | ⟨i, dropped⟩
    · rw [kept]
      exact ih _ s
    · obtain ⟨coins, bills, cbm⟩ := s.unmapped_records k i
      obtain ⟨coinsLeft, billsLeft, cbmLeft⟩ := ih (k + 1) (s.unmapped k i)
      rw [dropped]
      exact ⟨coinsLeft.trans coins, billsLeft.trans bills, cbmLeft.trans cbm⟩

/-- The class values of a SETUP reply are written, and the mappings that no longer match dropped (R80). -/
def State.setupWritten (s : State) (p : Peripheral) (vs : List Nat) : State :=
  match p with
  | .coin => ({ s with chu := { s.chu with coins := writeCoinValues s.chu.coins vs } }).dropMapped none
  | .bill => { s with chu := { s.chu with bills := writeBillValues s.chu.bills vs } }

theorem State.takeSetup_eq (s : State) (p : Peripheral) (vs : List Nat) :
    s.takeSetup p vs = (s.setupWritten p vs).updateRoute.updateMasks := by
  cases p <;> rfl

theorem State.setupWritten_cbm (s : State) (p : Peripheral) (vs : List Nat) :
    (s.setupWritten p vs).cbm = s.cbm := by
  cases p with
  | coin => exact (dropMappings_records none 0 _ _).2.2
  | bill => rfl

/-- What a set-up writes of the classes (R80). -/
theorem State.setupWritten_classes (s : State) (p : Peripheral) (vs : List Nat) :
    (p = .bill → (s.setupWritten p vs).chu.bills = writeBillValues s.chu.bills vs ∧
      (s.setupWritten p vs).chu.coins = s.chu.coins) ∧
    (p = .coin → (s.setupWritten p vs).chu.coins.map CoinClass.value =
      (writeCoinValues s.chu.coins vs).map CoinClass.value ∧
      (s.setupWritten p vs).chu.bills = s.chu.bills) := by
  cases p with
  | coin =>
    obtain ⟨coins, bills, -⟩ := dropMappings_records none 0 (writeCoinValues s.chu.coins vs)
      { s with chu := { s.chu with coins := writeCoinValues s.chu.coins vs } }
    exact ⟨(fun h => by cases h), fun _ => ⟨coins, bills⟩⟩
  | bill => exact ⟨fun _ => ⟨rfl, rfl⟩, fun h => by cases h⟩

theorem State.updateRoute_last (s : State) : s.updateRoute.chu.lastMap = some s.routeMap := by
  unfold State.updateRoute State.handRouteMap
  dsimp only
  split
  · next same => exact same
  · simp [State.noteMap]

@[simp] theorem State.updateRoute_classes (s : State) :
    s.updateRoute.chu.coins = s.chu.coins ∧ s.updateRoute.chu.bills = s.chu.bills := by
  obtain ⟨_, _, h⟩ := s.updateRoute_frame
  simp [h]

@[simp] theorem State.updateMasks_classes (s : State) :
    s.updateMasks.chu.coins = s.chu.coins ∧ s.updateMasks.chu.bills = s.chu.bills ∧
    s.updateMasks.chu.tubes = s.chu.tubes ∧ s.updateMasks.chu.lastMap = s.chu.lastMap := by
  obtain ⟨_, _, _, h⟩ := s.updateMasks_frame
  simp [h]

/-- Behind the recomputation of the map and the masks the last ones handed are those that stand (R84, R85). -/
theorem State.updateRoute_updateMasks_last (s : State) :
    s.updateRoute.updateMasks.chu.lastMap = some s.updateRoute.updateMasks.routeMap := by
  have route : s.updateRoute.updateMasks.routeMap = s.routeMap :=
    State.routeMap_congr (by simp) (by simp)
  rw [route]
  simpa using s.updateRoute_last

/-- A SETUP reply taken as good. -/
theorem State.setupTaken_records (s : State) (p : Peripheral) (vs : List Nat) :
    (s.pollBegun p).SameExchange (s.setupTaken p vs) ∧
    (p = .bill → (s.setupTaken p vs).chu.bills = writeBillValues s.chu.bills vs ∧
      (s.setupTaken p vs).chu.coins = s.chu.coins) ∧
    (p = .coin → (s.setupTaken p vs).chu.coins.map CoinClass.value =
      (writeCoinValues s.chu.coins vs).map CoinClass.value ∧
      (s.setupTaken p vs).chu.bills = s.chu.bills) := by
  have taken : s.setupTaken p vs = (((s.pollBegun p).setupWritten p vs).updateRoute).updateMasks :=
    State.takeSetup_eq _ p vs
  have classes := (s.pollBegun p).setupWritten_classes p vs
  rw [taken]
  refine ⟨?_, by simpa using classes⟩
  exact ((State.SameExchange.of_cbm ((s.pollBegun p).setupWritten_cbm p vs)).trans
    (State.updateRoute_exchange _)).trans (State.updateMasks_exchange _)

theorem State.setupTaken_last (s : State) (p : Peripheral) (vs : List Nat) :
    (s.setupTaken p vs).chu.lastCoinMask = some (s.setupTaken p vs).coinMask ∧
    (s.setupTaken p vs).chu.lastBillMask = some (s.setupTaken p vs).billMask ∧
    (s.setupTaken p vs).chu.lastMap = some (s.setupTaken p vs).routeMap := by
  have taken : s.setupTaken p vs = (((s.pollBegun p).setupWritten p vs).updateRoute).updateMasks :=
    State.takeSetup_eq _ p vs
  obtain ⟨coin, bill⟩ := ((s.pollBegun p).setupWritten p vs).updateRoute.updateMasks_last
  rw [taken]
  exact ⟨coin, bill, State.updateRoute_updateMasks_last _⟩

theorem exec_setupReply {left : Nat} {got : List (Option Byte)} {o : Outstanding} {chars : List Byte}
    {vs : List Nat} (on : s.power ≠ .off) (out : (s.periph p).outstanding = some o)
    (bus : s.cbm.bus = .awaiting p .setup false left got) (values : setupValuesOf chars = some vs) :
    exec (.setupReply chars) s = .next (s.setupTaken p vs) := by
  rw [exec_of_on (f := fun s => s.replySetup chars) rfl on]
  simp [State.replySetup, bus, out, values]

end Sys2Proof.Machine
end

section
/-! SUPPORT. What a validator tells of its bill in a POLL reply, and by its silence (R31, R37, R121, R124, R127,
R128). -/

namespace Sys2Proof.Machine

variable {s t x : State} {p : Peripheral}

/-! ### A POLL reply taken as good -/

theorem State.pollTaken_exchange (s : State) (p : Peripheral) (es : List BusEvent) :
    (s.pollTaken p es).cbm.bus = .confirming p ∧ ((s.pollTaken p es).periph p).outstanding = none ∧
    ((s.pollTaken p es).periph p).resetExpected = false := by
  have exchange := busEvents_exchange p es (s.pollBegun p)
  rw [State.pollTaken_eq]
  refine ⟨?_, ?_, by simp⟩
  · refine Eq.trans ?_ exchange.bus
    simp [State.editPeriph]
  · simpa using exchange.outstanding p

/-- Events that change nothing leave the frame ended alone (R116). -/
theorem State.pollTaken_quiet {es : List BusEvent} (quiet : busEvents p es (s.pollBegun p) = s.pollBegun p) :
    s.pollTaken p es = { s with
      cbm := { (s.cbm.set p { s.periph p with outstanding := none, resetExpected := false }) with
        bus := .confirming p } } := by
  rw [State.pollTaken_eq, quiet]
  cases p <;> rfl

theorem exec_pollReply_bad {left : Nat} {got : List (Option Byte)} {o : Outstanding} {chars : List Byte}
    (on : s.power ≠ .off) (out : (s.periph p).outstanding = some o)
    (bus : s.cbm.bus = .awaiting p .poll false left got) (bad : pollEventsOf chars = none) :
    exec (.pollReply chars) s = exec .badReply s := by
  rw [exec_of_on (f := fun s => s.replyPoll chars) rfl on, exec_of_on (c := .badReply) (f := State.replyFails) rfl on]
  simp [State.replyPoll, bus, out, bad]

theorem exec_setupReply_bad {left : Nat} {got : List (Option Byte)} {o : Outstanding} {chars : List Byte}
    (on : s.power ≠ .off) (out : (s.periph p).outstanding = some o)
    (bus : s.cbm.bus = .awaiting p .setup false left got) (bad : setupValuesOf chars = none) :
    exec (.setupReply chars) s = exec .badReply s := by
  rw [exec_of_on (f := fun s => s.replySetup chars) rfl on,
    exec_of_on (c := .badReply) (f := State.replyFails) rfl on]
  simp [State.replySetup, bus, out, bad]

/-! ### An event that tells of a bill -/

/-- The session, the table, the drive work and the totals are the same. -/
structure State.SameSession (s x : State) : Prop where
  sesc : x.sesc = s.sesc
  selt : x.selt = s.selt
  sdc : x.sdc = s.sdc
  totals : x.chu.totals = s.chu.totals

/-- The event's own work leaves `x`, and the loss handed to SESC the rest: what a reply with that event alone
leaves of the peripheral's record. -/
theorem State.pollTaken_slots {e : BusEvent} (only : x.SessionOnly ((s.pollBegun p).busEvent p e)) :
    ((s.pollTaken p [e]).periph p).link = (x.periph p).link ∧
    ((s.pollTaken p [e]).periph p).pending.escrow = (x.periph p).pending.escrow ∧
    ((s.pollTaken p [e]).periph p).stackWatch = (x.periph p).stackWatch ∧
    ((s.pollTaken p [e]).periph p).lastFault = (x.periph p).lastFault := by
  obtain ⟨-, -, -, -, cbm, -⟩ := only.unchanged
  have record : ((s.pollBegun p).busEvent p e).periph p = x.periph p := by simp only [State.periph, cbm]
  rw [State.pollTaken_single, State.editPeriph_periph]
  simp only [State.pollDone, State.closeEvent_slots, record, and_self]

/-- What it leaves beside the session. -/
theorem State.pollTaken_beside {e : BusEvent} (only : x.SessionOnly ((s.pollBegun p).busEvent p e))
    (same : s.SameSession x) : (s.pollTaken p [e]).chu.totals = s.chu.totals ∧
    (s.pollTaken p [e]).selt = s.selt ∧ (s.pollTaken p [e]).sdc.list = s.sdc.list := by
  obtain ⟨-, selt, sdc, chu, -⟩ := only.unchanged
  rw [State.pollTaken_single]
  simp only [State.pollDone, State.editPeriph_chu, State.editPeriph_selt, State.editPeriph_sdc,
    State.closeEvent_unchanged, selt, sdc, chu]
  exact ⟨same.totals, same.selt, by rw [same.sdc]⟩

/-- A notice of the event but SESSION stands behind the reply. -/
theorem State.notes.pollTaken {e : BusEvent} {m : Notice} (h : ((s.pollBegun p).busEvent p e).notes m)
    (ne : (Notice.session .idle 0 0).kindNo ≠ m.kindNo) : (s.pollTaken p [e]).notes m :=
  h.closeEvent s.sesc ne

/-- The loss that the event tells of stands behind the reply. -/
theorem State.BillGone.pollTaken {e : BusEvent} {why : BillReason}
    (h : x.BillGone ((s.pollBegun p).busEvent p e) why) (same : x.sesc = s.sesc) :
    s.BillGone (s.pollTaken p [e]) why :=
  ((h.closeEvent s.sesc).of_sesc same).kept rfl fun _ _ held => held

/-- A failed stack, spelled out. -/
theorem State.StackLost.spelled {why : BillReason} (h : s.StackLost t why) :
    t.sesc.escrow = none ∧ t.sesc.pendingVend = none ∧ t.sesc.credit = s.sesc.credit ∧
    t.sesc.phase = (if s.sesc.credit = 0 then .idle else .cashCredit) ∧
    (∃ r, (Notice.bill why, r) ∈ t.hli.notices) ∧
    ∀ v, s.sesc.pendingVend = some v →
      ∃ r, (Notice.vendOutcome v.code v.index .escrowFault 0, r) ∈ t.hli.notices :=
  ⟨h.escrow, h.pendingVend, h.credit, h.phase, h.bill, h.outcome⟩

theorem State.EscrowLost.spelled {why : BillReason} (h : s.EscrowLost t why) :
    t.sesc.escrow = none ∧ t.sesc.credit = s.sesc.credit ∧
    t.sesc.phase = (if s.sesc.credit = 0 then .idle else .cashCredit) ∧
    ∃ r, (Notice.bill why, r) ∈ t.hli.notices :=
  ⟨h.escrow, h.credit, h.phase, h.bill⟩

/-! ### BILL_RETURNED, DEVICE_FAULT and JUST_RESET (R31, R37, R127, R128) -/

theorem State.billReturned_told (s : State) : let t := s.pollTaken .bill [.billReturned]
    s.BillGone t .validatorReturned ∧ (t.periph .bill).stackWatch = none ∧
    t.chu.totals = s.chu.totals ∧ t.selt = s.selt ∧ t.sdc.list = s.sdc.list := by
  have only := (s.pollBegun .bill).stopWatch.billGone_only .validatorReturned
  obtain ⟨-, -, watch, -⟩ := State.pollTaken_slots (s := s) (p := .bill) (e := .billReturned) only
  exact ⟨State.BillGone.pollTaken (e := .billReturned)
      ((s.pollBegun .bill).stopWatch.billGone_gone .validatorReturned) rfl,
    watch.trans (by simp [State.stopWatch]),
    State.pollTaken_beside (e := .billReturned) only ⟨rfl, rfl, rfl, rfl⟩⟩

/-- What a fault leaves of the session: of the bill validator a stack under way fails (R37, R128). -/
theorem State.deviceFault_session (s : State) (p : Peripheral) (code : Nat) :
    (p = .bill → s.sesc.phase = .stacking → s.StackLost (s.deviceFault p code) .validatorLost) ∧
    (p = .coin ∨ s.sesc.phase ≠ .stacking → (s.deviceFault p code).sesc = s.sesc) ∧
    (s.deviceFault p code).notes (.peripheral p true code) := by
  have raised : (s.faulted p code).notes (.peripheral p true code) := State.raise_notes _ _
  cases p with
  | coin => exact ⟨(fun h => by cases h), fun _ => rfl, raised⟩
  | bill =>
    rw [State.deviceFault_bill]
    by_cases phase : s.sesc.phase = .stacking
    · have told : (s.faulted .bill code).stackFails .validatorLost =
          (s.faulted .bill code).billGone .validatorLost := (if_pos phase).symm
      rw [if_pos phase]
      refine ⟨fun _ _ => ((s.faulted .bill code).stackFails_lost .validatorLost).of_sesc rfl, fun h => ?_, ?_⟩
      · rcases h with h | h
        · cases h
        · exact absurd phase h
      · rw [told]
        exact raised.billGone .validatorLost (by simp [Notice.kindNo]) (by simp [Notice.kindNo])
    · rw [if_neg phase]
      exact ⟨fun _ h => absurd h phase, fun _ => rfl, raised⟩

theorem State.deviceFault_told (s : State) (p : Peripheral) (code : Nat) :
    let t := s.pollTaken p [.deviceFault code]
    (t.periph p).lastFault = code ∧ (t.periph p).stackWatch = none ∧ (t.periph p).link = (s.periph p).link ∧
    t.notes (.peripheral p true code) ∧
    (p = .bill → s.sesc.phase = .stacking → s.StackLost t .validatorLost) ∧
    (p = .coin ∨ s.sesc.phase ≠ .stacking → t.sesc = s.sesc) ∧
    t.chu.totals = s.chu.totals ∧ t.selt = s.selt ∧ t.sdc.list = s.sdc.list := by
  intro t
  have only := (s.pollBegun p).deviceFault_only p code
  obtain ⟨lost, calm, raised⟩ := (s.pollBegun p).deviceFault_session p code
  obtain ⟨link, -, watch, fault⟩ := State.pollTaken_slots (s := s) (p := p) (e := .deviceFault code) only
  have record : ((s.pollBegun p).faulted p code).periph p =
      { s.periph p with outstanding := none, lastFault := code, stackWatch := none } := by
    simp [State.faulted]
  rw [record] at link watch fault
  have done : t.sesc = ((s.pollBegun p).deviceFault p code).sesc := by
    obtain ⟨-, -, -, -, sesc, -⟩ := State.closeEvent_unchanged ((s.pollBegun p).deviceFault p code) s.sesc
    exact sesc
  refine ⟨fault, watch, link, State.notes.pollTaken (e := .deviceFault code) raised (by simp [Notice.kindNo]),
    fun bill phase => ?_, fun h => done.trans (calm h),
    State.pollTaken_beside (e := .deviceFault code) only ⟨rfl, rfl, rfl, rfl⟩⟩
  exact ((lost bill phase).of_sesc (t := s) rfl).kept done fun _ ne held =>
    State.notes.pollTaken (e := .deviceFault code) held ne

theorem State.restarted_unchanged (s : State) (p : Peripheral) : s.SameSession (s.restarted p) :=
  ⟨by simp [State.restarted], by simp [State.restarted], by simp [State.restarted], by simp [State.restarted]⟩

theorem State.restarted_queued (s : State) (p : Peripheral) : (s.restarted p).SetUpQueued p := by
  have queued := (State.queueSetup_queued (s.editPending p fun q => { q with escrow := none }) p).editPeriph
    (f := fun r => { r with stackWatch := none }) rfl
  exact ⟨queued.setup, queued.mask, queued.route⟩

/-- What an unasked restart leaves (R127). -/
theorem State.justReset_told (s : State) (p : Peripheral) (unasked : (s.periph p).resetExpected = false)
    (online : (s.periph p).link = .online) :
    let t := s.pollTaken p [.justReset]
    t.SetUpQueued p ∧ (t.periph p).pending.escrow = none ∧ (t.periph p).stackWatch = none ∧
    t.notes (.peripheral p true 0) ∧ (p = .coin → t.sesc = s.sesc) ∧
    (p = .bill → s.BillGone t .validatorLost) ∧
    t.chu.totals = s.chu.totals ∧ t.selt = s.selt ∧ t.sdc.list = s.sdc.list := by
  intro t
  have began : ((s.pollBegun p).periph p).resetExpected = false := by simpa using unasked
  have event : (s.pollBegun p).busEvent p .justReset = ((s.pollBegun p).restarted p).validatorGone p :=
    State.justReset_of_unasked began
  have only : ((s.pollBegun p).restarted p).SessionOnly ((s.pollBegun p).busEvent p .justReset) := by
    rw [event]
    exact State.validatorGone_only _ p
  have same : s.SameSession ((s.pollBegun p).restarted p) := by
    obtain ⟨sesc, selt, sdc, totals⟩ := (s.pollBegun p).restarted_unchanged p
    exact ⟨sesc, selt, sdc, totals⟩
  obtain ⟨-, escrow, watch, -⟩ := State.pollTaken_slots only
  have queued : t.SetUpQueued p := by
    have closed := ((s.pollBegun p).restarted_queued p).closes
      (by simpa [State.restarted, State.editPending] using online) only
    rw [same.sesc] at closed
    exact closed.editPeriph (f := fun r => { r with resetExpected := false }) rfl
  refine ⟨queued, escrow.trans ?_, watch.trans ?_, ?_, fun coin => ?_, fun bill => ?_,
    State.pollTaken_beside only same⟩
  · simp [State.restarted, State.editPending, State.setUpSlots]
  · simp [State.restarted]
  · refine State.notes.pollTaken (e := .justReset) ?_ (by simp [Notice.kindNo])
    rw [event]
    exact State.notes_validatorGone _ p p true 0
  · subst coin
    obtain ⟨-, -, -, -, sesc, -⟩ := State.closeEvent_unchanged ((s.pollBegun .coin).busEvent .coin .justReset) s.sesc
    refine Eq.trans sesc ?_
    rw [event]
    exact same.sesc
  · subst bill
    refine State.BillGone.pollTaken (x := (s.pollBegun .bill).restarted .bill) ?_ same.sesc
    rw [event]
    exact State.billGone_gone _ .validatorLost

/-! ### The stack watch (R121, R124) -/

theorem exec_stackWatchExpiry {d : Nat} (on : s.power ≠ .off) (runs : (s.periph .bill).stackWatch = some d) :
    exec .stackWatchExpiry s = .next (((s.elapse d).goOffline .bill).closeEvent s.sesc) :=
  exec_of_event rfl on (by simp only [runs, State.expire])

/-- What the expiry of the stack watch leaves (R121, R124). -/
theorem State.stackWatch_told (s : State) (d : Nat) :
    let t := ((s.elapse d).goOffline .bill).closeEvent s.sesc
    t.periph .bill = ((s.elapse d).periph .bill).gone ∧ t.notes (.peripheral .bill false 0) ∧
    (s.elapse d).BillGone t .validatorLost ∧
    t.chu.totals = s.chu.totals ∧ t.selt = s.selt ∧ t.sdc.list = s.sdc.list := by
  obtain ⟨-, selt, sdc, chu, -⟩ := (((s.elapse d).offline .bill).validatorGone_only .bill).unchanged
  have gone := ((s.elapse d).offline .bill).billGone_gone .validatorLost
  have record := (s.elapse d).goOffline_periph .bill
  refine ⟨?_, ?_, (gone.closeEvent s.sesc).of_sesc rfl, ?_⟩
  · exact (State.closeEvent_periph_of_link (by rw [record]; simp [PeriphRec.gone]) _).trans record
  · exact State.notes.closeEvent (State.notes_validatorGone _ .bill .bill false 0) _ (by simp [Notice.kindNo])
  · simp only [State.goOffline_eq, State.closeEvent_unchanged, selt, sdc, chu]
    exact ⟨rfl, rfl, rfl⟩

/-- Settles O40: SETUP and POLL replies by their judgment, the events that tell of a bill (`billReturned_told`,
`deviceFault_told`, `justReset_told`), and the stack watch. -/
theorem repliesTaken : Obligations.RepliesTaken := by
  refine ⟨fun s p left got o chars on out => ⟨fun bus => ⟨fun vs values => ?_, exec_setupReply_bad on out bus⟩,
    fun bus => ⟨fun events => ?_, fun es events => ?_, exec_pollReply_bad on out bus⟩⟩, ?_⟩
  · obtain ⟨exchange, bills, coins⟩ := s.setupTaken_records p vs
    obtain ⟨sesc, totals, -⟩ := s.setupTaken_still p vs
    obtain ⟨coinMask, billMask, route⟩ := s.setupTaken_last p vs
    exact ⟨_, exec_setupReply on out bus values, exchange.bus, (exchange.outstanding p).trans (by simp), bills, coins,
      coinMask, billMask, route, sesc, totals⟩
  · rw [exec_pollReply on out bus events, State.pollTaken_quiet rfl]
  · obtain ⟨confirming, ended, expected⟩ := s.pollTaken_exchange p es
    exact ⟨_, exec_pollReply on out bus events, rfl, confirming, ended, expected⟩
  intro stackLost escrowLost kept
  have freed {s t : State} {why : BillReason} (gone : s.BillGone t why) (totals : t.chu.totals = s.chu.totals)
      (selt : t.selt = s.selt) (list : t.sdc.list = s.sdc.list) : kept s t :=
    ⟨totals, selt, list, fun phase free => by rw [gone.free phase free]⟩
  refine ⟨fun s p left got o chars on out bus => ⟨fun bill events => ?_, fun code events => ?_, fun events => ?_⟩,
    fun s d on runs => ?_⟩
  · subst bill
    obtain ⟨gone, watch, totals, selt, list⟩ := s.billReturned_told
    exact ⟨_, exec_pollReply on out bus events, watch, fun phase => (gone.stack phase).spelled,
      fun phase held => (gone.held phase held).spelled, freed gone totals selt list⟩
  · obtain ⟨fault, watch, link, raised, lost, calm, totals, selt, list⟩ := s.deviceFault_told p code
    exact ⟨_, exec_pollReply on out bus events, fault, watch, link, raised,
      fun bill phase => (lost bill phase).spelled, calm, totals, selt, list,
      fun phase _ => by rw [calm (.inr phase)]⟩
  · refine ⟨fun expected => ?_, fun unasked online => ?_⟩
    · have began : ((s.pollBegun p).periph p).resetExpected = true := by simpa using expected
      have quiet : busEvents p [.justReset] (s.pollBegun p) = s.pollBegun p :=
        (congrArg (fun x : State => x.closeEvent s.sesc) (State.justReset_of_expected began)).trans
          (State.closeEvent_of_view _ rfl)
      rw [exec_pollReply on out bus events, State.pollTaken_quiet quiet]
    · obtain ⟨⟨setup, mask, route⟩, escrow, watch, raised, calm, gone, totals, selt, list⟩ :=
        s.justReset_told p unasked online
      refine ⟨_, exec_pollReply on out bus events, setup, mask.2, escrow, watch,
        fun coin => ⟨route coin, calm coin⟩, raised, fun bill => ⟨fun phase => ((gone bill).stack phase).spelled,
          fun phase held => ((gone bill).held phase held).spelled⟩, totals, selt, list, fun phase free => ?_⟩
      cases p with
      | coin => rw [calm rfl]
      | bill => rw [(gone rfl).free phase free]
  · obtain ⟨record, raised, gone, totals, selt, list⟩ := s.stackWatch_told d
    refine ⟨_, exec_stackWatchExpiry on runs, ?_, ?_, ?_, ?_, raised, fun phase => (gone.stack phase).spelled,
      fun phase held => (gone.held phase held).spelled, totals, selt, list,
      fun phase free => by rw [gone.free phase free]; rfl⟩
    all_goals
      rw [record]
      rfl

end Sys2Proof.Machine
end

section
/-! SUPPORT. The settings by their numbers: ranges, reading and writing (R196). -/

namespace Sys2Proof.Machine

/-! ### Ranges -/

theorem clampInt_eq {lo hi : Int} (h : lo ≤ hi) (v : Int) : clampInt lo hi v = max lo (min hi v) := by
  unfold clampInt
  split
  · omega
  · split <;> omega

theorem settingRange_le (num : Nat) : (settingRange num).1 ≤ (settingRange num).2 := by
  unfold settingRange
  split <;> decide

/-- Off the gap of the inactivity time a value is clamped to its range alone. -/
theorem settingClamp_of_no_gap {num : Nat} {v : Int} (h : num ≠ 0x02 ∨ v ≤ 0 ∨ 10 ≤ v) :
    settingClamp num v = max (settingRange num).1 (min (settingRange num).2 v) := by
  rw [← clampInt_eq (settingRange_le num)]
  refine if_neg fun gap => ?_
  simp only [Bool.and_eq_true, decide_eq_true_eq, inRange_iff] at gap
  obtain ⟨two, low, high⟩ := gap
  rcases h with h | h | h
  · exact h two
  · omega
  · omega

theorem settingClamp_gap {v : Int} (low : 1 ≤ v) (high : v ≤ 9) : settingClamp 0x02 v = 10 :=
  if_pos (by simp [inRange_iff, low, high])

/-- A clamped value lies in the range. -/
theorem settingClamp_bounds (num : Nat) (v : Int) :
    (settingRange num).1 ≤ settingClamp num v ∧ settingClamp num v ≤ (settingRange num).2 := by
  by_cases gap : num ≠ 0x02 ∨ v ≤ 0 ∨ 10 ≤ v
  · have le := settingRange_le num
    rw [settingClamp_of_no_gap gap]
    omega
  · obtain ⟨rfl, low, high⟩ : num = 0x02 ∧ 1 ≤ v ∧ v ≤ 9 := by omega
    rw [settingClamp_gap low high]
    decide

/-! ### Reading what was written -/

theorem flag_read {w : Int} (low : 0 ≤ w) (high : w ≤ 1) : (if w = 0 then 0 else 1 : Int) = w := by
  obtain rfl | rfl : w = 0 ∨ w = 1 := by omega
  · rfl
  · rfl

theorem priority_read {w : Int} (low : 0 ≤ w) (high : w ≤ 1) : (priorityOf w).value = w := by
  obtain rfl | rfl : w = 0 ∨ w = 1 := by omega
  · rfl
  · rfl

/-- A value in its setting's range is read back (R196). -/
theorem Settings.read_write_self (c : Settings) {num : Nat} {w old : Int} (known : c.read num = some old)
    (low : (settingRange num).1 ≤ w) (high : w ≤ (settingRange num).2) :
    (c.write num w).read num = some w := by
  unfold Settings.read at known
  split at known
  case h_32 => cases known
  all_goals
    simp only [settingRange] at low high
    simp (disch := omega) [Settings.write, Settings.read, flag_read, priority_read]

/-- The settings as a list of numbers and values (R196). -/
def Settings.table (c : Settings) : List (Nat × Int) :=
  [(0x01, c.maxCredit), (0x02, c.inactivityTime), (0x03, if c.multiVend then 1 else 0),
    (0x04, if c.failover then 1 else 0), (0x05, if c.billTest then 1 else 0), (0x10, c.extraTurns),
    (0x11, c.settleWindow), (0x12, c.overcurrent), (0x13, c.openThreshold), (0x20, c.coinLimit),
    (0x30, c.budget), (0x31, c.promoteTime), (0x32, c.spiralWeight), (0x33, c.payoutWeight),
    (0x34, c.startWeight), (0x35, c.runWeight), (0x36, c.defrostWeight), (0x37, c.damperWeight),
    (0x38, c.spiralPriority.value), (0x39, c.payoutPriority.value), (0x3A, c.compressorPriority.value),
    (0x3B, c.defrostPriority.value), (0x3C, c.damperPriority.value), (0x40, c.minOff), (0x41, c.minRun),
    (0x42, c.maxRun), (0x43, c.cutout), (0x44, c.defrostInterval), (0x45, c.termination),
    (0x46, c.heaterLimit), (0x47, c.dripTime)]

theorem Settings.read_eq (c : Settings) (k : Nat) : c.read k = c.table.lookup k := by
  unfold Settings.read
  split
  case h_32 => exact (List.lookup_eq_none_iff.2 (by simp_all [Settings.table])).symm
  all_goals rfl

/-- The known numbers. -/
theorem Settings.read_isSome_iff (c : Settings) (k : Nat) :
    (c.read k).isSome = true ↔ k ∈ c.table.map Prod.fst := by
  rw [Settings.read_eq, List.lookup_isSome_iff]
  simp

/-- A write changes the value of its number alone. -/
theorem Settings.table_write (c : Settings) (num : Nat) (w : Int) : (c.write num w).table =
    c.table.map fun e => if e.1 = num then (e.1, ((c.write num w).read num).getD 0) else e := by
  unfold Settings.write
  split
  case h_32 =>
    refine (List.map_id _).symm.trans (List.map_congr_left fun e he => (if_neg fun h => ?_).symm)
    have listed : num ∈ c.table.map Prod.fst := h ▸ List.mem_map_of_mem he
    simp_all [Settings.table]
  all_goals rfl

theorem lookup_map_of_ne {num k : Nat} (ne : k ≠ num) (x : Int) (l : List (Nat × Int)) :
    (l.map fun e => if e.1 = num then (e.1, x) else e).lookup k = l.lookup k := by
  induction l with
  | nil => rfl
  | cons e rest ih =>
    obtain ⟨n, v⟩ := e
    by_cases here : n = num
    · have off : (k == n) = false := by simpa [here] using ne
      simp [List.lookup_cons, here ▸ off, here, ih]
    · simp [List.lookup_cons, here, ih]

theorem Settings.read_write_ne (c : Settings) {num k : Nat} (w : Int) (ne : k ≠ num) :
    (c.write num w).read k = c.read k := by
  rw [Settings.read_eq, Settings.table_write, lookup_map_of_ne ne, ← Settings.read_eq]

end Sys2Proof.Machine
end

section
/-! SUPPORT. What a grant pass leaves of the budget, of a waiting load and of a compressor that is off, and what RFC
makes of its times (R142, R143, R179, R181, R183, R185, R186). -/

namespace Sys2Proof.Machine

variable {s t u : State}

/-! ### The pass and the budget (R142, R143) -/

/-- A grant of a load that waits raises the sum held by its weight. -/
theorem Loads.sumHeld_set_granted {ls : Loads} {l : Load} (w : Nat) (h : (ls.get l).isGranted = false) :
    (ls.set l (.granted w)).sumHeld = ls.sumHeld + w := by
  have none := LoadRec.held_eq_zero_of_not_granted h
  cases l <;> simp only [Loads.get] at none <;> simp only [Loads.sumHeld, Loads.set, LoadRec.held] at none ⊢ <;> omega

/-- A walk grants no more than the remaining budget (R142). -/
theorem grantWalk_sumHeld (order : List Load) (remaining : Nat) (ls : Loads) :
    (grantWalk order remaining ls).sumHeld ≤ ls.sumHeld + remaining := by
  induction order generalizing remaining ls with
  | nil => exact Nat.le_add_right _ _
  | cons l order ih =>
    simp only [grantWalk]
    split
    · next w t p waits =>
      split
      · next fits =>
        have le := ih (remaining - w) (ls.set l (.granted w))
        rw [Loads.sumHeld_set_granted w (by rw [waits]; rfl)] at le
        omega
      · split
        · exact Nat.le_add_right _ _
        · exact ih remaining ls
    · exact ih remaining ls

theorem State.revokeDefrost_of_within (within : s.overBudget = false) : s.revokeDefrost = s := by
  unfold State.revokeDefrost
  split
  · simp [within]
  · rfl

theorem State.revokeCompressor_of_within (within : s.overBudget = false) : s.revokeCompressor = s := by
  unfold State.revokeCompressor
  split
  · simp [within]
  · rfl

/-- Over the budget a revocation leaves no grant of its load (R143). -/
theorem State.revokeDefrost_over (high : s.overBudget = true) :
    (s.revokeDefrost.load .defrost).isGranted = false := by
  unfold State.revokeDefrost
  split
  · simp [high, State.load, State.setLoad, LoadRec.isGranted, Loads.get, Loads.set]
  · next h =>
    cases e : s.load .defrost with
    | granted w => exact absurd e (h w)
    | none => rfl
    | waiting w t p => rfl

theorem State.revokeCompressor_over (high : s.overBudget = true) :
    (s.revokeCompressor.load .compressor).isGranted = false := by
  unfold State.revokeCompressor
  split
  · simp only [high, if_true]
    split
    · rfl
    · split <;> rfl
  · next h =>
    cases e : s.load .compressor with
    | granted w => exact absurd e (h w)
    | none => rfl
    | waiting w t p => rfl

/-- A pass that ends over the budget has revoked COMPRESSOR and DEFROST. -/
theorem State.revocations_over (high : s.revokeDefrost.revokeCompressor.overBudget = true) :
    (s.revokeDefrost.revokeCompressor.load .compressor).isGranted = false ∧
    (s.revokeDefrost.revokeCompressor.load .defrost).isGranted = false := by
  have second : s.revokeDefrost.overBudget = true := by
    by_contra within
    rw [State.revokeCompressor_of_within (by simpa using within)] at high
    exact within high
  have first : s.overBudget = true := by
    by_contra within
    rw [State.revokeDefrost_of_within (by simpa using within)] at second
    exact within second
  refine ⟨State.revokeCompressor_over second, ?_⟩
  rcases s.revokeDefrost.revokeCompressor_load .defrost with same | ⟨other, -⟩
  · rw [same]
    exact State.revokeDefrost_over first
  · cases other

/-- A pass leaves the sum held within the effective budget, or no grant to revoke (R142, R143). -/
theorem State.grantPass_budget (s : State) : BudgetLaw s.grantPass := by
  simp only [State.grantPass]
  split
  · next high => exact .inr (State.revocations_over high)
  · next within =>
    refine .inl ?_
    have held : s.revokeDefrost.revokeCompressor.sumHeld ≤ s.revokeDefrost.revokeCompressor.budget :=
      Nat.not_lt.1 fun high => within (decide_eq_true high)
    exact (grantWalk_sumHeld _ _ _).trans (Nat.add_sub_of_le held).le

/-- A waiting load is granted by a pass, or waits on as it waited (R142). -/
theorem State.grantPass_load_of_waiting {l : Load} {w x : Nat} {p : Bool} (h : s.load l = .waiting w x p) :
    s.grantPass.load l = .granted w ∨ s.grantPass.load l = .waiting w x p := by
  have first : s.revokeDefrost.load l = .waiting w x p := by
    rcases s.revokeDefrost_load l with k | ⟨-, -, k, -⟩
    · rw [k, h]
    · rw [h] at k; cases k
  have second : s.revokeDefrost.revokeCompressor.load l = .waiting w x p := by
    rcases s.revokeDefrost.revokeCompressor_load l with k | ⟨-, -, k, -⟩
    · rw [k, first]
    · rw [first] at k; cases k
  rcases s.grantPass_load_revoked l with k | ⟨w', x', p', k, -, granted⟩
  · exact .inr (by rw [k, second])
  · rw [second] at k
    cases k
    exact .inl granted

/-! ### Steps that LBA and RFC alone take -/

/-- From `s` to `t` nothing has changed but LBA, RFC and the defrost allowance of ZTC. -/
def State.Draws (s t : State) : Prop := t = { s with lba := t.lba, rfc := t.rfc, ztc := t.ztc }

theorem State.Draws.refl (s : State) : s.Draws s := rfl

theorem State.Draws.trans (h : s.Draws t) (k : t.Draws u) : s.Draws u :=
  Eq.trans k (congrArg (fun x : State => { x with lba := u.lba, rfc := u.rfc, ztc := u.ztc }) h)

theorem State.Draws.unchanged (h : s.Draws t) : t.settings = s.settings ∧ t.selt = s.selt ∧ t.sesc = s.sesc ∧
    t.sdc = s.sdc ∧ t.msc = s.msc ∧ t.hli = s.hli ∧ t.rst = s.rst := by
  rw [State.Draws] at h
  rw [h]
  exact ⟨rfl, rfl, rfl, rfl, rfl, rfl, rfl⟩

theorem State.grantPass_draws (s : State) : s.Draws s.grantPass := by
  obtain ⟨_, _, _, h⟩ := s.grantPass_frame
  rw [h]
  rfl

theorem State.stopCompressor_draws (s : State) : s.Draws s.stopCompressor := by
  obtain ⟨_, _, _, h⟩ := s.stopCompressor_frame
  rw [h]
  rfl

theorem State.enterDefrost_draws (s : State) : s.Draws s.enterDefrost := by
  obtain ⟨_, _, _, h⟩ := s.enterDefrost_frame
  rw [h]
  rfl

theorem State.enterWaitPower_draws (s : State) : s.Draws s.enterWaitPower := by
  obtain ⟨_, _, _, h⟩ := s.enterWaitPower_frame
  rw [h]
  rfl

theorem State.leaveWaitPower_draws (s : State) (x : RfcState) : s.Draws (s.leaveWaitPower x) := by
  obtain ⟨_, _, _, h⟩ := s.leaveWaitPower_frame x
  rw [h]
  rfl

theorem State.setRfc_draws (s : State) (x : RfcState) : s.Draws (s.setRfc x) := rfl

theorem State.enterReady_draws (s : State) : s.Draws s.enterReady := by
  obtain ⟨_, _, _, h⟩ := (s.setRfc .ready).readyCheck_frame
  rw [State.enterReady, h]
  rfl

theorem State.defrostDue_draws (s : State) : s.Draws s.defrostDue := by
  unfold State.defrostDue
  split
  · exact s.stopCompressor_draws.trans (State.enterDefrost_draws _)
  · exact s.stopCompressor_draws.trans (State.enterDefrost_draws _)
  · exact s.enterDefrost_draws
  · exact (s.leaveWaitPower_draws .lockout).trans (State.enterDefrost_draws _)
  · exact rfl
  · exact .refl s
  · exact .refl s

theorem State.lockoutEnds_draws (s : State) : s.Draws s.lockoutEnds := by
  unfold State.lockoutEnds
  split
  · exact s.enterDefrost_draws
  · split
    · exact s.enterWaitPower_draws
    · exact s.setRfc_draws .ready

theorem State.dripEnds_draws (s : State) : s.Draws s.dripEnds := by
  have opened : s.Draws { s with rfc := { s.rfc with recovery := some recoveryMs } } := rfl
  unfold State.dripEnds
  dsimp only
  split
  · exact opened.trans (State.setRfc_draws _ .lockout)
  · exact opened.trans (State.enterReady_draws _)

theorem State.endDefrost_draws (s : State) : s.Draws s.endDefrost := by
  have given : s.Draws (State.release { s with rfc := { s.rfc with
      state := .drip, heaterOn := false, dripTime := 0 } } .defrost) := by
    obtain ⟨_, _, _, h⟩ := State.release_frame { s with rfc := { s.rfc with
      state := .drip, heaterOn := false, dripTime := 0 } } .defrost
    rw [h]
    rfl
  unfold State.endDefrost
  dsimp only
  split
  · exact given.trans (State.dripEnds_draws _)
  · exact given

theorem State.rfcSettingWritten_draws (s : State) (num : Nat) : s.Draws (s.rfcSettingWritten num) := by
  unfold State.rfcSettingWritten
  split
  · split
    · split
      · exact s.lockoutEnds_draws
      · exact .refl s
    · split
      · exact s.setRfc_draws .lockout
      · exact .refl s
    · split
      · exact s.leaveWaitPower_draws .lockout
      · exact .refl s
    · exact .refl s
  · split
    · exact s.stopCompressor_draws
    · exact .refl s
  · split
    · exact s.defrostDue_draws
    · exact .refl s
  · split
    · exact s.defrostDue_draws
    · exact .refl s
  · split
    · exact s.endDefrost_draws
    · exact .refl s
  · split
    · exact s.dripEnds_draws
    · exact .refl s
  · exact .refl s

/-! ### A compressor that is off through a pass (R143, R182) -/

/-- From `x` to `y` RFC keeps its state, its recovery window and a pending defrost, and puts no heater on. -/
structure Rfc.Kept (x y : Rfc) : Prop where
  state : y.state = x.state
  recovery : y.recovery = x.recovery
  heater : x.heaterOn = false → y.heaterOn = false

theorem Rfc.Kept.refl (x : Rfc) : x.Kept x := ⟨rfl, rfl, id⟩

theorem State.revokeCompressor_off (off : s.rfc.state.compressorOn = false) :
    s.revokeCompressor.rfc = s.rfc := by
  unfold State.revokeCompressor
  split
  · simp only [off]
    split
    · split
      · next on => cases on
      · split <;> rfl
    · rfl
  · rfl

/-- A pass leaves an RFC whose compressor is off, but for a heater that goes off. -/
theorem State.grantPass_off (off : s.rfc.state.compressorOn = false) : s.rfc.Kept s.grantPass.rfc := by
  rw [State.grantPass_rfc]
  rcases s.revokeDefrost_rfc with same | cold
  · rw [State.revokeCompressor_off (by rw [same]; exact off), same]
    exact .refl _
  · rw [State.revokeCompressor_off (by rw [cold]; exact off), cold]
    exact ⟨rfl, rfl, fun _ => rfl⟩

theorem State.request_off (off : s.rfc.state.compressorOn = false) (l : Load) (w : Nat) :
    s.rfc.Kept (s.request l w).rfc := by
  unfold State.request
  split
  · exact State.grantPass_off (s := s.setLoad l _) off
  · exact State.grantPass_off (s := s.setLoad l _) off
  · exact .refl _

theorem State.release_off (off : s.rfc.state.compressorOn = false) (l : Load) :
    s.rfc.Kept (s.release l).rfc := by
  unfold State.release
  split
  · exact .refl _
  · exact State.grantPass_off (s := s.setLoad l _) off

/-! ### The states RFC enters (R179 to R186) -/

theorem State.stopCompressor_state (s : State) : s.stopCompressor.rfc.state = .lockout :=
  (State.release_off (s := { s with rfc := { s.rfc with state := .lockout, offTime := 0, startWindow := none } })
    rfl .compressor).state

theorem State.enterDefrost_state (s : State) : s.enterDefrost.rfc.state = .defrost :=
  (State.request_off (s := { s with
    rfc := { s.rfc with
      state := .defrost, accumulator := 0, defrostPending := false, wallTime := 0, heaterTime := 0,
      recovery := none, heaterOn := false }
    ztc := { s.ztc with allowance := true } }) rfl .defrost s.settings.defrostWeight).state

theorem State.leaveWaitPower_state (s : State) {x : RfcState} (off : x.compressorOn = false) :
    (s.leaveWaitPower x).rfc.state = x :=
  (State.release_off (s := s.setRfc x) off .compressor).state

theorem State.enterWaitPower_state (s : State) : s.enterWaitPower.rfc.state = .waitPower ∧
    s.enterWaitPower.rfc.recovery = s.rfc.recovery ∧
    (s.rfc.heaterOn = false → s.enterWaitPower.rfc.heaterOn = false) :=
  have kept := State.request_off (s := s.setRfc .waitPower) rfl .compressor s.settings.startWeight
  ⟨kept.state, kept.recovery, kept.heater⟩

/-- READY is entered, or WAIT_POWER behind it (R179). -/
theorem State.enterReady_state (s : State) :
    (s.enterReady.rfc.state = .ready ∨ s.enterReady.rfc.state = .waitPower) ∧
    s.enterReady.rfc.recovery = s.rfc.recovery ∧
    (s.rfc.heaterOn = false → s.enterReady.rfc.heaterOn = false) := by
  unfold State.enterReady State.readyCheck
  split
  · obtain ⟨state, recovery, heater⟩ := (s.setRfc .ready).enterWaitPower_state
    exact ⟨.inr state, recovery, heater⟩
  · exact ⟨.inl rfl, rfl, id⟩

/-- A defrost that is due is entered, or pends in LOCKOUT (R183). -/
theorem State.defrostDue_state (s : State) :
    (s.rfc.state = .lockout → s.defrostDue.rfc.defrostPending = true) ∧
    (s.rfc.state ≠ .lockout → s.rfc.state ≠ .drip → s.defrostDue.rfc.state = .defrost) := by
  cases state : s.rfc.state <;> simp [State.defrostDue, state, State.enterDefrost_state]

theorem State.lockoutEnds_state (s : State) : s.lockoutEnds.rfc.state ≠ .lockout := by
  unfold State.lockoutEnds
  split
  · simp [State.enterDefrost_state]
  · split
    · simp [s.enterWaitPower_state.1]
    · simp [State.setRfc]

/-- The drip's end starts the recovery window (R186). -/
theorem State.dripEnds_state (s : State) : s.dripEnds.rfc.state ≠ .drip ∧ s.dripEnds.rfc.state ≠ .defrost ∧
    s.dripEnds.rfc.recovery = some recoveryMs ∧ (s.rfc.heaterOn = false → s.dripEnds.rfc.heaterOn = false) := by
  unfold State.dripEnds
  dsimp only
  split
  · exact ⟨by simp [State.setRfc], by simp [State.setRfc], rfl, id⟩
  · obtain ⟨state, recovery, heater⟩ :=
      State.enterReady_state { s with rfc := { s.rfc with recovery := some recoveryMs } }
    rcases state with state | state
    · exact ⟨by simp [state], by simp [state], recovery, heater⟩
    · exact ⟨by simp [state], by simp [state], recovery, heater⟩

/-- A defrost's end puts the heater off (R185). -/
theorem State.endDefrost_state (s : State) :
    s.endDefrost.rfc.state ≠ .defrost ∧ s.endDefrost.rfc.heaterOn = false := by
  have kept := State.release_off (s := { s with rfc := { s.rfc with
    state := .drip, heaterOn := false, dripTime := 0 } }) rfl .defrost
  unfold State.endDefrost
  dsimp only
  split
  · obtain ⟨-, state, -, heater⟩ := State.dripEnds_state (State.release { s with rfc := { s.rfc with
      state := .drip, heaterOn := false, dripTime := 0 } } .defrost)
    exact ⟨state, heater (kept.heater rfl)⟩
  · exact ⟨by simp [kept.state], kept.heater rfl⟩

end Sys2Proof.Machine
end

section
/-! SUPPORT. SETTING.WRITE: what the owner of each setting does in the event of its write (R46, R85, R95, R141, R144,
R178 to R186, R196). -/

namespace Sys2Proof.Machine

variable {s t : State}

/-! ### What every owner leaves -/

/-- From `s` to `t` the settings, the tables, the drive work, the measurements and the response slot stay, and of
the session all but the timer. -/
structure State.OwnerActs (s t : State) : Prop where
  settings : t.settings = s.settings
  selt : t.selt = s.selt
  sdc : t.sdc = s.sdc
  msc : t.msc = s.msc
  rst : t.rst = s.rst
  sesc : t.sesc = { s.sesc with inactivity := t.sesc.inactivity }

theorem State.Draws.owner (h : s.Draws t) : s.OwnerActs t := by
  obtain ⟨settings, selt, sesc, sdc, msc, -, rst⟩ := h.unchanged
  exact ⟨settings, selt, sdc, msc, rst, by rw [sesc]⟩

theorem State.updateMasks_owner (s : State) : s.OwnerActs s.updateMasks := by
  obtain ⟨_, _, _, h⟩ := s.updateMasks_frame
  rw [h]
  exact ⟨rfl, rfl, rfl, rfl, rfl, rfl⟩

theorem State.evalExact_owner (s : State) : s.OwnerActs s.evalExact := by
  obtain ⟨_, _, h⟩ := s.evalExact_frame
  rw [h]
  exact ⟨rfl, rfl, rfl, rfl, rfl, rfl⟩

theorem State.inactivityWritten_owner (s : State) : s.OwnerActs s.inactivityWritten := by
  unfold State.inactivityWritten
  split <;> exact ⟨rfl, rfl, rfl, rfl, rfl, rfl⟩

theorem State.promoteAllDue_draws (s : State) : s.Draws s.promoteAllDue := rfl

theorem State.promoteIfDue_draws (s : State) (l : Load) : s.Draws (s.promoteIfDue l) := rfl

theorem State.settingWritten_owner (s : State) (num : Nat) : s.OwnerActs (s.settingWritten num) := by
  unfold State.settingWritten
  split
  · exact s.updateMasks_owner
  · exact s.inactivityWritten_owner
  · exact s.evalExact_owner
  · exact (s.promoteAllDue_draws.trans (State.grantPass_draws _)).owner
  · split
    · exact ((s.promoteIfDue_draws _).trans (State.grantPass_draws _)).owner
    · split
      · exact s.grantPass_draws.owner
      · exact (s.rfcSettingWritten_draws num).owner

/-! ### The owner of a number -/

/-- The priorities have the numbers 0x38 to 0x3C (R196). -/
theorem priorityLoadOf_eq_none_iff {num : Nat} : priorityLoadOf num = none ↔ num < 0x38 ∨ 0x3C < num := by
  unfold priorityLoadOf
  split
  case h_6 spiral payout compressor defrost damper =>
    have others : num ≠ 0x38 ∧ num ≠ 0x39 ∧ num ≠ 0x3A ∧ num ≠ 0x3B ∧ num ≠ 0x3C :=
      ⟨spiral, payout, compressor, defrost, damper⟩
    simp only [true_iff]
    omega
  all_goals simp

theorem State.settingWritten_maxCredit {num : Nat} (h : num = 0x01) : s.settingWritten num = s.updateMasks := by
  unfold State.settingWritten
  split
  case h_1 => rfl
  all_goals simp_all

theorem State.settingWritten_inactivity {num : Nat} (h : num = 0x02) :
    s.settingWritten num = s.inactivityWritten := by
  unfold State.settingWritten
  split
  case h_2 => rfl
  all_goals simp_all

theorem State.settingWritten_coinLimit {num : Nat} (h : num = 0x20) : s.settingWritten num = s.evalExact := by
  unfold State.settingWritten
  split
  case h_3 => rfl
  all_goals simp_all

theorem State.settingWritten_promoteTime {num : Nat} (h : num = 0x31) :
    s.settingWritten num = s.promoteAllDue.grantPass := by
  unfold State.settingWritten
  split
  case h_4 => rfl
  all_goals simp_all

/-- A number with no owner of its own goes by the load whose priority it is, the arbiter's range, or RFC. -/
theorem State.settingWritten_other {num : Nat} (h : num ≠ 0x01 ∧ num ≠ 0x02 ∧ num ≠ 0x20 ∧ num ≠ 0x31) :
    (∀ l, priorityLoadOf num = some l → s.settingWritten num = (s.promoteIfDue l).grantPass) ∧
    (priorityLoadOf num = none → s.settingWritten num =
      if 0x30 ≤ num ∧ num ≤ 0x37 then s.grantPass else s.rfcSettingWritten num) := by
  unfold State.settingWritten
  split
  case h_5 =>
    cases priorityLoadOf num with
    | none => exact ⟨(fun l h => by cases h), fun _ => rfl⟩
    | some l => exact ⟨(fun k h => by cases h; rfl), fun h => by cases h⟩
  all_goals simp at h

theorem State.settingWritten_priority {num : Nat} {l : Load} (h : priorityLoadOf num = some l) :
    s.settingWritten num = (s.promoteIfDue l).grantPass := by
  have range : ¬(num < 0x38 ∨ 0x3C < num) := fun out => by
    rw [priorityLoadOf_eq_none_iff.2 out] at h
    cases h
  exact (State.settingWritten_other (by omega)).1 l h

/-- A write of the arbiter ends with a grant pass (R144). -/
theorem State.settingWritten_passes {num : Nat} (low : 0x30 ≤ num) (high : num ≤ 0x3C) :
    ∃ x : State, s.settingWritten num = x.grantPass := by
  by_cases time : num = 0x31
  · exact ⟨_, State.settingWritten_promoteTime time⟩
  · cases load : priorityLoadOf num with
    | some l => exact ⟨_, State.settingWritten_priority load⟩
    | none =>
      have out := priorityLoadOf_eq_none_iff.1 load
      exact ⟨s, ((State.settingWritten_other (by omega)).2 load).trans (if_pos (by omega))⟩

/-- Above the arbiter's numbers, and below them where no owner stands, RFC is asked. -/
theorem State.settingWritten_rfc {num : Nat} (h : num ≠ 0x01 ∧ num ≠ 0x02 ∧ num ≠ 0x20)
    (out : num < 0x30 ∨ 0x3C < num) : s.settingWritten num = s.rfcSettingWritten num :=
  ((State.settingWritten_other (by omega)).2 (priorityLoadOf_eq_none_iff.2 (by omega))).trans (if_neg (by omega))

/-- RFC acts on the six numbers of its times. -/
theorem State.rfcSettingWritten_of_none {num : Nat}
    (h : num ∉ [0x40, 0x41, 0x42, 0x44, 0x46, 0x47]) : s.rfcSettingWritten num = s := by
  unfold State.rfcSettingWritten
  split
  case h_7 => rfl
  all_goals simp at h

/-- A write of a setting that is read when it is next used does nothing in its event (notes/assumptions/22.md). -/
theorem State.settingWritten_of_none {num : Nat}
    (h : num ∈ [0x03, 0x04, 0x05, 0x10, 0x11, 0x12, 0x13, 0x43, 0x45]) : s.settingWritten num = s := by
  simp only [List.mem_cons, List.not_mem_nil, or_false] at h
  rw [State.settingWritten_rfc (by omega) (by omega)]
  refine State.rfcSettingWritten_of_none ?_
  simp only [List.mem_cons, List.not_mem_nil, or_false]
  omega

/-! ### The owners' work -/

/-- The timer starts anew in an open session that no vend holds (R46). -/
theorem State.inactivityWritten_timer (s : State) : s.inactivityWritten.sesc.inactivity =
    if s.sesc.phase = .cashCredit ∨ s.sesc.phase = .cashlessReady then s.fullInactivity
    else s.sesc.inactivity := by
  unfold State.inactivityWritten
  split <;> rfl

theorem State.evalExact_flag (idle : s.chu.payout.state = .idle) :
    s.evalExact.chu.exactChange = exactFlag s.chu.tubes s.chu.probes s.settings.coinLimit := by
  simp only [State.evalExact, idle, if_true]
  split
  · next same => exact same.symm
  · rfl

theorem promoteDue_of_due {c : Settings} {l : Load} {w x : Nat} (normal : c.priority l = .normal)
    (due : c.promoteMs ≤ x) : promoteDue c l (.waiting w x false) = .waiting w x true :=
  if_pos ⟨normal, due⟩

theorem State.promoteAllDue_load (s : State) (l : Load) :
    s.promoteAllDue.load l = promoteDue s.settings l (s.load l) := by
  cases l <;> rfl

/-- A load that the write leaves due is promoted, and takes part in the pass (R141). -/
theorem State.settingWritten_promotes {num : Nat} {l : Load} {w x : Nat}
    (h : num = 0x31 ∨ priorityLoadOf num = some l) (waits : s.load l = .waiting w x false)
    (normal : s.settings.priority l = .normal) (due : s.settings.promoteMs ≤ x) :
    (s.settingWritten num).load l = .granted w ∨ (s.settingWritten num).load l = .waiting w x true := by
  rcases h with time | h
  · have promoted : s.promoteAllDue.load l = .waiting w x true := by
      rw [State.promoteAllDue_load, waits, promoteDue_of_due normal due]
    rw [State.settingWritten_promoteTime time]
    exact State.grantPass_load_of_waiting promoted
  · have promoted : (s.promoteIfDue l).load l = .waiting w x true := by
      rw [State.promoteIfDue, State.load_setLoad_self, waits, promoteDue_of_due normal due]
    rw [State.settingWritten_priority h]
    exact State.grantPass_load_of_waiting promoted

/-! ### The times of RFC (R178 to R186) -/

/-- The min-off time written (R179). -/
theorem State.minOff_written {num : Nat} (h : num = 0x40) :
    (s.rfc.state = .lockout → s.settings.minOffMs ≤ s.rfc.offTime →
      (s.settingWritten num).rfc.state ≠ .lockout) ∧
    (s.rfc.state = .ready ∨ s.rfc.state = .waitPower → s.rfc.offTime < s.settings.minOffMs →
      (s.settingWritten num).rfc.state = .lockout) := by
  rw [State.settingWritten_rfc (by omega) (by omega)]
  unfold State.rfcSettingWritten
  split
  case h_1 =>
    refine ⟨fun lockout ended => ?_, fun state early => ?_⟩
    · simp only [lockout, ended, if_true]
      exact s.lockoutEnds_state
    · rcases state with ready | waits
      · simp only [ready, early, if_true]
        rfl
      · simp only [waits, early, if_true]
        exact s.leaveWaitPower_state rfl
  all_goals simp_all

/-- The min run time written (R181). -/
theorem State.minRun_written {num : Nat} (h : num = 0x41) (running : s.rfc.state = .running)
    (idle : s.rfc.demand = false) (ran : s.settings.minRunMs ≤ s.rfc.runTime) :
    (s.settingWritten num).rfc.state = .lockout := by
  have stops : s.minRunStops = true := by simp [State.minRunStops, running, idle, ran]
  rw [State.settingWritten_rfc (by omega) (by omega)]
  unfold State.rfcSettingWritten
  split
  case h_2 =>
    rw [if_pos stops]
    exact s.stopCompressor_state
  all_goals simp_all

/-- The max run time written (R183). -/
theorem State.maxRun_written {num : Nat} (h : num = 0x42) (running : s.rfc.state = .running)
    (ran : s.settings.maxRunMs ≤ s.rfc.runTime) : (s.settingWritten num).rfc.state = .defrost := by
  rw [State.settingWritten_rfc (by omega) (by omega)]
  unfold State.rfcSettingWritten
  split
  case h_3 =>
    rw [if_pos ⟨running, ran⟩]
    exact s.defrostDue_state.2 (by simp [running]) (by simp [running])
  all_goals simp_all

/-- The defrost interval written (R183). -/
theorem State.interval_written {num : Nat} (h : num = 0x44) (due : s.settings.intervalMs ≤ s.rfc.accumulator) :
    (s.rfc.state = .lockout → (s.settingWritten num).rfc.defrostPending = true) ∧
    (s.rfc.state ≠ .lockout → s.rfc.state ≠ .drip → (s.settingWritten num).rfc.state = .defrost) := by
  rw [State.settingWritten_rfc (by omega) (by omega)]
  unfold State.rfcSettingWritten
  split
  case h_4 =>
    rw [if_pos due]
    exact s.defrostDue_state
  all_goals simp_all

/-- The heater limit written (R185). -/
theorem State.heaterLimit_written {num : Nat} (h : num = 0x46) (defrost : s.rfc.state = .defrost)
    (heated : s.settings.heaterLimitMs ≤ s.rfc.heaterTime) :
    (s.settingWritten num).rfc.state ≠ .defrost ∧ (s.settingWritten num).rfc.heaterOn = false := by
  rw [State.settingWritten_rfc (by omega) (by omega)]
  unfold State.rfcSettingWritten
  split
  case h_5 =>
    rw [if_pos ⟨defrost, heated⟩]
    exact s.endDefrost_state
  all_goals simp_all

/-- The drip time written (R186). -/
theorem State.dripTime_written {num : Nat} (h : num = 0x47) (drip : s.rfc.state = .drip)
    (dripped : s.settings.dripMs ≤ s.rfc.dripTime) :
    (s.settingWritten num).rfc.state ≠ .drip ∧ (s.settingWritten num).rfc.recovery = some 600000 := by
  obtain ⟨state, -, recovery, -⟩ := s.dripEnds_state
  rw [State.settingWritten_rfc (by omega) (by omega)]
  unfold State.rfcSettingWritten
  split
  case h_6 =>
    rw [if_pos ⟨drip, dripped⟩]
    exact ⟨state, recovery⟩
  all_goals simp_all

/-! ### The request (R196) -/

/-- The state with a setting's value written, before its owner acts. -/
def State.withSetting (s : State) (num : Nat) (w : Int) : State :=
  { s with settings := s.settings.write num w }

theorem exec_settingWrite_unknown {num : Byte} (value : BitVec 32) (ready : s.linkReady = true)
    (unknown : s.settings.read num.toNat = none) :
    exec (.settingWrite 5 num value) s = .next (s.answer 0x04 .range []) :=
  State.host_replies ready (f := fun s => s.writeSetting num.toNat value.toInt)
    (by simp only [State.writeSetting, unknown])

theorem exec_settingWrite {num : Byte} {value : BitVec 32} {old w : Int} (ready : s.linkReady = true)
    (known : s.settings.read num.toNat = some old) (clamped : settingClamp num.toNat value.toInt = w) :
    exec (.settingWrite 5 num value) s = .next (((s.withSetting num.toNat w).settingWritten num.toNat).answer 0x04
      (if w = value.toInt then .ok else .clamped) [.byte num.toNat, .full w]) := by
  subst clamped
  have owner := (s.withSetting num.toNat (settingClamp num.toNat value.toInt)).settingWritten_owner num.toNat
  exact State.host_answers ready (f := fun s => s.writeSetting num.toNat value.toInt)
    (r := ⟨(s.withSetting num.toNat (settingClamp num.toNat value.toInt)).settingWritten num.toNat,
      if settingClamp num.toNat value.toInt = value.toInt then .ok else .clamped,
      [.byte num.toNat, .full (settingClamp num.toNat value.toInt)]⟩)
    (by simp only [State.writeSetting, known]; rfl) (by rw [owner.sesc]; rfl)

/-- Settles O9: the value (`read_write_self`, `read_write_ne`), what every owner leaves (`settingWritten_owner`), and
each owner's work. -/
theorem settingWritten : Obligations.SettingWritten := by
  refine ⟨fun s num value ready => ⟨exec_settingWrite_unknown value ready, fun old known => ?_⟩, ?_⟩
  · obtain ⟨w, clamped⟩ : ∃ w, settingClamp num.toNat value.toInt = w := ⟨_, rfl⟩
    obtain ⟨low, high⟩ := settingClamp_bounds num.toNat value.toInt
    rw [clamped] at low high
    obtain ⟨settings, selt, sdc, msc, rst, sesc⟩ := (s.withSetting num.toNat w).settingWritten_owner num.toNat
    refine ⟨_, exec_settingWrite ready known clamped, ?_⟩
    simp only [clamped, State.answer_settings, settings]
    refine ⟨s.settings.read_write_self known low high, fun k ne => s.settings.read_write_ne w ne, rfl, selt, sdc,
      msc, rst, sesc, fun quiet => ?_, fun h => ?_, fun h => ?_, fun h idle => ?_, fun low high => ?_,
      fun l v x h waits normal due => ?_, fun h => ?_, fun h running idle ran => ?_, fun h running ran => ?_,
      fun h due => ?_, fun h defrost heated => ?_, fun h drip dripped => ?_⟩
    · rw [State.settingWritten_of_none quiet]
      rfl
    · rw [State.settingWritten_maxCredit (congrArg BitVec.toNat h)]
      exact (s.withSetting num.toNat w).updateMasks_last
    · rw [State.settingWritten_inactivity (congrArg BitVec.toNat h)]
      exact (s.withSetting num.toNat w).inactivityWritten_timer
    · rw [State.settingWritten_coinLimit (congrArg BitVec.toNat h)]
      exact State.evalExact_flag (s := s.withSetting num.toNat w) idle
    · obtain ⟨x, passes⟩ := State.settingWritten_passes (s := s.withSetting num.toNat w) low high
      rw [passes]
      exact x.grantPass_budget
    · have number : num.toNat = 0x31 ∨ priorityLoadOf num.toNat = some l :=
        h.imp_left fun h => congrArg BitVec.toNat h
      exact State.settingWritten_promotes (s := s.withSetting num.toNat w) number waits normal due
    · exact State.minOff_written (s := s.withSetting num.toNat w) (congrArg BitVec.toNat h)
    · exact State.minRun_written (s := s.withSetting num.toNat w) (congrArg BitVec.toNat h) running idle ran
    · exact State.maxRun_written (s := s.withSetting num.toNat w) (congrArg BitVec.toNat h) running ran
    · exact State.interval_written (s := s.withSetting num.toNat w) (congrArg BitVec.toNat h) due
    · exact State.heaterLimit_written (s := s.withSetting num.toNat w) (congrArg BitVec.toNat h) defrost heated
    · exact State.dripTime_written (s := s.withSetting num.toNat w) (congrArg BitVec.toNat h) drip dripped
  · intro table
    refine ⟨fun s num => s.settings.read_isSome_iff num, fun num lo hi v mem off => ?_,
      fun v low high => settingClamp_gap low high⟩
    have ranges : ∀ e ∈ table, settingRange e.1 = e.2 := by decide
    rw [settingClamp_of_no_gap off, ranges _ mem]

end Sys2Proof.Machine
end
section
/-! SUPPORT. Steps apart from drive work and power: they leave the settings, the session, the work list, the
executor's payout, the loads, the compressor and heater and the running damper move. -/

namespace Sys2Proof.Machine

variable {s t : State}

/-- From `s` to `t` nothing changes that draws power, holds a session or belongs to drive work. -/
structure State.Apart (s t : State) : Prop where
  settings : t.settings = s.settings := by rfl
  sesc : t.sesc = s.sesc := by rfl
  sdc : t.sdc = s.sdc := by rfl
  payout : t.chu.payout = s.chu.payout := by rfl
  lba : t.lba = s.lba := by rfl
  running : t.ztc.running = s.ztc.running := by rfl
  rfc : t.rfc = s.rfc := by rfl

theorem State.Apart.refl (s : State) : s.Apart s := {}

theorem State.Apart.trans {u : State} (h : s.Apart t) (k : t.Apart u) : s.Apart u where
  settings := k.settings.trans h.settings
  sesc := k.sesc.trans h.sesc
  sdc := k.sdc.trans h.sdc
  payout := k.payout.trans h.payout
  lba := k.lba.trans h.lba
  running := k.running.trans h.running
  rfc := k.rfc.trans h.rfc

/-! ### What is handed to the Cash Bus -/

theorem State.raise_apart (s : State) (n : Notice) : s.Apart (s.raise n) := {}

theorem State.hand_apart (s : State) (p : Peripheral) (f : PendingSet → PendingSet) : s.Apart (s.hand p f) := by
  obtain ⟨_, h⟩ := s.hand_frame p f
  rw [h]; exact {}

theorem State.updateRoute_apart (s : State) : s.Apart s.updateRoute := by
  obtain ⟨_, _, h⟩ := s.updateRoute_frame
  rw [h]; exact {}

theorem State.updateMasks_apart (s : State) : s.Apart s.updateMasks := by
  obtain ⟨_, _, _, h⟩ := s.updateMasks_frame
  rw [h]; exact {}

theorem State.evalExact_apart (s : State) : s.Apart s.evalExact := by
  obtain ⟨_, _, h⟩ := s.evalExact_frame
  rw [h]; exact {}

theorem State.tubesChanged_apart (s : State) : s.Apart s.tubesChanged :=
  s.updateRoute_apart.trans (State.evalExact_apart _)

theorem State.noteSession_apart (s : State) : s.Apart s.noteSession :=
  (s.raise_apart _).trans (State.updateMasks_apart _)

theorem State.closeEvent_apart (s : State) (before : Session) : s.Apart (s.closeEvent before) := by
  unfold State.closeEvent
  split
  · exact .refl s
  · exact s.noteSession_apart

/-! ### CHU -/

theorem State.editTube_apart (s : State) (i : Nat) (f : Tube → Tube) : s.Apart (s.editTube i f) := {}

theorem State.raiseTube_apart (s : State) (i : Nat) (r : TubeReason) (cls : Option Nat) :
    s.Apart (s.raiseTube i r cls) := by
  unfold State.raiseTube
  split <;> exact {}

/-- A class that loses its mapping (R74, R80). -/
theorem State.unmapped_apart (s : State) (k i : Nat) : s.Apart (s.unmapped k i) :=
  State.Apart.trans (t := { s with chu := { s.chu with
    coins := modifyAt (fun x => { x with tube := none }) k s.chu.coins } }) {} (State.raiseTube_apart _ _ _ _)

theorem dropMappings_apart (only : Option Nat) (k : Nat) (cs : List CoinClass) (s : State) :
    s.Apart (dropMappings only k cs s) := by
  induction cs generalizing k s with
  | nil => exact .refl s
  | cons c cs ih =>
    simp only [dropMappings]
    split
    · exact ih _ s
    · next i _ =>
      split <;> split
      · exact (s.unmapped_apart k i).trans (ih _ _)
      · exact ih _ s
      · exact (s.unmapped_apart k i).trans (ih _ _)
      · exact ih _ s

theorem State.takeSetup_apart (s : State) (p : Peripheral) (vs : List Nat) : s.Apart (s.takeSetup p vs) := by
  have handed (x : State) : x.Apart x.updateRoute.updateMasks :=
    x.updateRoute_apart.trans (State.updateMasks_apart _)
  cases p with
  | coin =>
    exact (State.Apart.trans (t := { s with chu := { s.chu with coins := writeCoinValues s.chu.coins vs } })
      {} (dropMappings_apart none 0 _ _)).trans (handed _)
  | bill =>
    exact State.Apart.trans (t := { s with chu := { s.chu with bills := writeBillValues s.chu.bills vs } })
      {} (handed _)

theorem State.countCoin_apart (s : State) (c : CoinClass) (toTube : Bool) : s.Apart (s.countCoin c toTube) := by
  unfold State.countCoin
  split
  · split
    · split
      · exact (s.editTube_apart _ _).trans (State.tubesChanged_apart _)
      · exact .refl s
    · exact .refl s
  · exact .refl s

theorem State.correctCount_apart (s : State) (i : Nat) (n : Option Nat) : s.Apart (s.correctCount i n) := by
  unfold State.correctCount
  split
  · exact (s.editTube_apart _ _).trans (State.raiseTube_apart _ _ _ _)
  · exact .refl s

/-- A switch field written, the correction made, and what follows (R77). -/
theorem State.switchReads_apart (s : State) (i : Nat) (f : Tube → Tube) (n : Option Nat) :
    s.Apart (if n.isSome then ((s.editTube i f).correctCount i n).tubesChanged
      else ((s.editTube i f).correctCount i n).updateRoute) := by
  have corrected := (s.editTube_apart i f).trans (State.correctCount_apart _ i n)
  split
  · exact corrected.trans (State.tubesChanged_apart _)
  · exact corrected.trans (State.updateRoute_apart _)

theorem State.fullReads_apart (s : State) (i : Nat) (active : Bool) : s.Apart (s.fullReads i active) := by
  unfold State.fullReads
  dsimp only
  split
  · exact .refl s
  · next t _ =>
    by_cases same : t.full = if active then .active else .clear
    · rw [if_pos same]
      exact .refl s
    · rw [if_neg same]
      exact s.switchReads_apart i _ _

theorem State.lowReads_apart (s : State) (i : Nat) (low : Bool) : s.Apart (s.lowReads i low) := by
  unfold State.lowReads
  dsimp only
  split
  · exact .refl s
  · next t _ =>
    by_cases same : t.low = if low then .low else .notLow
    · rw [if_pos same]
      exact .refl s
    · rw [if_neg same]
      exact s.switchReads_apart i _ _

/-- A request on an assigned tube that refuses or works apart. -/
theorem State.withTube_apart (s : State) (i : Byte) {f : Tube → TubeAssign → Reply}
    (h : ∀ t a, s.Apart (f t a).state) : s.Apart (s.withTube i f).state := by
  unfold State.withTube
  split
  · split
    · exact h _ _
    · exact .refl s
  · exact .refl s

theorem State.defineTube_apart (s : State) (i : Byte) (d : Half) (c l : Byte) :
    s.Apart (s.defineTube i d c l).state := by
  unfold State.defineTube
  split
  · exact .refl s
  · dsimp only
    split
    · exact .refl s
    · split
      · exact .refl s
      · split
        · exact .refl s
        · exact ((s.editTube_apart _ _).trans (dropMappings_apart _ 0 _ _)).trans (State.tubesChanged_apart _)

theorem State.setCount_apart (s : State) (i : Byte) (n : Half) : s.Apart (s.setCount i n).state := by
  refine s.withTube_apart i fun t a => ?_
  split
  · exact .refl s
  · split
    · exact .refl s
    · split
      · exact .refl s
      · exact (s.editTube_apart _ _).trans (State.tubesChanged_apart _)

theorem State.setTubeState_apart (s : State) (i : Byte) (x : TubeState) :
    s.Apart (s.setTubeState i x).state := by
  refine s.withTube_apart i fun t a => ?_
  split
  · exact .refl s
  · exact (s.editTube_apart _ _).trans (State.tubesChanged_apart _)

theorem State.setClass_apart (s : State) (cls : Byte) (enabled : Bool) (tube : Option Byte) :
    s.Apart (s.setClass cls enabled tube).state := by
  unfold State.setClass
  split
  · exact .refl s
  · next c _ =>
    dsimp only
    split
    · exact .refl s
    · have written : s.Apart { s with chu := { s.chu with coins := modifyAt (fun _ => { c with
          enabled := enabled, tube := tube.map BitVec.toNat }) cls.toNat s.chu.coins } } := {}
      exact (written.trans (State.updateRoute_apart _)).trans (State.updateMasks_apart _)

theorem State.setBill_apart (s : State) (cls : Byte) (enabled : Bool) :
    s.Apart (s.setBill cls enabled).state := by
  unfold State.setBill
  split
  · exact .refl s
  · next b _ =>
    exact State.Apart.trans (t := { s with chu := { s.chu with
      bills := modifyAt (fun _ => { b with enabled := enabled }) cls.toNat s.chu.bills } }) {}
        (State.updateMasks_apart _)

theorem State.setProbes_apart (s : State) (p1 p2 p3 p4 : Half) : s.Apart (s.setProbes p1 p2 p3 p4).state :=
  State.Apart.trans (t := { s with chu := { s.chu with
    probes := ⟨min p1.toNat 60000, min p2.toNat 60000, min p3.toNat 60000, min p4.toNat 60000⟩ } }) {}
      (State.evalExact_apart _)

theorem State.clearTotals_apart (s : State) : s.Apart s.clearTotals.state := by
  unfold State.clearTotals
  split <;> exact {}

/-- An exit count beyond the open window (R106). -/
theorem State.lateCount_apart (s : State) : s.Apart s.lateCount := by
  unfold State.lateCount
  split
  · split
    · split
      · next a _ =>
        exact State.Apart.trans (t := (s.lowerCount _).payOver a.denom) {} (State.tubesChanged_apart _)
      · exact .refl s
    · exact .refl s
  · exact .refl s

/-! ### CBM -/

theorem State.editPeriph_apart (s : State) (p : Peripheral) (f : PeriphRec → PeriphRec) :
    s.Apart (s.editPeriph p f) := {}

theorem State.queueSetup_apart (s : State) (p : Peripheral) : s.Apart (s.queueSetup p) := by
  cases p <;> exact {}

theorem State.probeFails_apart (s : State) (p : Peripheral) : s.Apart (s.probeFails p) := by
  unfold State.probeFails
  dsimp only
  split <;> exact {}

theorem State.comeOnline_apart (s : State) (p : Peripheral) : s.Apart (s.comeOnline p) :=
  ((s.editPeriph_apart p _).trans (State.queueSetup_apart _ p)).trans {}

theorem State.serveNew_apart (s : State) (p : Peripheral) : s.Apart (s.serveNew p) := by
  unfold State.serveNew
  dsimp only
  split
  · exact {}
  · split
    · exact {}
    · exact {}
    · split
      · exact {}
      · split <;> exact {}

theorem State.serve_apart (s : State) (p : Peripheral) : s.Apart (s.serve p) := by
  unfold State.serve
  split
  · split
    · exact {}
    · exact s.serveNew_apart p
  · split <;> exact {}

theorem serveLate_apart (ps : List Peripheral) (s : State) : s.Apart (serveLate ps s) := by
  induction ps generalizing s with
  | nil => exact {}
  | cons p ps ih =>
    simp only [serveLate]
    split
    · exact (s.serve_apart p).trans (ih _)
    · exact (s.serve_apart p).trans {}

theorem State.endExchange_apart (s : State) : s.Apart s.endExchange :=
  State.Apart.trans (t := s.setBus .idle) {} (serveLate_apart _ _)

theorem State.openSlot_apart (s : State) : s.Apart s.openSlot := by
  unfold State.openSlot
  dsimp only
  split
  · exact State.Apart.trans (t := { s with cbm := { s.cbm with
      slotLeft := slotMs, nextSlot := otherPeriph s.cbm.nextSlot } }) {} (State.serve_apart _ _)
  · exact {}

theorem State.frameSent_apart (s : State) : s.Apart s.frameSent := by
  unfold State.frameSent
  split <;> exact {}

theorem State.confirmed_apart (s : State) : s.Apart s.confirmed := by
  unfold State.confirmed
  split
  · exact s.endExchange_apart
  · exact .refl s

theorem State.busReset_apart (s : State) (address : Byte) : s.Apart (s.busReset address).state := by
  unfold State.busReset
  split
  · exact .refl s
  · split <;> exact {}

theorem State.setupTaken_apart (s : State) (p : Peripheral) (vs : List Nat) : s.Apart (s.setupTaken p vs) :=
  State.Apart.trans (t := (s.editPeriph p fun r => { r with outstanding := none }).setBus (.confirming p)) {}
    (State.takeSetup_apart _ p vs)

/-! ### SELT, HLI and RST -/

theorem State.withSel_apart (s : State) (code : Half) {f : Selection → Reply}
    (h : ∀ r, s.Apart (f r).state) : s.Apart (s.withSel code f).state := by
  rcases s.withSel_cases code f with ⟨-, e⟩ | ⟨r, -, e⟩ <;> rw [e]
  · exact .refl s
  · exact h r

theorem State.withPosition_apart (s : State) (code : Half) (index : Byte) (ok : Bool) {f : Position → Reply}
    (h : ∀ p, s.Apart (f p).state) : s.Apart (s.withPosition code index ok f).state := by
  rcases s.withPosition_cases code index ok f with ⟨st, e⟩ | ⟨r, p, -, -, e⟩ <;> rw [e]
  · exact .refl s
  · exact h p

theorem State.findSelection_apart (s : State) (code : Half) : s.Apart (s.findSelection code).state := by
  unfold State.findSelection
  split
  · exact s.withSel_apart code fun _ => .refl s
  · exact .refl s

theorem State.nextSelections_apart (s : State) (after : Half) : s.Apart (s.nextSelections after).state := by
  unfold State.nextSelections
  split <;> exact .refl s

theorem State.defineSelection_apart (s : State) (d : DefineReq) : s.Apart (s.defineSelection d).state := by
  unfold State.defineSelection
  split <;> exact {}

theorem State.retireSelection_apart (s : State) (code : Half) : s.Apart (s.retireSelection code).state := by
  refine s.withSel_apart code fun r => ?_
  split <;> exact {}

theorem State.setPrice_apart (s : State) (code : Half) (set : Option PriceSet) (price : Half) :
    s.Apart (s.setPrice code set price).state := by
  refine s.withSel_apart code fun r => ?_
  split
  · exact .refl s
  · split
    · exact .refl s
    · split <;> exact {}

theorem State.readSetting_apart (s : State) (num : Nat) : s.Apart (s.readSetting num).state := by
  unfold State.readSetting
  split <;> exact .refl s

theorem State.endSave_apart (s : State) : s.Apart s.endSave := by
  unfold State.endSave
  split
  · exact .refl s
  · unfold State.answerSave
    split <;> exact {}

/-! ### Zones and measurements -/

theorem State.setZone_apart (s : State) (z : ZoneNo) (r : Zone) : s.Apart (s.setZone z r) where
  running := by cases z <;> rfl

theorem State.holdZone_apart (s : State) (z : ZoneNo) (c : HoldCause) : s.Apart (s.holdZone z c) := by
  unfold State.holdZone
  split
  · exact .refl s
  · exact (s.setZone_apart z _).trans (State.raise_apart _ _)

theorem State.restoreCheck_apart (s : State) (z : ZoneNo) (t : Int) : s.Apart (s.restoreCheck z t) := by
  have checked := s.setZone_apart z { s.zone z with restorePending := false }
  unfold State.restoreCheck
  dsimp only
  split
  · split
    · exact checked.trans (State.holdZone_apart _ z _)
    · exact checked
  · exact .refl s

theorem State.markZone_apart (s : State) (z : ZoneNo) : s.Apart (s.markZone z) := by
  unfold State.markZone
  dsimp only
  split
  · split
    · exact (s.setZone_apart z _).trans (State.holdZone_apart _ z _)
    · exact s.setZone_apart z _
  · exact .refl s

theorem State.thresholdCheck_apart (s : State) (z : ZoneNo) : s.Apart (s.thresholdCheck z) := by
  unfold State.thresholdCheck
  split
  · exact s.holdZone_apart z _
  · exact .refl s

theorem State.clearHoldRequest_apart (s : State) (zone : Byte) : s.Apart (s.clearHoldRequest zone).state := by
  unfold State.clearHoldRequest
  split
  · exact .refl s
  · next z _ =>
    have cleared := s.setZone_apart z { s.zone z with hold := none, exposure := 0 }
    split
    · exact .refl s
    · split
      · exact .refl s
      · split
        · exact .refl s
        · unfold State.clearHold
          dsimp only
          split
          · exact cleared.trans (State.raise_apart _ _)
          · exact cleared

theorem State.setMsc_apart (s : State) (x : Msc) : s.Apart (s.setMsc x) := {}

theorem State.setChannels_apart (s : State) (cs : Five Channel) : s.Apart (s.setChannels cs) := by
  unfold State.setChannels State.evapNotice
  dsimp only
  split
  · exact {}
  · split <;> exact {}

theorem State.judgePass_apart (s : State) : s.Apart s.judgePass := by
  unfold State.judgePass
  split
  · split
    · unfold State.passUsed
      dsimp only
      split <;> exact State.Apart.trans {} (State.setChannels_apart _ _)
    · unfold State.passFails
      dsimp only
      split
      · refine State.Apart.trans ?_ (State.setChannels_apart _ _)
        split <;> exact {}
      · split <;> exact {}
  · exact .refl s

theorem State.endPass_apart (s : State) (p : PassCodes) : s.Apart (s.endPass p) :=
  ((s.setMsc_apart _).trans (State.judgePass_apart _)).trans (State.setMsc_apart _ _)

end Sys2Proof.Machine
end

section
/-! SUPPORT. What draws power and the law that it holds its grant, taken apart by load; what requests, releases
and grant passes keep of it and of the off-time law (R58, R100, R142, R143, R167, R176, R179). -/

namespace Sys2Proof.Machine

variable {s t : State}

/-! ### The grant law by load -/

/-- The load draws power: a spiral is energized, a payout ejects, the compressor or the heater is on, a damper
move runs. -/
def State.uses (s : State) : Load → Bool
  | .spiral => s.sdc.energized.isSome
  | .payout => s.chu.payout.state == .ejecting
  | .compressor => s.rfc.state.compressorOn
  | .defrost => s.rfc.heaterOn
  | .damper => s.ztc.running.isSome

/-- The sequencer has a unit energized exactly while it turns, and the settle window in SETTLING alone (R58, R61). -/
structure Sdc.Sound (x : Sdc) : Prop where
  energized : x.energized.isSome = x.seq.turns
  settle : x.settleTimer.isSome = true → x.seq = .settling

/-- A window is open and a pulse runs in EJECTING alone (R100, R101). -/
structure Payout.Sound (p : Payout) : Prop where
  window : p.window.isSome = true → p.state = .ejecting
  pulse : p.pulse.isSome = true → p.state = .ejecting

/-- The start window runs in STARTING alone, and the heater is on in DEFROST alone (R180, R185). -/
structure Rfc.Sound (x : Rfc) : Prop where
  start : x.startWindow.isSome = true → x.state = .starting
  heater : x.heaterOn = true → x.state = .defrost

/-- Each load that draws power is granted, and the executor and RFC are sound. -/
structure State.Supplied (s : State) : Prop where
  fed : ∀ l, s.uses l = true → (s.load l).isGranted = true
  payout : s.chu.payout.Sound
  rfc : s.rfc.Sound

theorem grantLaw_iff : GrantLaw s ↔ s.sdc.Sound ∧ s.Supplied := by
  constructor
  · intro ⟨energized, settle, spiral, window, pulse, payout, start, compressor, heater, damper⟩
    refine ⟨⟨energized, settle⟩, fun l use => ?_, ⟨window, pulse⟩, ⟨start, fun on => (heater on).1⟩⟩
    cases l with
    | spiral => exact spiral use
    | payout => exact payout (eq_of_beq use)
    | compressor => exact compressor use
    | defrost => exact (heater use).2
    | damper => exact damper use
  · intro ⟨⟨energized, settle⟩, fed, ⟨window, pulse⟩, ⟨start, heater⟩⟩
    exact ⟨energized, settle, fed .spiral, window, pulse, fun state => fed .payout (beq_iff_eq.2 state), start,
      fed .compressor, fun on => ⟨heater on, fed .defrost on⟩, fed .damper⟩

/-- From `s` to `t` what draws power keeps its grant, and the off-time law is kept. -/
structure State.Powered (s t : State) : Prop where
  supplied : s.Supplied → t.Supplied
  offTime : OffTimeLaw s → OffTimeLaw t

theorem State.Powered.refl (s : State) : s.Powered s := ⟨id, id⟩

theorem State.Powered.trans {u : State} (h : s.Powered t) (k : t.Powered u) : s.Powered u :=
  ⟨fun ok => k.supplied (h.supplied ok), fun ok => k.offTime (h.offTime ok)⟩

/-! ### Steps that write one record -/

/-- The records of LBA alone change, and no grant is lost. -/
theorem State.lba_powered {x : Lba}
    (keeps : ∀ l, (s.load l).isGranted = true → (x.loads.get l).isGranted = true) :
    s.Powered { s with lba := x } :=
  ⟨fun h => ⟨fun l use => keeps l (h.fed l (by cases l <;> exact use)), h.payout, h.rfc⟩, id⟩

theorem State.setLoad_powered (l : Load) {r : LoadRec}
    (use : s.Supplied → s.uses l = true → r.isGranted = true) : s.Powered (s.setLoad l r) := by
  refine ⟨fun h => ⟨fun k on => ?_, h.payout, h.rfc⟩, id⟩
  have on : s.uses k = true := by cases k <;> exact on
  by_cases same : k = l
  · subst same
    rw [State.load_setLoad_self]
    exact use h on
  · rw [State.load_setLoad_ne s r same]
    exact h.fed k on

/-- RFC alone changes. -/
theorem State.rfc_powered {x : Rfc} (sound : s.rfc.Sound → x.Sound)
    (compressor : x.state.compressorOn = true →
      s.rfc.state.compressorOn = true ∨ (s.load .compressor).isGranted = true)
    (heater : x.heaterOn = true → s.rfc.heaterOn = true ∨ (s.load .defrost).isGranted = true)
    (off : OffTimeLaw s → OffTimeLaw { s with rfc := x }) : s.Powered { s with rfc := x } := by
  refine ⟨fun h => ⟨fun l use => ?_, h.payout, sound h.rfc⟩, off⟩
  cases l with
  | compressor => exact (compressor use).elim (h.fed .compressor) id
  | defrost => exact (heater use).elim (h.fed .defrost) id
  | spiral => exact h.fed .spiral use
  | payout => exact h.fed .payout use
  | damper => exact h.fed .damper use

/-- The executor alone changes. -/
theorem State.setPayout_powered {p : Payout} (sound : s.Supplied → p.Sound)
    (ejects : s.Supplied → p.state = .ejecting → (s.load .payout).isGranted = true) :
    s.Powered (s.setPayout p) := by
  refine ⟨fun h => ⟨fun l use => ?_, sound h, h.rfc⟩, id⟩
  cases l with
  | payout => exact ejects h (eq_of_beq use)
  | spiral => exact h.fed .spiral use
  | compressor => exact h.fed .compressor use
  | defrost => exact h.fed .defrost use
  | damper => exact h.fed .damper use

/-- The drive work alone changes. -/
theorem State.setSdc_powered {x : Sdc}
    (turns : s.Supplied → x.energized.isSome = true → (s.load .spiral).isGranted = true) :
    s.Powered (s.setSdc x) := by
  refine ⟨fun h => ⟨fun l use => ?_, h.payout, h.rfc⟩, id⟩
  cases l with
  | spiral => exact turns h use
  | payout => exact h.fed .payout use
  | compressor => exact h.fed .compressor use
  | defrost => exact h.fed .defrost use
  | damper => exact h.fed .damper use

/-- The drive work changes with no other unit energized. -/
theorem State.setSdc_still_powered {x : Sdc} (same : x.energized = s.sdc.energized) : s.Powered (s.setSdc x) :=
  State.setSdc_powered fun h use => h.fed .spiral (by rw [same] at use; exact use)

/-- ZTC alone changes. -/
theorem State.ztc_powered {x : Ztc}
    (moves : s.Supplied → x.running.isSome = true → (s.load .damper).isGranted = true) :
    s.Powered { s with ztc := x } := by
  refine ⟨fun h => ⟨fun l use => ?_, h.payout, h.rfc⟩, id⟩
  cases l with
  | damper => exact moves h use
  | spiral => exact h.fed .spiral use
  | payout => exact h.fed .payout use
  | compressor => exact h.fed .compressor use
  | defrost => exact h.fed .defrost use

/-- A step that leaves what the two laws speak of. -/
theorem State.Powered.of_same (settings : t.settings = s.settings := by rfl)
    (energized : t.sdc.energized = s.sdc.energized := by rfl)
    (payout : t.chu.payout = s.chu.payout := by rfl) (lba : t.lba = s.lba := by rfl)
    (running : t.ztc.running = s.ztc.running := by rfl) (rfc : t.rfc = s.rfc := by rfl) : s.Powered t := by
  have uses (l : Load) : t.uses l = s.uses l := by
    cases l <;> simp only [State.uses, energized, payout, running, rfc]
  refine ⟨fun h => ⟨fun l use => ?_, by rw [payout]; exact h.payout, by rw [rfc]; exact h.rfc⟩, fun h => ?_⟩
  · simp only [State.load, lba]
    exact h.fed l ((uses l).symm.trans use)
  · simpa only [OffTimeLaw, settings, rfc] using h

theorem State.Apart.powered (h : s.Apart t) : s.Powered t :=
  .of_same h.settings (by rw [h.sdc]) h.payout h.lba h.running h.rfc

/-! ### The grant pass (R142, R143) -/

theorem State.revokeDefrost_powered (s : State) : s.Powered s.revokeDefrost := by
  unfold State.revokeDefrost
  split
  · split
    · have cold : s.Powered { s with rfc := { s.rfc with heaterOn := false } } :=
        State.rfc_powered (fun h => ⟨h.start, fun on => nomatch on⟩) .inl (fun on => nomatch on) id
      exact cold.trans (State.setLoad_powered .defrost fun _ on => nomatch on)
    · exact .refl s
  · exact .refl s

/-- RFC as a stop of the compressor leaves it: LOCKOUT, the off time from 0 (R181, R182). -/
def Rfc.locked (x : Rfc) : Rfc := { x with state := .lockout, offTime := 0, startWindow := none }

theorem State.locked_powered (on : s.rfc.state.compressorOn = true) :
    s.Powered { s with rfc := s.rfc.locked } := by
  refine State.rfc_powered (fun sound => ⟨fun some => ?_, fun hot => ?_⟩) (fun on => ?_) .inl fun _ state => ?_
  · cases some
  · rw [sound.heater hot] at on
    cases on
  · cases on
  · rcases state with state | state <;> cases state

theorem State.revokeCompressor_powered (s : State) : s.Powered s.revokeCompressor := by
  unfold State.revokeCompressor
  split
  · split
    · split
      · next on =>
        exact (State.locked_powered on).trans (State.setLoad_powered .compressor fun _ on => nomatch on)
      · next off =>
        have unused (r : LoadRec) : s.Powered (s.setLoad .compressor r) :=
          State.setLoad_powered .compressor fun _ on => absurd on off
        split
        · exact unused _
        · exact unused _
    · exact .refl s
  · exact .refl s

/-- A walk takes no grant away. -/
theorem grantWalk_granted (order : List Load) (remaining : Nat) (ls : Loads) (l : Load)
    (h : (ls.get l).isGranted = true) : ((grantWalk order remaining ls).get l).isGranted = true := by
  rcases grantWalk_get order remaining ls l with same | ⟨w, x, p, -, -, granted⟩
  · rw [same]; exact h
  · rw [granted]; rfl

theorem State.grantPass_powered (s : State) : s.Powered s.grantPass := by
  have revoked := s.revokeDefrost_powered.trans (State.revokeCompressor_powered _)
  unfold State.grantPass
  dsimp only
  split
  · exact revoked.trans (State.lba_powered fun _ => id)
  · exact revoked.trans (State.lba_powered fun l => grantWalk_granted _ _ _ l)

/-! ### Requests, releases and grants taken (R136 to R141) -/

theorem State.request_powered (s : State) (l : Load) (w : Nat) : s.Powered (s.request l w) := by
  have unused (not : (s.load l).isGranted = false) (r : LoadRec) : s.Powered (s.setLoad l r).grantPass :=
    (State.setLoad_powered l fun h on => absurd (h.fed l on) (by simp [not])).trans
      (State.grantPass_powered _)
  unfold State.request
  split
  · next none => exact unused (by rw [none]; rfl) _
  · next waits => exact unused (by rw [waits]; rfl) _
  · exact .refl s

/-- A load that draws nothing is given back. -/
theorem State.release_powered {l : Load} (unused : s.uses l = false) : s.Powered (s.release l) := by
  unfold State.release
  split
  · exact .refl s
  · exact (State.setLoad_powered l fun _ on => absurd on (by simp [unused])).trans (State.grantPass_powered _)

theorem State.reduceWeight_powered (s : State) (l : Load) (w : Nat) : s.Powered (s.reduceWeight l w) := by
  unfold State.reduceWeight
  split
  · split
    · exact (State.setLoad_powered l fun _ _ => rfl).trans (State.grantPass_powered _)
    · exact .refl s
  · exact .refl s

/-- A grant taken by an effect that finds its load granted. -/
theorem State.takeGrant_powered (l : Load) {f : State → State}
    (h : ∀ x : State, (x.load l).isGranted = true → x.Powered (f x)) : s.Powered (s.takeGrant l f) := by
  rcases s.takeGrant_cases l f with ⟨granted, -, e⟩ | ⟨-, e⟩ <;> rw [e]
  · exact State.Powered.trans (t := s.tookGrant l) (State.lba_powered fun _ => id) (h _ granted)
  · exact .refl s

theorem State.setBand_powered (s : State) (b : Band) : s.Powered (s.setBand b) := by
  unfold State.setBand
  split
  · exact .refl s
  · exact (State.lba_powered (x := { s.lba with band := b }) fun _ => id).trans
      (State.raise_apart _ _).powered

theorem State.promote_powered (s : State) (l : Load) : s.Powered (s.promote l) := by
  unfold State.promote
  split
  · next waits =>
    exact (State.setLoad_powered l fun h on => absurd (h.fed l on) (by rw [waits]; simp [LoadRec.isGranted])).trans
      (State.grantPass_powered _)
  · exact .refl s

theorem promoteDue_granted (c : Settings) (l : Load) {r : LoadRec} (h : r.isGranted = true) :
    (promoteDue c l r).isGranted = true := by
  cases r with
  | granted w => rfl
  | none => cases h
  | waiting w x p => cases h

theorem State.promoteAllDue_powered (s : State) : s.Powered s.promoteAllDue :=
  State.lba_powered fun l h => by cases l <;> exact promoteDue_granted _ _ h

theorem State.promoteIfDue_powered (s : State) (l : Load) : s.Powered (s.promoteIfDue l) :=
  State.setLoad_powered l fun h on => promoteDue_granted _ _ (h.fed l on)

theorem State.vdriveTakes_powered (s : State) : s.Powered s.vdriveTakes := by
  unfold State.vdriveTakes
  split
  · exact .refl s
  · next mv _ =>
    have taken : s.Powered { s with
        msc := { s.msc with handedVdrive := none }, lba := { s.lba with vdrive := some mv } } :=
      (State.lba_powered (x := { s.lba with vdrive := some mv }) fun _ => id).trans
        (State.setMsc_apart _ { s.msc with handedVdrive := none }).powered
    dsimp only
    split
    · exact taken
    · unfold State.setBandAndPass
      split
      · exact taken
      · exact (taken.trans (State.setBand_powered _ _)).trans (State.grantPass_powered _)

theorem State.deassertWarning_powered (s : State) : s.Powered s.deassertWarning := by
  unfold State.deassertWarning
  split
  · have calm : s.Powered { s with lba := { s.lba with pfw := false } } := State.lba_powered fun _ => id
    dsimp only
    split
    · exact (calm.trans (State.setBand_powered _ _)).trans (State.grantPass_powered _)
    · exact calm.trans (State.grantPass_powered _)
  · exact .refl s

/-! ### Time -/

theorem LoadRec.elapse_granted (r : LoadRec) (d : Nat) : (r.elapse d).isGranted = r.isGranted := by
  cases r <;> rfl

theorem State.elapse_uses (s : State) (d : Nat) (l : Load) : (s.elapse d).uses l = s.uses l := by
  cases l with
  | damper => exact Option.isSome_map
  | _ => rfl

/-- The off time runs on while the compressor is off (R176). -/
theorem OffTimeLaw.elapse (h : OffTimeLaw s) (d : Nat) : OffTimeLaw (s.elapse d) := fun state => by
  have ended : s.settings.minOffMs ≤ s.rfc.offTime := h state
  have off : s.rfc.state.compressorOn = false := by
    rcases state with e | e <;> exact congrArg RfcState.compressorOn e
  have counts : (s.elapse d).rfc.offTime = s.rfc.offTime + d := if_neg (by simp [off])
  rw [counts]
  exact ended.trans (Nat.le_add_right _ _)

theorem State.elapse_powered (s : State) (d : Nat) : s.Powered (s.elapse d) := by
  refine ⟨fun h => ⟨fun l use => ?_, ⟨fun some => h.payout.window ?_, fun some => h.payout.pulse ?_⟩,
    ⟨fun some => h.rfc.start ?_, h.rfc.heater⟩⟩, fun h => h.elapse d⟩
  · have granted := h.fed l ((s.elapse_uses d l).symm.trans use)
    cases l <;> exact (LoadRec.elapse_granted _ d).trans granted
  · exact (Payout.elapse_window _ d).symm.trans some
  · exact (runDown_isSome _ d).symm.trans some
  · exact (runDown_isSome _ d).symm.trans some

end Sys2Proof.Machine
end

section
/-! SUPPORT. What RFC and ZTC keep of the two laws: starts, stops and defrosts, damper moves and the cooling demand
(R166 to R168, R174 to R189). -/

namespace Sys2Proof.Machine

variable {s t : State}

/-! ### RFC (R179 to R189) -/

/-- RFC is in none of the two states that hold a start window or a heater. -/
def RfcState.quiet (x : RfcState) : Prop := x ≠ .starting ∧ x ≠ .defrost

/-- RFC enters a state with the compressor off from one without start window and heater. -/
theorem State.setRfc_powered (quiet : s.rfc.state.quiet) {x : RfcState} (off : x.compressorOn = false)
    (ended : OffTimeLaw s → x = .ready ∨ x = .waitPower → s.settings.minOffMs ≤ s.rfc.offTime) :
    s.Powered (s.setRfc x) := by
  obtain ⟨starting, defrost⟩ := quiet
  refine State.rfc_powered (fun sound => ⟨fun some => ?_, fun hot => ?_⟩) (fun on => ?_) .inl ended
  · exact absurd (sound.start some) starting
  · exact absurd (sound.heater hot) defrost
  · exact absurd (off.symm.trans on) (by decide)

theorem State.setLockout_powered (quiet : s.rfc.state.quiet) : s.Powered (s.setRfc .lockout) :=
  State.setRfc_powered quiet rfl fun _ h => by simp at h

theorem State.enterWaitPower_powered (quiet : s.rfc.state.quiet)
    (ended : OffTimeLaw s → s.settings.minOffMs ≤ s.rfc.offTime) : s.Powered s.enterWaitPower :=
  (State.setRfc_powered quiet rfl fun law _ => ended law).trans (State.request_powered _ _ _)

theorem State.readyCheck_powered (s : State) : s.Powered s.readyCheck := by
  unfold State.readyCheck
  split
  · next ready =>
    obtain ⟨ready, -⟩ := ready
    exact State.enterWaitPower_powered (by simp [RfcState.quiet, ready]) fun law => law (.inl ready)
  · exact .refl s

/-- WAIT_POWER is left for LOCKOUT or READY (R179, R180). -/
theorem State.leaveWaitPower_powered (waits : s.rfc.state = .waitPower) {x : RfcState}
    (off : x.compressorOn = false) : s.Powered (s.leaveWaitPower x) :=
  (State.setRfc_powered (by simp [RfcState.quiet, waits]) off fun law _ => law (.inr waits)).trans
    (State.release_powered off)

theorem State.stopCompressor_powered (on : s.rfc.state.compressorOn = true) : s.Powered s.stopCompressor :=
  (State.locked_powered on).trans (State.release_powered rfl)

/-- RFC and the allowance as an entry into DEFROST leaves them, its load not yet asked for (R184). -/
def State.defrostBegun (s : State) : State :=
  { s with
    rfc := { s.rfc with
      state := .defrost, accumulator := 0, defrostPending := false, wallTime := 0, heaterTime := 0,
      recovery := none, heaterOn := false }
    ztc := { s.ztc with allowance := true } }

theorem State.enterDefrost_eq (s : State) :
    s.enterDefrost = s.defrostBegun.request .defrost s.settings.defrostWeight := rfl

theorem State.defrostBegun_powered (quiet : s.rfc.state ≠ .starting) : s.Powered s.defrostBegun := by
  have begun : s.Powered { s with rfc := s.defrostBegun.rfc } := by
    refine State.rfc_powered (fun sound => ⟨fun some => ?_, fun hot => ?_⟩) (fun on => ?_) (fun on => ?_)
      fun _ state => ?_
    · exact absurd (sound.start some) quiet
    · cases hot
    · cases on
    · cases on
    · rcases state with state | state <;> cases state
  exact begun.trans (State.ztc_powered (x := s.defrostBegun.ztc) fun h use => h.fed .damper use)

theorem State.enterDefrost_powered (quiet : s.rfc.state ≠ .starting) : s.Powered s.enterDefrost := by
  rw [State.enterDefrost_eq]
  exact (State.defrostBegun_powered quiet).trans (State.request_powered _ _ _)

theorem State.defrostDue_powered (s : State) : s.Powered s.defrostDue := by
  have stopped (on : s.rfc.state.compressorOn = true) : s.Powered s.stopCompressor.enterDefrost :=
    (State.stopCompressor_powered on).trans
      (State.enterDefrost_powered (by rw [s.stopCompressor_state]; decide))
  unfold State.defrostDue
  split
  · next starting => exact stopped (by rw [starting]; rfl)
  · next running => exact stopped (by rw [running]; rfl)
  · next ready => exact State.enterDefrost_powered (by rw [ready]; decide)
  · next waits =>
    exact (State.leaveWaitPower_powered waits rfl).trans
      (State.enterDefrost_powered (by rw [s.leaveWaitPower_state rfl]; decide))
  · exact State.rfc_powered (fun sound => ⟨sound.start, sound.heater⟩) .inl .inl id
  · exact .refl s
  · exact .refl s

/-- LOCKOUT ends once the min-off time has passed (R179). -/
theorem State.lockoutEnds_powered (lockout : s.rfc.state = .lockout)
    (ended : s.settings.minOffMs ≤ s.rfc.offTime) : s.Powered s.lockoutEnds := by
  have quiet : s.rfc.state.quiet := by simp [RfcState.quiet, lockout]
  unfold State.lockoutEnds
  split
  · exact State.enterDefrost_powered quiet.1
  · split
    · exact State.enterWaitPower_powered quiet fun _ => ended
    · exact State.setRfc_powered quiet rfl fun _ _ => ended

theorem State.dripEnds_powered (quiet : s.rfc.state.quiet) : s.Powered s.dripEnds := by
  have opened : s.Powered { s with rfc := { s.rfc with recovery := some recoveryMs } } :=
    State.rfc_powered (fun sound => ⟨sound.start, sound.heater⟩) .inl .inl id
  unfold State.dripEnds
  dsimp only
  split
  · exact opened.trans (State.setLockout_powered quiet)
  · next ended =>
    refine (opened.trans (State.setRfc_powered ?_ rfl fun _ _ => Nat.not_lt.1 ended)).trans
      (State.readyCheck_powered _)
    exact quiet

theorem State.endDefrost_powered (defrost : s.rfc.state = .defrost) : s.Powered s.endDefrost := by
  have drips : s.Powered { s with rfc := { s.rfc with state := .drip, heaterOn := false, dripTime := 0 } } := by
    refine State.rfc_powered (fun sound => ⟨fun some => ?_, fun hot => ?_⟩) (fun on => ?_) (fun on => ?_)
      fun _ state => ?_
    · exact absurd ((sound.start some).symm.trans defrost) (by decide)
    · cases hot
    · cases on
    · cases on
    · rcases state with state | state <;> cases state
  have given := drips.trans (State.release_powered (l := .defrost) rfl)
  unfold State.endDefrost
  dsimp only
  split
  · refine given.trans (State.dripEnds_powered ?_)
    have kept := State.release_off (s := { s with rfc := { s.rfc with
      state := .drip, heaterOn := false, dripTime := 0 } }) rfl .defrost
    simp [RfcState.quiet, kept.state]
  · exact given

theorem State.minRunStops_powered (s : State) : s.Powered (if s.minRunStops then s.stopCompressor else s) := by
  split
  · next stops =>
    have running : s.rfc.state = .running := by
      simp only [State.minRunStops, Bool.and_eq_true, beq_iff_eq] at stops
      exact stops.1.1
    exact State.stopCompressor_powered (by rw [running]; rfl)
  · exact .refl s

theorem State.takeDemand_powered (s : State) (d : Bool) : s.Powered (s.takeDemand d) := by
  have taken : s.Powered { s with rfc := { s.rfc with demand := d } } :=
    State.rfc_powered (fun sound => ⟨sound.start, sound.heater⟩) .inl .inl id
  unfold State.takeDemand
  dsimp only
  split
  · exact taken.trans (State.readyCheck_powered _)
  · next waits =>
    split
    · exact taken
    · refine taken.trans (State.leaveWaitPower_powered ?_ rfl)
      exact waits
  · exact taken.trans (State.minRunStops_powered _)
  · exact taken

theorem State.takeEvap_powered (s : State) (v : Option Int) : s.Powered (s.takeEvap v) := by
  have taken : s.Powered { s with rfc := { s.rfc with evap := v } } :=
    State.rfc_powered (fun sound => ⟨sound.start, sound.heater⟩) .inl .inl id
  unfold State.takeEvap
  dsimp only
  split
  · exact taken.trans (State.readyCheck_powered _)
  · next waits =>
    split
    · refine taken.trans (State.leaveWaitPower_powered ?_ rfl)
      exact waits
    · exact taken
  · next starting =>
    split
    · exact taken.trans (State.stopCompressor_powered (congrArg RfcState.compressorOn starting))
    · exact taken
  · next running =>
    split
    · exact taken.trans (State.stopCompressor_powered (congrArg RfcState.compressorOn running))
    · exact taken
  · next defrost =>
    split
    · split
      · exact taken.trans (State.endDefrost_powered defrost)
      · exact taken
    · exact taken
  · exact taken

theorem State.evapTakes_powered (s : State) : s.Powered s.evapTakes := by
  unfold State.evapTakes
  split
  · exact .refl s
  · dsimp only
    split <;> exact (s.setMsc_apart _).powered.trans (State.takeEvap_powered _ _)

theorem State.takeCompressor_powered (s : State) : s.Powered s.takeCompressor := by
  refine State.takeGrant_powered .compressor fun x granted => ?_
  split
  · next waits =>
    refine State.rfc_powered (fun sound => ⟨fun _ => rfl, fun hot => ?_⟩) (fun _ => .inr granted) .inl
      fun _ state => ?_
    · exact absurd ((sound.heater hot).symm.trans waits) (by decide)
    · rcases state with state | state <;> cases state
  · split
    · exact .refl x
    · next off => exact State.release_powered (Bool.eq_false_iff.2 off)

theorem State.takeDefrost_powered (s : State) : s.Powered s.takeDefrost := by
  refine State.takeGrant_powered .defrost fun x granted => ?_
  split
  · next defrost =>
    exact State.rfc_powered (fun sound => ⟨sound.start, fun _ => defrost⟩) .inl (fun _ => .inr granted) id
  · next other =>
    unfold State.release
    split
    · exact .refl x
    · exact (State.setLoad_powered .defrost fun h on => absurd (h.rfc.heater on) other).trans
        (State.grantPass_powered _)

/-- The start window's end finds the compressor in STARTING (R180). -/
theorem State.startWindowEnds_powered (starting : s.Supplied → s.rfc.state = .starting) :
    s.Powered s.startWindowEnds := by
  have runs : s.Powered { s with rfc := { s.rfc with state := .running, startWindow := none } } := by
    refine ⟨fun h => ?_, fun _ state => ?_⟩
    · have on : s.uses .compressor = true := congrArg RfcState.compressorOn (starting h)
      refine ⟨fun l use => ?_, h.payout, ⟨fun some => ?_, fun hot => ?_⟩⟩
      · cases l with
        | compressor => exact h.fed .compressor on
        | spiral => exact h.fed .spiral use
        | payout => exact h.fed .payout use
        | defrost => exact h.fed .defrost use
        | damper => exact h.fed .damper use
      · cases some
      · exact absurd ((starting h).symm.trans (h.rfc.heater hot)) (by decide)
    · rcases state with state | state <;> cases state
  exact runs.trans (State.reduceWeight_powered _ _ _)

theorem State.recoveryEnds_powered (s : State) : s.Powered s.recoveryEnds :=
  (State.rfc_powered (x := { s.rfc with recovery := none })
    (fun sound => ⟨sound.start, sound.heater⟩) .inl .inl id).trans
    (State.ztc_powered fun h use => h.fed .damper use)

/-! ### Settings (R178, R196) -/

/-- What a write of the min-off time can do: LOCKOUT ends, or is entered anew, or nothing happens (R178, R179). -/
theorem State.minOffWritten_cases (s : State) {num : Nat} (h : num = 0x40) :
    (s.rfc.state = .lockout ∧ s.settings.minOffMs ≤ s.rfc.offTime ∧ s.rfcSettingWritten num = s.lockoutEnds) ∨
    (s.rfc.state = .ready ∧ s.rfcSettingWritten num = s.setRfc .lockout) ∨
    (s.rfc.state = .waitPower ∧ s.rfcSettingWritten num = s.leaveWaitPower .lockout) ∨
    (OffTimeLaw s ∧ s.rfcSettingWritten num = s) := by
  unfold State.rfcSettingWritten
  split
  case h_1 =>
    split
    · next lockout =>
      split
      · next ended => exact .inl ⟨lockout, ended, rfl⟩
      · exact .inr (.inr (.inr ⟨fun state => by simp [lockout] at state, rfl⟩))
    · next ready =>
      split
      · exact .inr (.inl ⟨ready, rfl⟩)
      · next ended => exact .inr (.inr (.inr ⟨fun _ => Nat.not_lt.1 ended, rfl⟩))
    · next waits =>
      split
      · exact .inr (.inr (.inl ⟨waits, rfl⟩))
      · next ended => exact .inr (.inr (.inr ⟨fun _ => Nat.not_lt.1 ended, rfl⟩))
    · next _ ready waits => exact .inr (.inr (.inr ⟨fun state => absurd state (not_or.2 ⟨ready, waits⟩), rfl⟩))
  all_goals simp_all

theorem State.minOffWritten_powered (s : State) {num : Nat} (h : num = 0x40) :
    s.Powered (s.rfcSettingWritten num) := by
  rcases s.minOffWritten_cases h with ⟨lockout, ended, e⟩ | ⟨ready, e⟩ | ⟨waits, e⟩ | ⟨-, e⟩ <;> rw [e]
  · exact State.lockoutEnds_powered lockout ended
  · exact State.setLockout_powered (by simp [RfcState.quiet, ready])
  · exact State.leaveWaitPower_powered waits rfl
  · exact .refl s

theorem OffTimeLaw.of_lockout (state : s.rfc.state = .lockout) : OffTimeLaw s := fun h => by simp [state] at h

/-- A write of the min-off time leaves the off-time law met, whatever was written (R178, R179). -/
theorem State.minOffWritten_offTime (s : State) {num : Nat} (h : num = 0x40) :
    OffTimeLaw (s.rfcSettingWritten num) := by
  rcases s.minOffWritten_cases h with ⟨lockout, ended, e⟩ | ⟨-, e⟩ | ⟨-, e⟩ | ⟨law, e⟩ <;> rw [e]
  · exact (State.lockoutEnds_powered lockout ended).offTime (.of_lockout lockout)
  · exact .of_lockout rfl
  · exact .of_lockout (s.leaveWaitPower_state rfl)
  · exact law

theorem State.rfcSettingWritten_powered (s : State) (num : Nat) : s.Powered (s.rfcSettingWritten num) := by
  by_cases minOff : num = 0x40
  · exact s.minOffWritten_powered minOff
  · unfold State.rfcSettingWritten
    split
    · exact absurd rfl minOff
    · exact s.minRunStops_powered
    · split
      · exact s.defrostDue_powered
      · exact .refl s
    · split
      · exact s.defrostDue_powered
      · exact .refl s
    · split
      · next due => exact State.endDefrost_powered due.1
      · exact .refl s
    · split
      · next due => exact State.dripEnds_powered (by simp [RfcState.quiet, due.1])
      · exact .refl s
    · exact .refl s

theorem State.inactivityWritten_powered (s : State) : s.Powered s.inactivityWritten := by
  unfold State.inactivityWritten
  split <;> exact .of_same

theorem State.settingWritten_powered (s : State) (num : Nat) : s.Powered (s.settingWritten num) := by
  unfold State.settingWritten
  split
  · exact s.updateMasks_apart.powered
  · exact s.inactivityWritten_powered
  · exact s.evalExact_apart.powered
  · exact s.promoteAllDue_powered.trans (State.grantPass_powered _)
  · split
    · exact (s.promoteIfDue_powered _).trans (State.grantPass_powered _)
    · split
      · exact s.grantPass_powered
      · exact s.rfcSettingWritten_powered num

/-- A write of another setting leaves the min-off time. -/
theorem Settings.write_minOff (c : Settings) {num : Nat} (v : Int) (h : num ≠ 0x40) :
    (c.write num v).minOff = c.minOff := by
  unfold Settings.write
  split
  case h_24 => exact absurd rfl h
  all_goals rfl

theorem State.writeSetting_powered (s : State) (num : Nat) (v : Int) :
    s.Powered (s.writeSetting num v).state := by
  unfold State.writeSetting
  split
  · exact .refl s
  · have written (x : State) : x.Supplied → State.Supplied { x with
        settings := x.settings.write num (settingClamp num v) } := fun h => ⟨fun l use => h.fed l (by
      cases l <;> exact use), h.payout, h.rfc⟩
    refine ⟨fun h => (State.settingWritten_powered _ num).supplied (written s h), fun law => ?_⟩
    by_cases minOff : num = 0x40
    · dsimp only
      rw [State.settingWritten_rfc (by omega) (by omega)]
      exact State.minOffWritten_offTime _ minOff
    · refine (State.settingWritten_powered _ num).offTime fun state => ?_
      have same : (s.settings.write num (settingClamp num v)).minOffMs = s.settings.minOffMs := by
        simp only [Settings.minOffMs, Settings.write_minOff _ _ minOff]
      exact same.le.trans (law state)

/-! ### ZTC (R164 to R174) -/

theorem State.askDamper_powered (s : State) : s.Powered s.askDamper := by
  unfold State.askDamper
  split
  · exact s.request_powered _ _
  · exact .refl s

/-- Without a running move DAMPER draws nothing. -/
theorem State.uses_damper (none : s.ztc.running = none) : s.uses .damper = false := by
  simp only [State.uses, none, Option.isSome_none]

theorem State.withdrawDamper_powered (s : State) : s.Powered s.withdrawDamper := by
  unfold State.withdrawDamper
  split
  · next idle => exact State.release_powered (State.uses_damper idle.2)
  · exact .refl s

theorem State.updateDemand_powered (s : State) : s.Powered s.updateDemand := by
  unfold State.updateDemand
  dsimp only
  split
  · exact .refl s
  · exact State.Powered.trans (t := { s with ztc := { s.ztc with demand := s.ztc.wanted } }) .of_same
      (State.takeDemand_powered _ _)

theorem State.queueCheck_powered (s : State) (z : ZoneNo) : s.Powered (s.queueCheck z) := by
  have queued (q : List (ZoneNo × Target)) : s.Powered (s.setQueue q) := .of_same
  exact (((queued _).trans (State.withdrawDamper_powered _)).trans (State.askDamper_powered _)).trans
    (State.updateDemand_powered _)

theorem State.setTarget_powered (s : State) (z : ZoneNo) (t : Target) : s.Powered (s.setTarget z t) :=
  (s.setZone_apart z _).powered.trans (State.queueCheck_powered _ z)

theorem State.takeTemperature_powered (s : State) (z : ZoneNo) (h : Handed) :
    s.Powered (s.takeTemperature z h) := by
  cases h with
  | value t =>
    have taken := s.setZone_apart z { s.zone z with temp := .value t }
    unfold State.takeTemperature
    dsimp only
    split
    · exact (taken.trans (State.restoreCheck_apart _ z t)).powered.trans (State.setTarget_powered _ z _)
    · exact taken.powered
  | fault =>
    have taken := s.setZone_apart z { s.zone z with temp := .sensorFault }
    unfold State.takeTemperature
    dsimp only
    split
    · exact (taken.trans (State.holdZone_apart _ z _)).powered.trans (State.setTarget_powered _ z _)
    · exact taken.powered

theorem State.zoneTakes_powered (s : State) (z : Fin 4) : s.Powered (s.zoneTakes z) := by
  unfold State.zoneTakes
  split
  · exact .refl s
  · dsimp only
    split
    · exact (s.setMsc_apart _).powered.trans (State.takeTemperature_powered _ _ _)
    · exact .of_same

theorem State.zoneToChilled_powered (s : State) (z : ZoneNo) : s.Powered (s.zoneToChilled z) := by
  have cleared := s.setZone_apart z { s.zone z with restorePending := false }
  unfold State.zoneToChilled
  dsimp only
  split
  · exact (cleared.trans (State.holdZone_apart _ z _)).powered.trans (State.setTarget_powered _ z _)
  · exact cleared.powered.trans (State.setTarget_powered _ z _)
  · exact cleared.powered.trans (State.queueCheck_powered _ z)

theorem State.zoneRetarget_powered (s : State) (z : ZoneNo) (c : ZoneSettings) :
    s.Powered (s.zoneRetarget z c) := by
  unfold State.zoneRetarget
  split
  · split
    · exact .refl s
    · exact s.setTarget_powered z _
  · exact .refl s

theorem State.writeZone_powered (s : State) (z : ZoneNo) (c : ZoneSettings) : s.Powered (s.writeZone z c) := by
  have written := (s.setZone_apart z { s.zone z with cfg := c }).powered
  have checked (x : State) : x.Powered (x.thresholdCheck z) := (x.thresholdCheck_apart z).powered
  unfold State.writeZone
  dsimp only
  split
  · exact (written.trans (State.zoneToChilled_powered _ z)).trans (checked _)
  · exact ((written.trans (State.setZone_apart _ z _).powered).trans (State.setTarget_powered _ z _)).trans
      (checked _)
  · exact (written.trans (State.zoneRetarget_powered _ z _)).trans (checked _)
  · exact written.trans (checked _)

theorem State.takeDamper_powered (s : State) : s.Powered s.takeDamper := by
  refine State.takeGrant_powered .damper fun x granted => ?_
  split
  · next idle =>
    unfold State.startMove
    split
    · exact State.release_powered (State.uses_damper idle)
    · next z t rest _ =>
      have started : x.Powered { x with ztc := { x.ztc with
          queue := rest, running := some ⟨z, t, damperMoveMs⟩ } } := State.ztc_powered fun _ _ => granted
      exact (started.trans (State.setZone_apart _ z _).powered).trans (State.updateDemand_powered _)
  · exact .refl x

/-- A running move is over, its damper left at a position. -/
theorem State.moveOver_powered (s : State) (z : ZoneNo) (r : Zone) :
    s.Powered { s.setZone z r with ztc := { (s.setZone z r).ztc with running := none } } :=
  (s.setZone_apart z r).powered.trans (State.ztc_powered fun _ on => nomatch on)

theorem State.endMove_powered (s : State) : s.Powered s.endMove := by
  unfold State.endMove
  split
  · exact .refl s
  · next m _ =>
    exact (((s.moveOver_powered m.zone _).trans (State.release_powered (State.uses_damper rfl))).trans
      (State.askDamper_powered _)).trans (State.updateDemand_powered _)

theorem State.stopMove_powered (s : State) : s.Powered s.stopMove := by
  unfold State.stopMove
  split
  · next idle =>
    split
    · exact (State.release_powered (State.uses_damper idle)).trans (State.askDamper_powered _)
    · exact .refl s
  · next m _ =>
    exact ((s.moveOver_powered m.zone _).trans (State.release_powered (State.uses_damper rfl))).trans
      (State.queueCheck_powered _ m.zone)

end Sys2Proof.Machine
end

section
/-! SUPPORT. What the session, the payout executor and the Cash Bus keep of the grant law and of the off-time law
(R98 to R107, R32 to R47, R119 to R128). -/

namespace Sys2Proof.Machine

variable {s t : State}

/-! ### The executor (R97 to R107) -/

theorem State.uses_payout (off : s.chu.payout.state ≠ .ejecting) : s.uses .payout = false :=
  beq_eq_false_iff_ne.2 off

/-- A record of the executor that does not eject, its window and its pulse closed. -/
theorem State.quietPayout_powered {p : Payout} (state : p.state ≠ .ejecting) (window : p.window = none)
    (pulse : p.pulse = none) : s.Powered (s.setPayout p) :=
  State.setPayout_powered (fun _ => ⟨by simp [window], by simp [pulse]⟩) fun _ ejects => absurd ejects state

/-- A step that leaves what the two laws speak of but the executor's account, with its state, window and pulse as
they were. -/
theorem State.Powered.of_account (settings : t.settings = s.settings := by rfl)
    (energized : t.sdc.energized = s.sdc.energized := by rfl)
    (state : t.chu.payout.state = s.chu.payout.state := by rfl)
    (window : t.chu.payout.window = s.chu.payout.window := by rfl)
    (pulse : t.chu.payout.pulse = s.chu.payout.pulse := by rfl) (lba : t.lba = s.lba := by rfl)
    (running : t.ztc.running = s.ztc.running := by rfl) (rfc : t.rfc = s.rfc := by rfl) : s.Powered t := by
  have account : s.Powered (s.setPayout t.chu.payout) :=
    State.setPayout_powered
      (fun h => ⟨by rw [window, state]; exact h.payout.window, by rw [pulse, state]; exact h.payout.pulse⟩)
      fun h ejects => h.fed .payout (beq_iff_eq.2 (state.symm.trans ejects))
  exact account.trans (.of_same settings energized rfl lba running rfc)

theorem State.pulse_powered (ejecting : s.Supplied → s.chu.payout.state = .ejecting) : s.Powered s.pulse := by
  unfold State.pulse
  split
  · exact State.setPayout_powered (fun h => ⟨fun _ => ejecting h, fun _ => ejecting h⟩)
      fun h state => h.fed .payout (beq_iff_eq.2 state)
  · exact .refl s

theorem State.startEjecting_powered (granted : (s.load .payout).isGranted = true) :
    s.Powered s.startEjecting := by
  have begun : s.Powered (s.setPayout { s.chu.payout with state := .ejecting, pulseNumber := 1 }) :=
    State.setPayout_powered (fun _ => ⟨fun _ => rfl, fun _ => rfl⟩) fun _ _ => granted
  exact begun.trans (State.pulse_powered fun _ => rfl)

theorem State.endPayout_powered (s : State) (keep : Bool) : s.Powered (s.endPayout keep) := by
  have ended : s.Powered (s.setPayout s.chu.payout.ended) :=
    State.quietPayout_powered (by simp [Payout.ended]) rfl rfl
  have given : s.Powered (if keep then s.setPayout s.chu.payout.ended
      else (s.setPayout s.chu.payout.ended).release .payout) := by
    split
    · exact ended
    · exact ended.trans (State.release_powered (State.uses_payout (by simp [Payout.ended])))
  exact given.trans ((State.raise_apart _ (.payout _ _ _)).trans (State.evalExact_apart _)).powered

theorem State.creditOrIdle_powered (s : State) : s.Powered s.creditOrIdle := by
  unfold State.creditOrIdle
  split <;> exact .of_same

theorem State.endChange_powered (s : State) : s.Powered s.endChange :=
  (s.endPayout_powered false).trans (State.creditOrIdle_powered _)

theorem State.changeRecord_powered (s : State) (n : Nat) : s.Powered (s.setPayout (s.changeRecord n)) :=
  State.quietPayout_powered (by simp [State.changeRecord]) rfl rfl

theorem State.startChange_powered (s : State) (n : Nat) : s.Powered (s.startChange n false) := by
  by_cases plan : s.changePlan n = []
  · rw [State.startChange_of_nothing plan]
    exact (s.changeRecord_powered n).trans (State.endChange_powered _)
  · rw [State.startChange_of_coins plan]
    exact (s.changeRecord_powered n).trans (State.request_powered _ _ _)

/-- A change payout that takes over the grant of a SERVICE payout ejects at once (R107). -/
theorem State.startChange_of_grant {n : Nat} (h : s.changePlan n ≠ []) :
    s.startChange n true = (s.setPayout (s.changeRecord n)).startEjecting := if_neg h

theorem State.takeOver_powered (n : Nat) (granted : (s.load .payout).isGranted = true) :
    s.Powered (s.startChange n true) := by
  by_cases plan : s.changePlan n = []
  · rw [State.startChange_of_nothing plan]
    exact (s.changeRecord_powered n).trans (State.endChange_powered _)
  · rw [State.startChange_of_grant plan]
    exact (s.changeRecord_powered n).trans (State.startEjecting_powered granted)

theorem State.takeOver_offTime (n : Nat) (law : OffTimeLaw s) : OffTimeLaw (s.startChange n true) := by
  by_cases plan : s.changePlan n = []
  · rw [State.startChange_of_nothing plan]
    exact ((s.changeRecord_powered n).trans (State.endChange_powered _)).offTime law
  · rw [State.startChange_of_grant plan]
    unfold State.startEjecting State.pulse
    split <;> exact law

theorem State.endPayout_keeps_load (s : State) : (s.endPayout true).load .payout = s.load .payout := by
  have lba : (s.endPayout true).lba = s.lba := by
    simp only [State.endPayout, State.evalExact_unchanged]
    rfl
  simp only [State.load, lba]

theorem State.finishPayout_powered (ejecting : s.Supplied → s.chu.payout.state = .ejecting) :
    s.Powered s.finishPayout := by
  unfold State.finishPayout
  split
  · exact s.endChange_powered
  · split
    · have ended := s.endPayout_powered true
      refine ⟨fun h => (State.takeOver_powered _ ?_).supplied (ended.supplied h),
        fun law => State.takeOver_offTime _ (ended.offTime law)⟩
      rw [State.endPayout_keeps_load]
      exact h.fed .payout (beq_iff_eq.2 (ejecting h))
    · exact s.endPayout_powered false

theorem State.payCredit_powered (s : State) : s.Powered s.payCredit := by
  unfold State.payCredit
  dsimp only
  split
  · exact s.startChange_powered _
  · exact (s.endPayout_powered false).trans (State.startChange_powered _ _)
  · exact .of_account

theorem State.startService_powered (s : State) (i d n count : Nat) :
    s.Powered (s.startService i d n count) := by
  unfold State.startService
  dsimp only
  split
  · exact (State.quietPayout_powered (s := s) (by simp) rfl rfl).trans (State.endPayout_powered _ _)
  · exact (State.quietPayout_powered (s := s) (by simp) rfl rfl).trans (State.request_powered _ _ _)

theorem State.takePayout_powered (s : State) : s.Powered s.takePayout := by
  refine State.takeGrant_powered .payout fun x granted => ?_
  split
  · exact State.startEjecting_powered granted
  · exact .refl x
  · next idle => exact State.release_powered (State.uses_payout (by simp [idle]))

theorem State.pulseEnd_powered (s : State) : s.Powered (s.setPayout { s.chu.payout with pulse := none }) :=
  State.setPayout_powered (fun h => ⟨h.payout.window, fun on => by cases on⟩)
    fun h ejects => h.fed .payout (beq_iff_eq.2 ejects)

theorem State.confirmCoin_powered (s : State) (d : Nat) : s.Powered (s.confirmCoin d) := by
  cases kind : s.chu.payout.kind with
  | change => rw [State.confirmCoin_of_change kind]; exact .of_account
  | service => rw [State.confirmCoin_of_service kind]; exact .of_account

theorem State.overpayCoin_powered (s : State) (d : Nat) : s.Powered (s.overpayCoin d) := .of_account

theorem State.countInWindow_powered (s : State) (i : Nat) : s.Powered (s.countInWindow i) := by
  have lowered : s.Powered (s.lowerCount i) := (s.editTube_apart i _).powered
  unfold State.countInWindow
  dsimp only
  split
  · split
    · exact (lowered.trans (State.confirmCoin_powered _ _)).trans (State.updateRoute_apart _).powered
    · exact (lowered.trans (State.overpayCoin_powered _ _)).trans (State.updateRoute_apart _).powered
  · exact lowered.trans (State.updateRoute_apart _).powered

theorem State.exitCount_powered (s : State) : s.Powered s.exitCount := by
  unfold State.exitCount
  split
  · exact s.countInWindow_powered _
  · exact s.lateCount_apart.powered

theorem State.markJammed_powered (s : State) (i : Nat) : s.Powered (s.markJammed i) := by
  have marked := (s.editTube_apart i fun t => { t with state := .jammed }).powered
  exact (marked.trans .of_account).trans
    ((State.raiseTube_apart _ _ _ _).trans (State.updateRoute_apart _)).powered

/-- A jam leaves the exit window as it stood (R103). -/
theorem State.markJammed_window (s : State) (i : Nat) :
    (s.markJammed i).chu.payout.window = s.chu.payout.window := by
  unfold State.markJammed
  rw [((State.raiseTube_apart _ _ _ _).trans (State.updateRoute_apart _)).payout]
  rfl

/-- An executor whose exit window is open ejects. -/
theorem State.Supplied.ejecting (h : s.Supplied) (windowOpen : s.chu.payout.window.isSome = true) :
    s.chu.payout.state = .ejecting := h.payout.window windowOpen

theorem State.replan_powered (windowOpen : s.chu.payout.window.isSome = true) : s.Powered s.replan := by
  unfold State.replan
  dsimp only
  split
  · exact State.Powered.trans (t := s.setPayout _) .of_account (State.endChange_powered _)
  · exact State.Powered.trans (t := s.setPayout _) .of_account
      (State.pulse_powered fun h => h.ejecting windowOpen)

theorem State.jamTube_powered (windowOpen : s.chu.payout.window.isSome = true) (i : Nat) :
    s.Powered (s.jamTube i) := by
  have still : (s.markJammed i).chu.payout.window.isSome = true := by rw [s.markJammed_window]; exact windowOpen
  unfold State.jamTube
  dsimp only
  split
  · exact (s.markJammed_powered i).trans (State.replan_powered still)
  · exact (s.markJammed_powered i).trans (State.finishPayout_powered fun h => h.ejecting still)

theorem State.windowEnds_powered (windowOpen : s.chu.payout.window.isSome = true) (i : Nat) :
    s.Powered (s.windowEnds i) := by
  have ejecting (p : Payout) (same : p.window = s.chu.payout.window) (h : (s.setPayout p).Supplied) :
      (s.setPayout p).chu.payout.state = .ejecting := h.ejecting (by rw [← windowOpen, ← same]; rfl)
  unfold State.windowEnds
  dsimp only
  split
  · split
    · exact State.Powered.trans (t := s.setPayout _) .of_account (State.finishPayout_powered (ejecting _ rfl))
    · exact State.Powered.trans (t := s.setPayout _) .of_account (State.pulse_powered (ejecting _ rfl))
  · split
    · split
      · exact State.finishPayout_powered fun h => h.ejecting windowOpen
      · exact State.Powered.trans (t := s.setPayout _) .of_account (State.pulse_powered (ejecting _ rfl))
    · exact State.jamTube_powered windowOpen i

theorem State.stopPayout_powered (s : State) : s.Powered s.stopPayout := by
  unfold State.stopPayout
  split
  · exact .refl s
  · split
    · exact s.endChange_powered
    · split
      · exact s.endChange_powered
      · exact s.endPayout_powered false

/-! ### The session (R32 to R47) -/

theorem State.payOrIdle_powered (s : State) : s.Powered s.payOrIdle := by
  unfold State.payOrIdle
  split
  · exact .of_same
  · exact State.Powered.trans (t := s.setSesc _) .of_same (State.payCredit_powered _)

theorem State.settle_powered (s : State) (n : Nat) : s.Powered (s.settle n) :=
  State.Powered.trans (t := (s.raise (.cashlessSettle n)).setSesc
    { (s.raise (.cashlessSettle n)).sesc with authorized := none }) .of_same (State.payOrIdle_powered _)

theorem State.vendFailed_powered (s : State) (v : PendingVend) (o : DriveOutcome) :
    s.Powered (s.vendFailed v o) := by
  have reported : s.Powered (s.reportVend v (.drive o) 0) := .of_same
  unfold State.vendFailed
  dsimp only
  split
  · exact .of_same
  · exact reported.trans (State.settle_powered _ 0)

theorem State.vendDelivered_powered (s : State) (v : PendingVend) : s.Powered (s.vendDelivered v) := by
  unfold State.vendDelivered
  split
  · have charged : s.Powered (s.charged v) := .of_same
    dsimp only
    split
    · exact charged.trans (State.creditOrIdle_powered _)
    · exact charged.trans (State.payOrIdle_powered _)
  · exact State.Powered.trans
      (t := (s.chargeCashless v.price).reportVend v (.drive .delivered) v.price) .of_same
      (State.settle_powered _ _)

theorem State.vendJammed_powered (s : State) (v : PendingVend) (o : DriveOutcome) :
    s.Powered (s.vendJammed v o) := by
  unfold State.vendJammed
  split
  · exact .of_same
  · exact s.vendFailed_powered v o

theorem State.takeVendOutcome_powered (s : State) (o : DriveOutcome) : s.Powered (s.takeVendOutcome o) := by
  unfold State.takeVendOutcome
  split
  · exact .refl s
  · next v _ =>
    have taken : s.Powered (s.seltVend v.code v.index o) := .of_same
    cases o
    case delivered => exact taken.trans (State.vendDelivered_powered _ v)
    case noPower => exact taken.trans (State.vendFailed_powered _ v _)
    case interrupted => exact taken.trans (State.vendFailed_powered _ v _)
    all_goals exact taken.trans (State.vendJammed_powered _ v _)

theorem State.handOutcome_powered (s : State) (e : DriveEntry) (o : DriveOutcome) :
    s.Powered (s.handOutcome e o) := by
  unfold State.handOutcome
  split
  · exact s.takeVendOutcome_powered o
  · rw [State.seltTest_frame]
    exact .of_same

theorem dropPendingEntries_powered (es : List DriveEntry) (s : State) :
    s.Powered (dropPendingEntries es s) := by
  induction es generalizing s with
  | nil => exact .refl s
  | cons e es ih => exact (s.handOutcome_powered e .noPower).trans (ih _)

theorem State.cancelSession_powered (s : State) (r : BillReason) : s.Powered (s.cancelSession r) := by
  have noted (x : State) : s.Powered x →
      s.Powered (if x.sesc.view = s.sesc.view then x.noteSession else x) := fun h => by
    split
    · exact h.trans (State.noteSession_apart x).powered
    · exact h
  unfold State.cancelSession
  dsimp only
  refine noted _ (State.Powered.trans ?_ (State.payOrIdle_powered _))
  split
  · exact (State.hand_apart s _ _).powered.trans .of_same
  · exact .refl s

end Sys2Proof.Machine
end

section
/-! SUPPORT. What a step keeps of the grant law, the off-time law, the session's law and the drive work list, and
the operations that leave drive work as it stands (R50, R58, R179). -/

namespace Sys2Proof.Machine

variable {s t : State}

/-! ### The four laws -/

/-- From `s` to `t` the grant law and the off-time law are kept, and the session's law with the form of the drive
work list under it. -/
structure State.Kept (s t : State) : Prop where
  grants : GrantLaw s → GrantLaw t
  offTime : OffTimeLaw s → OffTimeLaw t
  session : SessionLaw s → SessionLaw t
  work : SessionLaw s → WorkListLaw s → WorkListLaw t

theorem State.Kept.refl (s : State) : s.Kept s := ⟨id, id, id, fun _ => id⟩

theorem State.Kept.trans {u : State} (h : s.Kept t) (k : t.Kept u) : s.Kept u where
  grants law := k.grants (h.grants law)
  offTime law := k.offTime (h.offTime law)
  session law := k.session (h.session law)
  work law list := k.work (h.session law) (h.work law list)

theorem State.Powered.kept (h : s.Powered t) (sound : s.sdc.Sound → t.sdc.Sound)
    (session : SessionLaw s → SessionLaw t) (work : SessionLaw s → WorkListLaw s → WorkListLaw t) :
    s.Kept t where
  grants law := by
    obtain ⟨drive, supplied⟩ := grantLaw_iff.1 law
    exact grantLaw_iff.2 ⟨sound drive, h.supplied supplied⟩
  offTime := h.offTime
  session := session
  work := work

/-- The list and the sequencer as they stood, and a session in VENDING still there. -/
theorem WorkListLaw.of_same (h : WorkListLaw s) (list : t.sdc.list = s.sdc.list)
    (seq : t.sdc.seq = .idle ↔ s.sdc.seq = .idle)
    (stays : s.sesc.phase = .vending → t.sesc.phase = .vending) : WorkListLaw t := by
  refine ⟨?_, ?_, ?_, ?_, fun some => stays (h.vending ?_), ?_⟩
  · rw [list]; exact h.running
  · rw [list, seq]; exact h.head
  · rw [list]; exact h.taken
  · rw [list]; exact h.vends
  · rw [list] at some; exact some
  · rw [State.testCount, list]; exact h.tests

/-! ### Steps that leave drive work as it stands -/

/-- From `s` to `t` power and session keep their laws, drive work stands as it did, and a vend goes on. -/
structure State.Aloof (s t : State) : Prop where
  powered : s.Powered t
  session : SessionLaw s → SessionLaw t
  sdc : t.sdc = s.sdc
  vending : SessionLaw s → s.sesc.phase = .vending → t.sesc.phase = .vending

theorem State.Aloof.refl (s : State) : s.Aloof s := ⟨.refl s, id, rfl, fun _ => id⟩

theorem State.Aloof.trans {u : State} (h : s.Aloof t) (k : t.Aloof u) : s.Aloof u where
  powered := h.powered.trans k.powered
  session law := k.session (h.session law)
  sdc := k.sdc.trans h.sdc
  vending law phase := k.vending (h.session law) (h.vending law phase)

theorem State.Aloof.kept (h : s.Aloof t) : s.Kept t :=
  h.powered.kept (fun sound => by rw [h.sdc]; exact sound) h.session fun law work =>
    work.of_same (by rw [h.sdc]) (by rw [h.sdc]) (h.vending law)

theorem State.Apart.aloof (h : s.Apart t) : s.Aloof t :=
  ⟨h.powered, fun law => law.congr h.sesc h.payout, h.sdc, fun _ phase => by rw [h.sesc]; exact phase⟩

theorem State.Apart.kept (h : s.Apart t) : s.Kept t := h.aloof.kept

/-- A step aside of session and drive work that keeps what power asks. -/
theorem State.Aside.kept (h : s.Aside t) (powered : s.Powered t) : s.Kept t := by
  obtain ⟨-, -, -, -, sesc, sdc, -⟩ := h.unchanged
  exact State.Aloof.kept ⟨powered, h.lawful.session, sdc, fun _ phase => by rw [sesc]; exact phase⟩

/-- A step of the session outside VENDING. -/
theorem State.Lawful.aloof (h : s.Lawful t) (powered : s.Powered t) (sdc : t.sdc = s.sdc)
    (phase : s.sesc.phase ≠ .vending) : s.Aloof t :=
  ⟨powered, h.session, sdc, fun _ vending => absurd vending phase⟩

/-! ### Time -/

theorem Sdc.Sound.elapse {x : Sdc} (h : x.Sound) (d : Nat) : (x.elapse d).Sound :=
  ⟨h.energized, fun some => h.settle ((runDown_isSome _ d).symm.trans some)⟩

theorem State.elapse_kept (s : State) (d : Nat) : s.Kept (s.elapse d) :=
  (s.elapse_powered d).kept (fun sound => sound.elapse d) (fun law => law.elapse d)
    fun _ work => work.of_same rfl Iff.rfl id

theorem State.expire_kept (s : State) (left : Option Nat) {f : State → State}
    (h : ∀ x : State, x.Kept (f x)) : s.Kept (s.expire left f) := by
  cases left with
  | none => exact .refl s
  | some d => exact (s.elapse_kept d).trans (h _)

/-! ### The executor -/

/-- A SERVICE payout with no change payout to follow: its end leaves the session as it stands (R105, R107). -/
structure Payout.Serves (p : Payout) : Prop where
  kind : p.kind = .service
  mark : p.endMark = false

/-- While a vend goes on a payout that runs is a SERVICE payout with no mark (R107). -/
theorem SessionLaw.serves (law : SessionLaw s) (phase : s.sesc.phase = .vending)
    (runs : s.chu.payout.state ≠ .idle) : s.chu.payout.Serves := by
  have free := law.free (by simp [phase])
  exact ⟨free.kind runs, free.mark⟩

theorem State.finishPayout_sdc (s : State) : s.finishPayout.sdc = s.sdc := by
  unfold State.finishPayout
  split
  · simp [State.endChange]
  · split <;> simp

theorem State.finishPayout_sesc (serves : s.chu.payout.Serves) : s.finishPayout.sesc = s.sesc := by
  simp only [State.finishPayout, serves.kind, serves.mark, Bool.false_eq_true, if_false]
  simp

theorem State.pulse_sdc (s : State) : s.pulse.sdc = s.sdc := by
  obtain ⟨_, h⟩ := s.pulse_frame
  rw [h]

theorem State.pulse_sesc (s : State) : s.pulse.sesc = s.sesc := by
  obtain ⟨_, h⟩ := s.pulse_frame
  rw [h]

/-- What a jam writes beside the tube's record (R103). -/
theorem State.markJammed_unchanged (s : State) (i : Nat) : (s.markJammed i).sdc = s.sdc ∧
    (s.markJammed i).sesc = s.sesc ∧ (s.markJammed i).chu.payout.kind = s.chu.payout.kind ∧
    (s.markJammed i).chu.payout.endMark = s.chu.payout.endMark := by
  unfold State.markJammed
  dsimp only
  generalize marked : State.setPayout _ _ = x
  have h := (State.raiseTube_apart x i .jammed none).trans (State.updateRoute_apart _)
  rw [h.sdc, h.sesc, h.payout, ← marked]
  exact ⟨rfl, rfl, rfl, rfl⟩

theorem State.replan_sdc (s : State) : s.replan.sdc = s.sdc := by
  unfold State.replan
  dsimp only
  split
  · simp [State.endChange]
  · exact State.pulse_sdc _

theorem State.jamTube_sdc (s : State) (i : Nat) : (s.jamTube i).sdc = s.sdc := by
  obtain ⟨sdc, -⟩ := s.markJammed_unchanged i
  unfold State.jamTube
  dsimp only
  split
  · exact (State.replan_sdc _).trans sdc
  · exact (State.finishPayout_sdc _).trans sdc

theorem State.jamTube_sesc (serves : s.chu.payout.Serves) (i : Nat) : (s.jamTube i).sesc = s.sesc := by
  obtain ⟨-, sesc, kind, mark⟩ := s.markJammed_unchanged i
  have jammed : (s.markJammed i).chu.payout.Serves := ⟨kind.trans serves.kind, mark.trans serves.mark⟩
  simp only [State.jamTube, jammed.kind]
  exact (State.finishPayout_sesc jammed).trans sesc

theorem State.windowEnds_sdc (s : State) (i : Nat) : (s.windowEnds i).sdc = s.sdc := by
  unfold State.windowEnds
  dsimp only
  split
  · split
    · exact State.finishPayout_sdc _
    · exact State.pulse_sdc _
  · split
    · split
      · exact State.finishPayout_sdc _
      · exact State.pulse_sdc _
    · exact State.jamTube_sdc _ _

theorem State.windowEnds_sesc (serves : s.chu.payout.Serves) (i : Nat) : (s.windowEnds i).sesc = s.sesc := by
  unfold State.windowEnds
  dsimp only
  split
  · split
    · exact State.finishPayout_sesc (s := s.setPayout _) ⟨serves.kind, serves.mark⟩
    · exact State.pulse_sesc _
  · split
    · split
      · exact State.finishPayout_sesc serves
      · exact State.pulse_sesc _
    · exact State.jamTube_sesc serves i

/-- The exit window of a coin runs out (R101). -/
theorem State.windowEnds_aloof (windowOpen : s.chu.payout.window.isSome = true) (i : Nat) :
    s.Aloof (s.windowEnds i) where
  powered := State.windowEnds_powered windowOpen i
  session law := (State.windowEnds_lawful (law.window windowOpen) i).session law
  sdc := s.windowEnds_sdc i
  vending law phase := by
    rw [State.windowEnds_sesc (law.serves phase (by simp [law.window windowOpen])) i]
    exact phase

theorem State.stopPayout_sdc (s : State) : s.stopPayout.sdc = s.sdc := by
  unfold State.stopPayout
  split
  · rfl
  · split
    · simp [State.endChange]
    · split <;> simp [State.endChange]

theorem State.stopPayout_aloof (s : State) : s.Aloof s.stopPayout where
  powered := s.stopPayout_powered
  session := s.stopPayout_lawful.session
  sdc := s.stopPayout_sdc
  vending law phase := by
    unfold State.stopPayout
    split
    · exact phase
    · next runs =>
      obtain ⟨kind, mark⟩ := law.serves phase runs
      simp only [kind, mark, Bool.false_eq_true, if_false]
      simpa using phase

theorem State.takePayout_sdc_sesc (s : State) : s.takePayout.sdc = s.sdc ∧ s.takePayout.sesc = s.sesc := by
  rcases s.takeGrant_cases .payout _ with ⟨-, -, e⟩ | ⟨-, e⟩ <;> rw [State.takePayout, e]
  · split
    · exact ⟨State.pulse_sdc _, State.pulse_sesc _⟩
    · exact ⟨rfl, rfl⟩
    · simp
  · exact ⟨rfl, rfl⟩

theorem State.takePayout_aloof (s : State) : s.Aloof s.takePayout := by
  obtain ⟨sdc, sesc⟩ := s.takePayout_sdc_sesc
  exact ⟨s.takePayout_powered, s.takePayout_lawful.session, sdc, fun _ phase => by rw [sesc]; exact phase⟩

theorem State.pulseEnd_aloof (s : State) : s.Aloof (s.setPayout { s.chu.payout with pulse := none }) :=
  ⟨s.pulseEnd_powered, s.pulseEnd_lawful.session, rfl, fun _ => id⟩

theorem State.countInWindow_unchanged (s : State) (i : Nat) : (s.countInWindow i).sdc = s.sdc ∧
    (s.countInWindow i).sesc.phase = s.sesc.phase := by
  have counted (x : State) : x.updateRoute.sdc = x.sdc ∧ x.updateRoute.sesc.phase = x.sesc.phase := by simp
  unfold State.countInWindow
  dsimp only
  split
  · split
    · obtain ⟨-, sdc, -, phase, -⟩ := (s.lowerCount i).confirmCoin_unchanged (PlanEntry.denom _)
      exact ⟨(counted _).1.trans sdc, (counted _).2.trans phase⟩
    · exact counted _
  · exact counted _

theorem State.exitCount_aloof (s : State) : s.Aloof s.exitCount := by
  refine ⟨s.exitCount_powered, s.exitCount_lawful.session, ?_, fun _ phase => ?_⟩ <;> unfold State.exitCount <;>
    split
  · exact (s.countInWindow_unchanged _).1
  · exact s.lateCount_apart.sdc
  · exact (s.countInWindow_unchanged _).2.trans phase
  · rw [s.lateCount_apart.sesc]; exact phase

theorem State.startService_unchanged (s : State) (i d n count : Nat) :
    (s.startService i d n count).sdc = s.sdc ∧ (s.startService i d n count).sesc = s.sesc := by
  unfold State.startService
  dsimp only
  split <;> simp

theorem State.payoutTest_aloof (s : State) (i n : Byte) : s.Aloof (s.payoutTest i n).state := by
  unfold State.payoutTest State.withTube
  split
  · split
    · dsimp only
      split
      · exact .refl s
      · split
        · exact .refl s
        · split
          · exact .refl s
          · next free =>
            have idle : s.chu.payout.state = .idle := by simpa [State.payoutRunning] using free
            obtain ⟨sdc, sesc⟩ := s.startService_unchanged _ _ _ _
            exact ⟨s.startService_powered _ _ _ _, (State.startService_lawful idle _ _ _ _).session, sdc,
              fun _ phase => by rw [sesc]; exact phase⟩
    · exact .refl s
  · exact .refl s

/-! ### The session (R29 to R47) -/

theorem State.restartInactivity_aloof (s : State) : s.Aloof s.restartInactivity := by
  refine ⟨?_, s.restartInactivity_lawful.session, ?_, fun _ phase => ?_⟩ <;>
    unfold State.restartInactivity <;> split
  · exact .of_same
  · exact .refl s
  · rfl
  · rfl
  · exact phase
  · exact phase

theorem State.cancelSession_sdc (s : State) (r : BillReason) : (s.cancelSession r).sdc = s.sdc := by
  have noted (x : State) : (if x.sesc.view = s.sesc.view then x.noteSession else x).sdc = x.sdc := by
    split <;> simp
  have returned : (if s.sesc.escrow.isSome then
      (s.handEscrowReturn.setSesc { s.sesc with escrow := none }).raise (.bill r) else s : State).sdc = s.sdc := by
    split
    · exact (State.hand_apart s _ _).sdc
    · rfl
  exact (noted _).trans ((State.payOrIdle_settled _).sdc.trans returned)

theorem State.cancelSession_aloof (phase : s.sesc.phase = .cashCredit) (r : BillReason) :
    s.Aloof (s.cancelSession r) :=
  (State.cancelSession_lawful (by simp [phase]) r).aloof (s.cancelSession_powered r) (s.cancelSession_sdc r)
    (by simp [phase])

theorem State.settle_aloof (phase : s.sesc.phase = .cashlessReady) (n : Nat) : s.Aloof (s.settle n) :=
  (State.settle_lawful (by simp [phase]) n).aloof (s.settle_powered n) (s.settle_settled n).sdc (by simp [phase])

theorem State.cancelRequest_aloof (s : State) : s.Aloof s.cancelRequest.state := by
  unfold State.cancelRequest
  split
  · exact .refl s
  · exact s.restartInactivity_aloof
  · next phase => exact State.cancelSession_aloof phase _
  · exact .refl s

theorem State.timeOut_aloof (s : State) : s.Aloof s.timeOut := by
  unfold State.timeOut
  split
  · next phase => exact State.cancelSession_aloof phase _
  · next phase => exact State.settle_aloof phase 0
  · exact .refl s

theorem State.cashlessOpenRequest_aloof (s : State) (n : Half) :
    s.Aloof (s.cashlessOpenRequest n).state := by
  unfold State.cashlessOpenRequest
  split
  · exact .refl s
  · split
    · exact .refl s
    · next idle =>
      have idle : s.sesc.phase = .idle := by simpa using idle
      exact (State.openCashless_lawful idle _).aloof .of_same rfl (by simp [idle])

theorem State.cashlessCloseRequest_aloof (s : State) : s.Aloof s.cashlessCloseRequest.state := by
  unfold State.cashlessCloseRequest
  split
  · next ready => exact State.settle_aloof ready 0
  · split <;> exact .refl s

/-! ### Escrow and coins (R29 to R37) -/

theorem State.stackFails_aloof (phase : s.sesc.phase = .stacking) (r : BillReason) :
    s.Aloof (s.stackFails r) := by
  have gone : s.Powered (s.stackGone r) ∧ (s.stackGone r).sdc = s.sdc := by
    rw [s.stackGone_unchanged r]
    exact ⟨.of_same, rfl⟩
  refine (State.stackFails_lawful phase r).aloof ?_ ?_ (by simp [phase]) <;> rw [State.stackFails_eq]
  · exact gone.1.trans (State.creditOrIdle_powered _)
  · exact (s.stackGone r).creditOrIdle_unchanged.2.1.trans gone.2

theorem State.loseEscrow_aloof (phase : s.sesc.phase = .cashCredit) (r : BillReason) :
    s.Aloof (s.loseEscrow r) := by
  refine (State.loseEscrow_lawful phase r).aloof ?_ ?_ (by simp [phase]) <;> unfold State.loseEscrow <;>
    dsimp only <;> split
  · exact .of_same
  · exact .of_same
  · rfl
  · rfl

theorem State.billLost_aloof (s : State) : s.Aloof s.billLost := by
  unfold State.billLost
  split
  · next phase => exact State.stackFails_aloof phase _
  · split
    · next held => exact State.loseEscrow_aloof held.1 _
    · exact .refl s

theorem State.billReturned_aloof (s : State) : s.Aloof s.billReturned := by
  unfold State.billReturned
  split
  · next phase => exact State.stackFails_aloof phase _
  · split
    · next held => exact State.loseEscrow_aloof held.1 _
    · exact .refl s

theorem State.keepBill_aloof (phase : s.sesc.phase = .idle ∨ s.sesc.phase = .cashCredit) (cls value : Nat) :
    s.Aloof (s.keepBill cls value) := by
  have still : s.sesc.phase ≠ .vending := by rcases phase with h | h <;> simp [h]
  refine (State.keepBill_lawful phase cls value).aloof ?_ ?_ still <;> unfold State.keepBill <;> dsimp only <;>
    split
  · exact .of_same
  · exact State.Powered.trans (t := s.setSesc _) .of_same (State.restartInactivity_aloof _).powered
  · rfl
  · exact (State.restartInactivity_aloof _).sdc

theorem State.billEscrowed_aloof (s : State) (cls : Nat) : s.Aloof (s.billEscrowed cls) := by
  unfold State.billEscrowed
  split
  · exact .refl s
  · split
    · next r _ =>
      have returned : s.Aloof (s.handEscrowReturn.raise (.bill r)) :=
        ((s.hand_apart _ _).trans (State.raise_apart s.handEscrowReturn _)).aloof
      unfold State.sendBack
      dsimp only
      split
      · exact returned.trans (State.restartInactivity_aloof _)
      · exact returned
    · next keeps => exact State.keepBill_aloof (State.billRefusal_phase keeps) _ _

theorem State.credited_aloof (s : State) (v : Nat) : s.Aloof (s.creditCoin v).coinPhase := by
  have lawful := s.credited_lawful v
  unfold State.coinPhase at lawful ⊢
  split at lawful
  · next idle => exact lawful.aloof .of_same rfl (by simp [show s.sesc.phase = .idle from idle])
  · next phase =>
    exact lawful.aloof
      (State.Powered.trans (t := s.creditCoin v) .of_same (State.restartInactivity_aloof _).powered)
      (State.restartInactivity_aloof _).sdc (by simp [show s.sesc.phase = .cashCredit from phase])
  · next phase =>
    exact lawful.aloof
      (State.Powered.trans (t := s.creditCoin v) .of_same (State.restartInactivity_aloof _).powered)
      (State.restartInactivity_aloof _).sdc (by simp [show s.sesc.phase = .cashlessReady from phase])
  · exact ⟨.of_same, lawful.session, rfl, fun _ => id⟩

theorem State.coinAccepted_aloof (s : State) (cls : Nat) (toTube : Bool) :
    s.Aloof (s.coinAccepted cls toTube) := by
  unfold State.coinAccepted
  split
  · exact .refl s
  · split
    · exact .refl s
    · exact (s.countCoin_apart _ _).aloof.trans (State.credited_aloof _ _)

/-! ### The peripherals (R119 to R128) -/

theorem State.validatorGone_aloof (s : State) (p : Peripheral) : s.Aloof (s.validatorGone p) := by
  cases p with
  | coin => exact .refl s
  | bill => exact s.billLost_aloof

theorem State.goOffline_aloof (s : State) (p : Peripheral) : s.Aloof (s.goOffline p) :=
  ((s.editPeriph_apart p _).trans (State.raise_apart _ _)).aloof.trans (State.validatorGone_aloof _ p)

theorem State.attemptFails_aloof (s : State) (p : Peripheral) : s.Aloof (s.attemptFails p) := by
  unfold State.attemptFails
  split
  · exact .refl s
  · split
    · exact (s.editPeriph_apart p _).aloof
    · exact s.goOffline_aloof p

theorem State.exchangeFails_aloof (s : State) (p : Peripheral) (probe : Bool) :
    s.Aloof (s.exchangeFails p probe) := by
  unfold State.exchangeFails
  split
  · exact (s.probeFails_apart p).aloof
  · exact s.attemptFails_aloof p

theorem State.commandAcked_aloof (s : State) (p : Peripheral) (m : Message) :
    s.Aloof (s.commandAcked p m) := by
  have ended := s.editPeriph_apart p fun r => { r with outstanding := none }
  cases m
  case reset =>
    exact (((ended.trans (State.editPeriph_apart _ p _)).trans (State.queueSetup_apart _ p)).trans
      (State.editPeriph_apart _ p _)).aloof.trans (State.validatorGone_aloof _ p)
  case escrowStack =>
    exact (ended.trans (State.editPeriph_apart _ p fun r => { r with
      stackWatch := some stackWatchMs })).aloof
  all_goals exact ended.aloof

theorem State.deviceFault_aloof (s : State) (p : Peripheral) (code : Nat) :
    s.Aloof (s.deviceFault p code) := by
  have noted := ((s.editPeriph_apart p fun r => { r with lastFault := code, stackWatch := none }).trans
    (State.raise_apart _ (.peripheral p true code))).aloof
  unfold State.deviceFault
  dsimp only
  split
  · exact noted
  · split
    · next phase => exact noted.trans (State.stackFails_aloof phase _)
    · exact noted

theorem State.justReset_aloof (s : State) (p : Peripheral) : s.Aloof (s.justReset p) := by
  unfold State.justReset
  split
  · exact .refl s
  · have queued : s.Apart ((s.editPending p fun q => { q with escrow := none }).queueSetup p) :=
      State.Apart.trans (t := s.editPending p fun q => { q with escrow := none }) {} (State.queueSetup_apart _ p)
    exact ((queued.trans (State.editPeriph_apart _ p _)).trans (State.raise_apart _ _)).aloof.trans
      (State.validatorGone_aloof _ p)

theorem State.stopWatch_apart (s : State) : s.Apart s.stopWatch := s.editPeriph_apart _ _

end Sys2Proof.Machine
end

section
/-! SUPPORT. What drive work keeps of the grant law and of the form of the work list: entries enqueued, taken,
turned, settled and ended (R50 to R71). -/

namespace Sys2Proof.Machine

variable {s t : State}

/-! ### The work list (R50) -/

/-- An IDLE sequencer has a list of PENDING entries before it, to take its head from (R56). -/
structure State.Queued (s : State) : Prop where
  idle : s.sdc.seq = .idle
  waiting : ∀ e ∈ s.sdc.list, e.running = false
  vends : (s.sdc.list.filter DriveEntry.isVend).length ≤ 1
  vending : (∃ e ∈ s.sdc.list, e.isVend = true) → s.sesc.phase = .vending
  tests : s.testCount ≤ 7

/-- A list with its head changed and the kinds of its entries as they were. -/
theorem WorkListLaw.of_head {e d : DriveEntry} {rest : List DriveEntry} (h : WorkListLaw s)
    (list : s.sdc.list = e :: rest) (edited : t.sdc.list = d :: rest) (running : d.running = e.running)
    (kind : d.isVend = e.isVend) (seq : t.sdc.seq ≠ .idle) (phase : t.sesc.phase = s.sesc.phase) :
    WorkListLaw t := by
  obtain ⟨waiting, -, taken, vends, vending, tests⟩ := h
  simp only [State.testCount, list, ← List.countP_eq_length_filter, List.countP_cons]
    at waiting taken vends vending tests
  constructor <;>
    simp only [State.testCount, edited, ← List.countP_eq_length_filter, List.countP_cons, kind, phase]
  · exact waiting
  · simpa using seq
  · simpa [running] using taken
  · exact vends
  · simpa [kind] using vending
  · exact tests

/-- The sequencer works while the list has an entry. -/
theorem WorkListLaw.works {e : DriveEntry} {rest : List DriveEntry} (h : WorkListLaw s)
    (list : s.sdc.list = e :: rest) : s.sdc.seq ≠ .idle := fun idle => by
  have empty := h.head.1 idle
  rw [list] at empty
  cases empty

theorem State.editHead_eq {e : DriveEntry} {rest : List DriveEntry} (list : s.sdc.list = e :: rest)
    (f : DriveEntry → DriveEntry) : s.editHead f = s.setSdc { s.sdc with list := f e :: rest } := by
  simp only [State.editHead, State.setList, list, modifyAt]

theorem State.editHead_of_list {e : DriveEntry} {rest : List DriveEntry} (list : s.sdc.list = e :: rest)
    (f : DriveEntry → DriveEntry) : (s.editHead f).sdc = { s.sdc with list := f e :: rest } := by
  rw [State.editHead_eq list f]
  rfl

/-- A change of the RUNNING entry that leaves it running and of its kind. -/
theorem State.editHead_work (f : DriveEntry → DriveEntry) (running : ∀ e, (f e).running = e.running)
    (kind : ∀ e, (f e).isVend = e.isVend) (h : WorkListLaw s) : WorkListLaw (s.editHead f) := by
  cases list : s.sdc.list with
  | nil => exact h.of_same (by simp [State.editHead, list, modifyAt]) Iff.rfl id
  | cons e rest =>
    have edited := State.editHead_of_list list f
    exact h.of_head list (by rw [edited]) (running e) (kind e) (by rw [edited]; exact h.works list) rfl

/-- The head taken, the list has its form (R50, R56). -/
theorem State.Queued.takeHead (h : s.Queued) : WorkListLaw s.takeHead := by
  obtain ⟨idle, waiting, vends, vending, tests⟩ := h
  cases list : s.sdc.list with
  | nil =>
    rw [State.takeHead_of_empty list]
    constructor <;> simp [State.testCount, list, idle]
  | cons e rest =>
    have sdc : s.takeHead.sdc = { s.sdc with
        list := { e with running := true, delivered := false, revolutions := 0, extra := false } :: rest
        seq := .awaitPower, powerTimer := some powerTimerMs } := by
      rw [State.takeHead_of_idle idle list]
      simp
    have phase : s.takeHead.sesc.phase = s.sesc.phase := by simp
    have kind : ({ e with running := true, delivered := false, revolutions := 0, extra := false } :
      DriveEntry).isVend = e.isVend := rfl
    simp only [State.testCount, list, ← List.countP_eq_length_filter, List.countP_cons] at waiting vends vending tests
    constructor <;>
      simp only [State.testCount, sdc, phase, ← List.countP_eq_length_filter, List.countP_cons, kind]
    · exact fun d hd => waiting d (.tail _ hd)
    · simp
    · simp
    · exact vends
    · simpa [kind] using vending
    · exact tests

/-- Outside VENDING no VEND entry is on the list (R50). -/
theorem WorkListLaw.noVend (h : WorkListLaw s) (phase : s.sesc.phase ≠ .vending) :
    ∀ e ∈ s.sdc.list, e.isVend = false := fun e he =>
  Bool.eq_false_iff.2 fun vend => phase (h.vending ⟨e, he, vend⟩)

/-- Wherever a VEND entry goes, the list holds it and what it held (R51). -/
theorem enqueueVend_perm (d : DriveEntry) (l : List DriveEntry) : (enqueueVend d l).Perm (d :: l) := by
  cases l with
  | nil => exact .refl _
  | cons e rest =>
    simp only [enqueueVend]
    split
    · exact .swap d e rest
    · exact .refl _

/-- A VEND entry more makes one VEND entry and no other TEST entry. -/
theorem enqueueVend_counts {d : DriveEntry} {l : List DriveEntry} (kind : d.isVend = true)
    (none : ∀ e ∈ l, e.isVend = false) :
    ((enqueueVend d l).filter DriveEntry.isVend).length = 1 ∧
    ((enqueueVend d l).filter fun e => !e.isVend).length = (l.filter fun e => !e.isVend).length := by
  have others : l.countP DriveEntry.isVend = 0 := List.countP_eq_zero.2 fun e he => by simp [none e he]
  simp only [← List.countP_eq_length_filter, (enqueueVend_perm d l).countP_eq]
  simp [kind, others]

/-- PENDING entries and a VEND entry enqueued with them, its session in VENDING. -/
theorem State.Queued.of_enqueued {d : DriveEntry} {l : List DriveEntry} (list : s.sdc.list = enqueueVend d l)
    (kind : d.isVend = true) (pending : d.running = false) (none : ∀ e ∈ l, e.isVend = false)
    (waiting : ∀ e ∈ l, e.running = false) (tests : (l.filter fun e => !e.isVend).length ≤ 7)
    (idle : s.sdc.seq = .idle) (phase : s.sesc.phase = .vending) : s.Queued := by
  obtain ⟨one, same⟩ := enqueueVend_counts kind none
  refine ⟨idle, fun e he => ?_, by rw [list, one], fun _ => phase, by rw [State.testCount, list, same]; exact tests⟩
  rw [list, (enqueueVend_perm d l).mem_iff] at he
  rcases List.mem_cons.1 he with rfl | he
  · exact pending
  · exact waiting e he

/-- A VEND entry enqueued on a list without one, its session in VENDING, finds its place (R51). -/
theorem State.enqueue_takeHead_work (v : PendingVend) (h : WorkListLaw s)
    (none : ∀ e ∈ s.sdc.list, e.isVend = false) (phase : s.sesc.phase = .vending) :
    WorkListLaw (s.enqueue v).takeHead := by
  cases list : s.sdc.list with
  | nil =>
    refine State.Queued.takeHead (.of_enqueued (s := s.enqueue v) (d := s.vendEntry v) (l := s.sdc.list) rfl rfl rfl
      none ?_ h.tests (h.head.2 list) phase)
    simp [list]
  | cons e rest =>
    have busy : (s.enqueue v).sdc.seq ≠ .idle := h.works list
    have runs : e.running = true := h.taken e (by simp [list])
    have entered : (s.enqueue v).sdc.list = e :: s.vendEntry v :: rest := by
      simp [list, enqueueVend, runs]
    obtain ⟨one, same⟩ := enqueueVend_counts (d := s.vendEntry v) rfl none
    rw [State.takeHead_of_busy busy]
    refine ⟨?_, ?_, ?_, one.le, fun _ => phase, same.le.trans h.tests⟩
    · rw [entered]
      have waiting := h.running
      simp only [list, List.tail_cons] at waiting ⊢
      exact List.forall_mem_cons.2 ⟨rfl, waiting⟩
    · rw [entered]
      simpa using busy
    · rw [entered]
      simpa using runs

/-! ### Grants -/

theorem State.enterAwaitPower_powered (s : State) (u : DriveUnit) : s.Powered (s.enterAwaitPower u) :=
  State.Powered.trans (t := s.setSdc { s.sdc with seq := .awaitPower, powerTimer := some powerTimerMs })
    (State.setSdc_still_powered rfl) (State.request_powered _ .spiral _)

theorem State.editHead_powered (s : State) (f : DriveEntry → DriveEntry) : s.Powered (s.editHead f) :=
  State.setSdc_still_powered rfl

theorem State.takeHead_powered (s : State) : s.Powered s.takeHead := by
  unfold State.takeHead
  split
  · split
    · exact (s.editHead_powered _).trans (State.enterAwaitPower_powered _ _)
    · exact .refl s
  · exact .refl s

/-- The unit is switched off before its load is given back (R58, R70). -/
theorem State.deenergize_powered (s : State) : s.Powered s.deenergize := by
  have off : s.Powered (({ s with msc := { s.msc with lastSample := none, sampleLeft := 0 } } : State).setSdc
      { s.sdc with
        energized := none, powerTimer := none, leaveTimer := none, turnTimer := none, settleTimer := none }) :=
    (s.setMsc_apart _).powered.trans (State.setSdc_powered fun _ on => nomatch on)
  exact off.trans (State.release_powered rfl)

theorem State.release_offTime (l : Load) (law : OffTimeLaw s) : OffTimeLaw (s.release l) := by
  unfold State.release
  split
  · exact law
  · exact (State.grantPass_powered (s.setLoad l .none)).offTime law

/-- A sequencer with no unit on and no settle window open that neither turns nor settles. -/
theorem Sdc.Sound.of_off {x : Sdc} (energized : x.energized = none) (settle : x.settleTimer = none)
    (seq : x.seq.turns = false) : x.Sound :=
  ⟨by rw [energized, seq]; rfl, by rw [settle]; exact fun some => nomatch some⟩

/-- A sequencer that stands IDLE is off. -/
theorem Sdc.Sound.off {x : Sdc} (h : x.Sound) (seq : x.seq.turns = false) : x.energized = none :=
  Option.not_isSome_iff_eq_none.1 (by rw [h.energized, seq]; exact Bool.false_ne_true)

theorem Sdc.Sound.settled {x : Sdc} (h : x.Sound) (seq : x.seq ≠ .settling) : x.settleTimer = none :=
  Option.not_isSome_iff_eq_none.1 fun some => seq (h.settle some)

theorem State.takeHead_sound (h : s.sdc.Sound) : s.takeHead.sdc.Sound := by
  by_cases idle : s.sdc.seq = .idle
  · have off := h.off (by rw [idle]; rfl)
    have settled := h.settled (by rw [idle]; decide)
    obtain ⟨energized, -, -, settle⟩ := s.takeHead_sdc
    refine .of_off (energized.trans off) (settle.trans settled) ?_
    cases list : s.sdc.list with
    | nil => rw [State.takeHead_of_empty list, idle]; rfl
    | cons e rest => rw [State.takeHead_of_idle idle list]; simp [SeqState.turns]
  · rw [State.takeHead_of_busy idle]
    exact h

end Sys2Proof.Machine
end

section
/-! SUPPORT. What the ends of entries, the turns, the samples, the curtain and the warning keep of the four laws
(R57 to R72). -/

namespace Sys2Proof.Machine

variable {s t : State}

/-! ### Outcomes handed on (R40, R70) -/

/-- What an outcome does to drive work: nothing, or one more VEND entry with the session's phase as it stands. -/
inductive OutcomeWork (s t : State) : Prop
  | none (sdc : t.sdc = s.sdc)
  | failover (d : DriveEntry) (kind : d.isVend = true) (pending : d.running = false)
      (sdc : t.sdc = { s.sdc with list := enqueueVend d s.sdc.list }) (phase : t.sesc.phase = s.sesc.phase)

theorem State.vendJammed_outcome (s : State) (v : PendingVend) (o : DriveOutcome) :
    OutcomeWork s (s.vendJammed v o) := by
  unfold State.vendJammed
  split
  · exact .failover _ rfl rfl rfl rfl
  · exact .none (s.vendFailed_leaves v o).1

theorem State.vendDelivered_sdc (s : State) (v : PendingVend) : (s.vendDelivered v).sdc = s.sdc := by
  cases kind : s.sesc.kind with
  | cash => exact (State.vendDelivered_cash v kind).1
  | cashless => exact (State.vendDelivered_cashless v kind).1

theorem State.takeVendOutcome_outcome (s : State) (o : DriveOutcome) :
    OutcomeWork s (s.takeVendOutcome o) := by
  cases pending : s.sesc.pendingVend with
  | none => exact .none (by simp only [State.takeVendOutcome, pending])
  | some v =>
    have failed (o : DriveOutcome) := ((s.seltVend v.code v.index o).vendFailed_leaves v o).1
    have jammed (o : DriveOutcome) := (s.seltVend v.code v.index o).vendJammed_outcome v o
    cases o <;> simp only [State.takeVendOutcome, pending]
    case delivered => exact .none (State.vendDelivered_sdc _ v)
    case noPower | interrupted => exact .none (failed _)
    case jammed | openMotor | noDrop =>
      cases jammed _ with
      | none sdc => exact .none sdc
      | failover d kind pending sdc phase => exact .failover d kind pending sdc phase

/-- The outcome of a TEST entry leaves the session too. -/
theorem State.handOutcome_test {e : DriveEntry} (test : e.isVend = false) (s : State) (o : DriveOutcome) :
    (s.handOutcome e o).sdc = s.sdc ∧ (s.handOutcome e o).sesc = s.sesc := by
  cases origin : e.origin with
  | vend code i => simp [DriveEntry.isVend, origin] at test
  | test row col =>
    simp only [State.handOutcome, origin]
    rw [State.seltTest_frame]
    exact ⟨rfl, rfl⟩

theorem State.handOutcome_vend {e : DriveEntry} (vend : e.isVend = true) (s : State) (o : DriveOutcome) :
    s.handOutcome e o = s.takeVendOutcome o := by
  cases origin : e.origin with
  | vend code i => simp only [State.handOutcome, origin]
  | test row col => simp [DriveEntry.isVend, origin] at vend

theorem State.handOutcome_outcome (s : State) (e : DriveEntry) (o : DriveOutcome) :
    OutcomeWork s (s.handOutcome e o) := by
  cases kind : e.isVend with
  | true => rw [State.handOutcome_vend kind]; exact s.takeVendOutcome_outcome o
  | false => exact .none (State.handOutcome_test kind s o).1

/-- An outcome switches nothing on. -/
theorem OutcomeWork.still (h : OutcomeWork s t) :
    t.sdc.energized = s.sdc.energized ∧ t.sdc.settleTimer = s.sdc.settleTimer := by
  cases h with
  | none sdc => rw [sdc]; exact ⟨rfl, rfl⟩
  | failover d kind pending sdc phase => rw [sdc]; exact ⟨rfl, rfl⟩

/-! ### The end of an entry (R70) -/

/-- The entries behind the one that ends, as the law has them. -/
theorem WorkListLaw.behind {e : DriveEntry} {rest : List DriveEntry} (h : WorkListLaw s)
    (list : s.sdc.list = e :: rest) :
    (∀ d ∈ rest, d.running = false) ∧ (rest.filter fun d => !d.isVend).length ≤ 7 ∧
    (rest.filter DriveEntry.isVend).length ≤ 1 ∧ (e.isVend = true → ∀ d ∈ rest, d.isVend = false) := by
  obtain ⟨waiting, -, -, vends, -, tests⟩ := h
  simp only [State.testCount, list, ← List.countP_eq_length_filter, List.countP_cons] at waiting vends tests ⊢
  refine ⟨waiting, by omega, by omega, fun vend d hd => ?_⟩
  have none : rest.countP DriveEntry.isVend = 0 := by rw [if_pos vend] at vends; omega
  exact Bool.eq_false_iff.2 (List.countP_eq_zero.1 none d hd)

/-- The RUNNING entry gone and its outcome handed on, the list waits for an IDLE sequencer (R40, R70). -/
theorem State.handOutcome_queued {e : DriveEntry} {rest : List DriveEntry} {x : State} (law : WorkListLaw s)
    (list : s.sdc.list = e :: rest) (gone : x.sdc.list = rest) (sesc : x.sesc = s.sesc) (o : DriveOutcome) :
    State.Queued ((x.handOutcome e o).setSdc { (x.handOutcome e o).sdc with seq := .idle }) := by
  obtain ⟨waiting, tests, vends, alone⟩ := law.behind list
  have vending : (∃ d ∈ s.sdc.list, d.isVend = true) → x.sesc.phase = .vending := by
    rw [sesc]; exact law.vending
  rw [list] at vending
  cases kind : e.isVend with
  | true =>
    have none := alone kind
    rw [State.handOutcome_vend kind]
    cases x.takeVendOutcome_outcome o with
    | none sdc =>
      refine ⟨rfl, ?_, ?_, ?_, ?_⟩ <;> simp only [State.testCount, State.setSdc_sdc, sdc, gone]
      · exact waiting
      · exact vends
      · exact fun ⟨d, hd, vend⟩ => absurd vend (by simp [none d hd])
      · exact tests
    | failover d vend pending sdc phase =>
      refine .of_enqueued (d := d) (l := rest) ?_ vend pending none waiting tests rfl ?_
      · simp only [State.setSdc_sdc, sdc, gone]
      · exact phase.trans (vending ⟨e, .head _, kind⟩)
  | false =>
    obtain ⟨sdc, same⟩ := State.handOutcome_test kind x o
    refine ⟨rfl, ?_, ?_, ?_, ?_⟩ <;>
      simp only [State.testCount, State.setSdc_sdc, State.setSdc_sesc, sdc, gone, same]
    · exact waiting
    · exact vends
    · exact fun ⟨d, hd, vend⟩ => vending ⟨d, .tail _ hd, vend⟩
    · exact tests

theorem State.entryGone_powered (s : State) (rest : List DriveEntry) : s.Powered (s.entryGone rest) :=
  s.deenergize_powered.trans (State.setSdc_still_powered rfl)

theorem State.endEntry_kept (s : State) (o : DriveOutcome) : s.Kept (s.endEntry o) := by
  cases list : s.sdc.list with
  | nil =>
    simp only [State.endEntry, list]
    exact .refl s
  | cons e rest =>
    obtain ⟨-, -, sesc, -, -, -, -, gone⟩ := s.entryGone_unchanged rest
    refine State.Powered.kept ?_ (fun _ => ?_) (s.endEntry_lawful o).session fun _ work => ?_ <;>
      rw [State.endEntry_of_list o list]
    · have idle (x : State) : x.Powered (x.setSdc { x.sdc with seq := .idle }) :=
        State.setSdc_still_powered rfl
      exact (((s.entryGone_powered rest).trans (State.handOutcome_powered _ e o)).trans (idle _)).trans
        (State.takeHead_powered _)
    · obtain ⟨energized, settle⟩ := ((s.entryGone rest).handOutcome_outcome e o).still
      rw [gone] at energized settle
      exact State.takeHead_sound (s := State.setSdc _ _) (.of_off energized settle rfl)
    · exact (State.handOutcome_queued work list (by rw [gone]) sesc o).takeHead

theorem State.endFailed_kept (s : State) (o : DriveOutcome) : s.Kept (s.endFailed o) := s.endEntry_kept _

/-! ### Turns, settle windows and samples (R58 to R63) -/

/-- Drive work that changes with no unit switched and no entry moved. -/
theorem State.Kept.of_sdc {x : Sdc} (sound : s.sdc.Sound → x.Sound)
    (seq : WorkListLaw s → (x.seq = .idle ↔ s.sdc.seq = .idle))
    (energized : x.energized = s.sdc.energized := by rfl) (list : x.list = s.sdc.list := by rfl) :
    s.Kept (s.setSdc x) :=
  (State.setSdc_still_powered energized).kept sound (fun law => law.congr rfl rfl)
    fun _ work => work.of_same list (seq work) id

/-- Drive work that changes beside its unit, its sequencer, its settle window and its list. -/
theorem State.Kept.of_timers {x : Sdc} (energized : x.energized = s.sdc.energized := by rfl)
    (seq : x.seq = s.sdc.seq := by rfl) (list : x.list = s.sdc.list := by rfl)
    (settle : x.settleTimer = s.sdc.settleTimer := by rfl) : s.Kept (s.setSdc x) :=
  .of_sdc (fun sound => ⟨by rw [energized, seq]; exact sound.energized, by rw [settle, seq]; exact sound.settle⟩)
    (fun _ => by rw [seq]) energized list

theorem State.editHead_kept (s : State) (f : DriveEntry → DriveEntry)
    (running : ∀ e, (f e).running = e.running) (kind : ∀ e, (f e).isVend = e.isVend) :
    s.Kept (s.editHead f) :=
  (s.editHead_powered f).kept (fun sound => ⟨sound.energized, sound.settle⟩) (fun law => law.congr rfl rfl)
    fun _ => State.editHead_work f running kind

theorem State.enterSettling_sdc (s : State) : s.enterSettling.sdc = { s.sdc with
    energized := none, powerTimer := none, leaveTimer := none, turnTimer := none, seq := .settling
    settleTimer := some s.settings.settleWindow } := by
  simp [State.enterSettling]

/-- A sequencer that works enters SETTLING (R60, R61). -/
theorem State.enterSettling_kept (works : WorkListLaw s → s.sdc.seq ≠ .idle) : s.Kept s.enterSettling := by
  have sdc := s.enterSettling_sdc
  refine State.Powered.kept ?_ (fun _ => ?_) s.enterSettling_still.lawful.session fun _ work => ?_
  · exact s.deenergize_powered.trans (State.setSdc_still_powered rfl)
  · rw [sdc]
    exact ⟨rfl, fun _ => rfl⟩
  · refine work.of_same (by rw [sdc]) (by simpa [sdc] using works work) fun phase => ?_
    rw [s.enterSettling_still.sesc]
    exact phase

theorem State.revolution_kept (turning : s.sdc.seq = .turning) : s.Kept s.revolution := by
  unfold State.revolution
  split
  · exact .refl s
  · next e rest list =>
    have stopped : s.Kept (s.setSdc { s.sdc with turnTimer := none }) := .of_timers
    dsimp only
    split
    · exact stopped.trans (State.endEntry_kept _ _)
    · generalize same : s.setSdc { s.sdc with turnTimer := none } = x at stopped
      have edited := stopped.trans
        (x.editHead_kept (fun d => { d with revolutions := e.revolutions + 1 }) (fun _ => rfl) fun _ => rfl)
      have seq : (x.editHead fun d => { d with revolutions := e.revolutions + 1 }).sdc.seq = .turning := by
        rw [← same]; exact turning
      refine edited.trans ?_
      generalize (x.editHead fun d => { d with revolutions := e.revolutions + 1 }) = y at seq
      split
      · refine .of_sdc (fun sound => ⟨?_, fun some => ?_⟩) fun _ => ?_
        · exact sound.energized.trans (by rw [seq]; rfl)
        · exact absurd (sound.settle some) (by simp [seq])
        · simp [seq]
      · exact State.enterSettling_kept fun _ => by simp [seq]

/-- The entry as an extra revolution finds it (R61). -/
def DriveEntry.again (e : DriveEntry) : DriveEntry :=
  { e with allowance := e.allowance - 1, extra := true, delivered := false }

theorem State.settleEnds_of_allowance {e : DriveEntry} {rest : List DriveEntry} (list : s.sdc.list = e :: rest)
    (allowed : 0 < e.allowance) : s.settleEnds =
      ((s.setSdc { s.sdc with settleTimer := none }).editHead DriveEntry.again).enterAwaitPower e.unit := by
  simp only [State.settleEnds, list, if_pos allowed]
  rfl

theorem State.settleEnds_of_none {e : DriveEntry} {rest : List DriveEntry} (list : s.sdc.list = e :: rest)
    (none : ¬ 0 < e.allowance) : s.settleEnds = s.endEntry .noDrop := by
  simp only [State.settleEnds, list, if_neg none]

/-- The settle window runs out: another revolution is asked for, or the entry ends (R61). -/
theorem State.settleEnds_kept (runs : s.sdc.settleTimer.isSome = true) : s.Kept s.settleEnds := by
  cases list : s.sdc.list with
  | nil =>
    simp only [State.settleEnds, list]
    exact .refl s
  | cons e rest =>
    by_cases allowed : 0 < e.allowance
    · have lawful := s.settleEnds_lawful.session
      rw [State.settleEnds_of_allowance list allowed] at lawful ⊢
      have stopped : s.Powered (s.setSdc { s.sdc with settleTimer := none }) := State.setSdc_still_powered rfl
      have sdc : (((s.setSdc { s.sdc with settleTimer := none }).editHead DriveEntry.again).enterAwaitPower
          e.unit).sdc = { s.sdc with
            list := e.again :: rest, seq := .awaitPower, powerTimer := some powerTimerMs
            settleTimer := none } := by
        simp [State.editHead, list, modifyAt]
      refine ((stopped.trans (State.editHead_powered _ _)).trans (State.enterAwaitPower_powered _ _)).kept
        (fun sound => ?_) lawful fun _ work => ?_
      · rw [sdc]
        exact .of_off (sound.off (by rw [sound.settle runs]; rfl)) rfl rfl
      · exact work.of_head (d := e.again) list (by rw [sdc]) rfl rfl (by simp) (by simp [State.editHead])
    · rw [State.settleEnds_of_none list allowed]
      exact s.endEntry_kept _

theorem State.sampled_kept (s : State) (u : DriveUnit) (i : Nat) : s.Kept (s.sampled u i) :=
  (State.Powered.of_same (s := s) (t := s.sampled u i)).kept (fun sound => ⟨sound.energized, sound.settle⟩)
    (fun law => law.congr rfl rfl) fun _ work => work.of_same rfl Iff.rfl id

theorem State.takeSample_kept (s : State) (u : DriveUnit) (i : Nat) : s.Kept (s.takeSample u i) := by
  have counted := s.sampled_kept u i
  rw [State.takeSample_eq]
  split
  · exact counted.trans (State.endFailed_kept _ _)
  · split
    · exact counted.trans (State.endFailed_kept _ _)
    · exact counted

theorem State.homeOpens_kept (s : State) : s.Kept s.homeOpens := by
  unfold State.homeOpens
  split
  · next leaving =>
    refine .of_sdc (fun sound => ⟨?_, fun some => ?_⟩) fun _ => ?_
    · exact sound.energized.trans (by rw [leaving]; rfl)
    · exact absurd (sound.settle some) (by simp [leaving])
    · simp [leaving]
  · exact .refl s

/-! ### The curtain (R64, R65) -/

theorem State.dropEvent_kept (s : State) : s.Kept s.dropEvent := by
  have marked := s.editHead_kept (fun e => { e with delivered := true }) (fun _ => rfl) fun _ => rfl
  unfold State.dropEvent
  split
  · exact marked
  · exact marked
  · exact s.endEntry_kept _
  · exact (s.raise_apart _).kept
  · exact (s.raise_apart _).kept

theorem State.setCurtain_kept (s : State) (c : Curtain) (timer : Option Nat) : s.Kept (s.setCurtain c timer) :=
  .of_timers

theorem State.curtainBegins_kept (s : State) : s.Kept s.curtainBegins := by
  unfold State.curtainBegins
  split
  · exact (s.setCurtain_kept _ _).trans (State.dropEvent_kept _)
  · exact .refl s

/-! ### The grant of SPIRAL (R57) -/

/-- The unit of the RUNNING entry is switched on under its grant (R57, R58). -/
theorem State.energize_kept {e : DriveEntry} {rest : List DriveEntry} (list : s.sdc.list = e :: rest)
    (awaits : s.sdc.seq = .awaitPower) (granted : (s.load .spiral).isGranted = true) (homeOpen : Bool) :
    s.Kept (s.energize e.unit homeOpen) := by
  have head := State.editHead_of_list list fun d => { d with revolutions := 0 }
  refine State.Powered.kept ?_ (fun sound => ?_) (fun law => law.congr rfl rfl) fun _ work => ?_
  · exact ((s.editHead_powered _).trans (State.setMsc_apart _ _).powered).trans
      (State.setSdc_powered fun _ _ => granted)
  · refine ⟨?_, fun some => absurd (sound.settle some) (by simp [awaits])⟩
    cases homeOpen <;> rfl
  · refine work.of_head list (t := s.energize e.unit homeOpen) (d := { e with revolutions := 0 }) ?_ rfl rfl ?_ rfl
    · simp [State.energize, State.editHead, list, modifyAt]
    · cases homeOpen <;> simp [State.energize]

theorem State.tookGrant_kept (s : State) (l : Load) : s.Kept (s.tookGrant l) :=
  State.Powered.kept (t := s.tookGrant l) (State.lba_powered fun _ => id) (fun sound => sound)
    (fun law => law.congr rfl rfl) fun _ work => work.of_same rfl Iff.rfl id

/-- A grant that finds no turn under way is given back (R137). -/
theorem State.releaseSpiral_kept (s : State) (off : s.sdc.Sound → s.sdc.energized = none) :
    s.Kept (s.release .spiral) where
  grants law := by
    obtain ⟨sound, supplied⟩ := grantLaw_iff.1 law
    have unused : s.uses .spiral = false := by simp only [State.uses, off sound, Option.isSome_none]
    exact grantLaw_iff.2 ⟨by simpa using sound, (State.release_powered unused).supplied supplied⟩
  offTime := State.release_offTime .spiral
  session := (s.release_aside .spiral).lawful.session
  work _ work := work.of_same (by simp) (by simp) (by simp)

theorem State.takeSpiral_kept (s : State) (homeOpen : Bool) : s.Kept (s.takeSpiral homeOpen) := by
  unfold State.takeSpiral
  rcases s.takeGrant_cases .spiral _ with ⟨granted, -, e⟩ | ⟨-, e⟩ <;> rw [e]
  · refine (s.tookGrant_kept .spiral).trans ?_
    split
    · next awaits list => exact State.energize_kept list awaits granted homeOpen
    · exact .refl _
    · exact .refl _
    · next still turned _ =>
      refine State.releaseSpiral_kept _ fun sound => sound.off ?_
      exact Bool.or_eq_false_iff.2 ⟨beq_eq_false_iff_ne.2 still, beq_eq_false_iff_ne.2 turned⟩
  · exact .refl s

/-! ### The list as a whole: the warning, the door and DRIVE.TEST (R52, R53, R71) -/

/-- Drive work stopped: nothing on, no entry, the sequencer IDLE (R71). -/
theorem State.stopDrive_stopped {e : DriveEntry} {rest : List DriveEntry} (list : s.sdc.list = e :: rest) :
    s.Powered s.stopDrive ∧ s.stopDrive.sdc = { s.sdc with
      energized := none, powerTimer := none, leaveTimer := none, turnTimer := none,
      settleTimer := none, list := [], seq := .idle } := by
  obtain ⟨-, -, -, -, -, -, -, gone⟩ := s.entryGone_unchanged []
  have idle (x : State) : x.Powered (x.setSdc { x.sdc with seq := .idle }) := State.setSdc_still_powered rfl
  have dropped (x : State) (powered : (s.entryGone []).Powered x) (same : x.sdc = (s.entryGone []).sdc) :
      s.Powered (x.setSdc { x.sdc with seq := .idle }) ∧
      (x.setSdc { x.sdc with seq := .idle }).sdc = { s.sdc with
        energized := none, powerTimer := none, leaveTimer := none, turnTimer := none,
        settleTimer := none, list := [], seq := .idle } := by
    refine ⟨((s.entryGone_powered []).trans powered).trans (idle x), ?_⟩
    simp only [State.setSdc_sdc, same, gone]
  cases running : e.running with
  | true =>
    rw [State.stopDrive_of_list list running]
    exact dropped _ ((State.handOutcome_powered _ e _).trans (dropPendingEntries_powered rest _))
      (s.entriesDropped_stops e rest (s.warningOutcome_stopped e)).sdc
  | false =>
    have pending : s.stopDrive = (dropPendingEntries (e :: rest) (s.entryGone [])).setSdc
        { (dropPendingEntries (e :: rest) (s.entryGone [])).sdc with seq := .idle } := by
      simp only [State.stopDrive, list, running, State.entryGone, Bool.false_eq_true, if_false]
    rw [pending]
    exact dropped _ (dropPendingEntries_powered _ _) (dropPendingEntries_stops _ _).sdc

theorem State.stopDrive_kept (s : State) : s.Kept s.stopDrive := by
  cases list : s.sdc.list with
  | nil =>
    simp only [State.stopDrive, list]
    exact .refl s
  | cons e rest =>
    obtain ⟨powered, sdc⟩ := State.stopDrive_stopped list
    refine powered.kept (fun _ => ?_) s.stopDrive_lawful.session fun _ _ => ?_
    · rw [sdc]
      exact .of_off rfl rfl rfl
    · constructor <;> simp [State.testCount, sdc]

/-- The RUNNING entry and a VEND entry stay at a closing of the door (R53). -/
theorem State.dropPendingTests_work (h : WorkListLaw s) : WorkListLaw s.dropPendingTests := by
  have fewer (p : DriveEntry → Bool) : (s.dropPendingTests.sdc.list.filter p).length ≤
      (s.sdc.list.filter p).length := (List.filter_sublist.filter p).length_le
  have stay (e : DriveEntry) (he : e ∈ s.dropPendingTests.sdc.list) : e ∈ s.sdc.list := List.mem_of_mem_filter he
  cases list : s.sdc.list with
  | nil => exact h.of_same (by simp [State.dropPendingTests, list]) Iff.rfl id
  | cons e rest =>
    have runs : e.running = true := h.taken e (by simp [list])
    have left : s.dropPendingTests.sdc.list = e :: rest.filter fun d => d.running || d.isVend := by
      simp [State.dropPendingTests, list, runs]
    have waiting := h.running
    rw [list] at waiting
    refine ⟨?_, ?_, ?_, (fewer _).trans h.vends, fun ⟨d, hd, vend⟩ => h.vending ⟨d, stay d hd, vend⟩,
      (fewer _).trans h.tests⟩
    · rw [left]
      exact fun d hd => waiting d (List.mem_of_mem_filter hd)
    · rw [left]
      simpa [State.dropPendingTests] using h.works list
    · rw [left]
      simpa using runs

theorem State.dropPendingTests_kept (s : State) : s.Kept s.dropPendingTests :=
  State.Powered.kept (t := s.dropPendingTests) (State.setSdc_still_powered rfl)
    (fun sound => ⟨sound.energized, sound.settle⟩) (fun law => law.congr rfl rfl)
    fun _ => State.dropPendingTests_work

theorem State.changeDoor_kept (s : State) (isOpen : Bool) : s.Kept (s.changeDoor isOpen) := by
  have noted : s.Kept (({ s with hli := { s.hli with doorOpen := isOpen } } : State).raise (.door isOpen)) :=
    State.Apart.kept {}
  unfold State.changeDoor
  dsimp only
  split
  · exact .refl s
  · split
    · exact noted.trans (State.updateMasks_apart _).kept
    · exact (noted.trans (State.dropPendingTests_kept _)).trans (State.updateMasks_apart _).kept

/-- A TEST entry behind the list, which has room for it (R52). -/
theorem State.appended_work {d : DriveEntry} (kind : d.isVend = false) (pending : d.running = false)
    (room : s.testCount < 7) (h : WorkListLaw s) : WorkListLaw (s.setList (s.sdc.list ++ [d])).takeHead := by
  obtain ⟨waiting, head, taken, vends, vending, -⟩ := h
  have tests : (s.setList (s.sdc.list ++ [d])).testCount ≤ 7 := by
    simpa [State.testCount, kind] using room
  have one : ((s.sdc.list ++ [d]).filter DriveEntry.isVend).length ≤ 1 := by simpa [kind] using vends
  have vendingStill : (∃ e ∈ s.sdc.list ++ [d], e.isVend = true) → s.sesc.phase = .vending := by
    simpa [or_and_right, exists_or, kind] using vending
  cases list : s.sdc.list with
  | nil =>
    rw [list] at tests one vendingStill
    exact State.Queued.takeHead ⟨head.2 list, by simpa using pending, one, vendingStill, tests⟩
  | cons e rest =>
    rw [list] at tests one vendingStill waiting taken
    have busy : s.sdc.seq ≠ .idle := fun idle => by
      have empty := head.1 idle
      rw [list] at empty
      cases empty
    rw [State.takeHead_of_busy (s := s.setList (e :: rest ++ [d])) busy]
    refine ⟨fun a ha => ?_, by simpa using busy, by simpa using taken, one, vendingStill, tests⟩
    rcases List.mem_append.1 ha with ha | ha
    · exact waiting a ha
    · rw [List.mem_singleton.1 ha]; exact pending

theorem State.testRequest_kept (s : State) (row col : Nat) : s.Kept (s.testRequest row col).state := by
  have lawful := (s.testRequest_still row col).lawful.session
  unfold State.testRequest at lawful ⊢
  split
  · exact .refl s
  · split
    · exact .refl s
    · split
      · exact .refl s
      · next range door room =>
        rw [if_neg range, if_neg door, if_neg room] at lawful
        have listed : s.Powered (s.setList (s.sdc.list ++ [s.testEntry row col])) :=
          State.setSdc_still_powered rfl
        exact (listed.trans (State.takeHead_powered _)).kept
          (fun sound => State.takeHead_sound (s := s.setList _) ⟨sound.energized, sound.settle⟩) lawful
          fun _ => State.appended_work rfl rfl (Nat.lt_of_not_le room)

/-! ### Vends that start (R35, R36) -/

theorem State.enqueue_sound (v : PendingVend) (h : s.sdc.Sound) : (s.enqueue v).takeHead.sdc.Sound :=
  State.takeHead_sound (s := s.enqueue v) ⟨h.energized, h.settle⟩

theorem State.enqueue_powered (s : State) (v : PendingVend) : s.Powered (s.enqueue v).takeHead :=
  State.Powered.trans (t := s.enqueue v) .of_same (State.takeHead_powered _)

theorem State.acceptVend_kept (phase : s.sesc.phase = .cashCredit ∨ s.sesc.phase = .cashlessReady)
    (v : PendingVend) : s.Kept (s.acceptVend v) := by
  have lawful := (State.acceptVend_lawful phase v).session
  have still : s.sesc.phase ≠ .vending := by rcases phase with h | h <;> simp [h]
  by_cases stack : s.sesc.kind = .cash ∧ s.sesc.escrow.isSome
  · have eq : s.acceptVend v = (s.setSesc { s.sesc with
        pendingVend := some v, inactivity := none, phase := .stacking }).handEscrowStack := by
      unfold State.acceptVend
      simp only [State.setSesc_sesc, stack, and_self, if_true]
      rfl
    have begun : s.Powered (s.setSesc { s.sesc with
      pendingVend := some v, inactivity := none, phase := .stacking }) := .of_same
    rw [eq] at lawful ⊢
    have handed := (s.setSesc { s.sesc with
      pendingVend := some v, inactivity := none, phase := .stacking }).hand_apart .bill
        fun q => { q with escrow := some .stack }
    exact State.Aloof.kept ⟨begun.trans handed.powered, lawful, handed.sdc, fun _ h => absurd h still⟩
  · have eq : s.acceptVend v = ((s.setSesc { s.sesc with
        pendingVend := some v, inactivity := none, phase := .vending }).enqueue v).takeHead := by
      unfold State.acceptVend
      simp only [State.setSesc_sesc, stack, if_false]
      rfl
    have begun : s.Powered (s.setSesc { s.sesc with
      pendingVend := some v, inactivity := none, phase := .vending }) := .of_same
    rw [eq] at lawful ⊢
    refine (begun.trans (State.enqueue_powered _ v)).kept (fun sound => State.enqueue_sound v sound) lawful
      fun _ work => State.enqueue_takeHead_work v ?_ (work.noVend still) rfl
    exact work.of_same rfl Iff.rfl fun _ => rfl

theorem State.refuseVend_kept (s : State) (st : Status) (body : List Field) :
    s.Kept (s.refuseVend st body).state := by
  unfold State.refuseVend
  dsimp only
  split
  · exact s.restartInactivity_aloof.kept
  · exact .refl s

theorem State.vendFrom_kept (phase : s.sesc.phase = .cashCredit ∨ s.sesc.phase = .cashlessReady)
    (r : Selection) : s.Kept (s.vendFrom r).state := by
  unfold State.vendFrom
  dsimp only
  split
  · exact s.refuseVend_kept _ _
  · split
    · exact s.refuseVend_kept _ _
    · split
      · exact s.refuseVend_kept _ _
      · split
        · exact State.acceptVend_kept phase _
        · exact s.refuseVend_kept _ _

theorem State.vendRequest_kept (s : State) (code : Half) : s.Kept (s.vendRequest code).state := by
  unfold State.vendRequest
  split
  · exact s.refuseVend_kept _ _
  · split
    · exact s.refuseVend_kept _ _
    · split
      · exact s.refuseVend_kept _ _
      · next phase => exact State.vendFrom_kept (.inl phase) _
      · next phase => exact State.vendFrom_kept (.inr phase) _
      · exact s.refuseVend_kept _ _

theorem State.billStacked_kept (s : State) : s.Kept s.billStacked := by
  unfold State.billStacked
  split
  · next phase =>
    have still : s.sesc.phase ≠ .vending := by simp [phase]
    have stacked : s.Kept s.stacked :=
      ((State.stacked_lawful phase).aloof .of_same rfl still).kept
    have tests (work : WorkListLaw s) : ∀ e ∈ s.stacked.sdc.list, e.isVend = false := work.noVend still
    have begun : s.Powered s.stacked := .of_same
    dsimp only
    split
    · next v _ =>
      exact (begun.trans (State.enqueue_powered _ v)).kept (fun sound => State.enqueue_sound v sound)
        (fun law => ((State.enqueue_still _ v).trans (State.takeHead_still _)).lawful.session (stacked.session law))
        fun law work => State.enqueue_takeHead_work v (stacked.work law work) (tests work) rfl
    · exact stacked
  · exact (s.raise_apart _).kept

/-! ### Replies on the Cash Bus (R115 to R128) -/

theorem State.busEvent_kept (s : State) (p : Peripheral) (e : BusEvent) : s.Kept (s.busEvent p e) := by
  cases e with
  | deviceFault code =>
    have fault := (s.deviceFault_aloof p code).kept
    cases p <;> exact fault
  | justReset =>
    have restart := (s.justReset_aloof p).kept
    cases p <;> exact restart
  | coinRejected => cases p <;> exact .refl s
  | coinAccepted cls toTube =>
    cases p
    · exact (s.coinAccepted_aloof cls toTube).kept
    · exact .refl s
  | billEscrowed cls =>
    cases p
    · exact .refl s
    · exact (s.billEscrowed_aloof cls).kept
  | billStacked =>
    cases p
    · exact .refl s
    · exact s.stopWatch_apart.kept.trans (State.billStacked_kept _)
  | billReturned =>
    cases p
    · exact .refl s
    · exact s.stopWatch_apart.kept.trans (State.billReturned_aloof _).kept

theorem busEvents_kept (p : Peripheral) (es : List BusEvent) (s : State) : s.Kept (busEvents p es s) := by
  induction es generalizing s with
  | nil => exact .refl s
  | cons e es ih =>
    exact ((s.busEvent_kept p e).trans (State.closeEvent_apart _ _).kept).trans (ih _)

theorem State.pollTaken_kept (s : State) (p : Peripheral) (es : List BusEvent) : s.Kept (s.pollTaken p es) := by
  have begun : s.Apart ((s.editPeriph p fun r => { r with outstanding := none }).setBus (.confirming p)) := {}
  exact (begun.kept.trans (busEvents_kept p es _)).trans
    (State.editPeriph_apart _ p fun r => { r with resetExpected := false }).kept

theorem State.closeExchange_kept {f : State → State} (h : s.Kept (f s)) : s.Kept (s.closeExchange f) :=
  h.trans ((State.closeEvent_apart _ _).trans (State.endExchange_apart _)).kept

theorem State.replyFails_kept (s : State) : s.Kept s.replyFails := by
  unfold State.replyFails
  split
  · exact State.closeExchange_kept (s.exchangeFails_aloof _ _).kept
  · exact .refl s

theorem State.replyAck_kept (s : State) : s.Kept s.replyAck := by
  unfold State.replyAck
  split
  · refine State.closeExchange_kept ?_
    split
    · exact (s.comeOnline_apart _).kept
    · split
      · exact .refl s
      · split
        · exact (s.commandAcked_aloof _ _).kept
        · exact (s.attemptFails_aloof _).kept
  · exact .refl s

theorem State.replySetup_kept (s : State) (chars : List Byte) : s.Kept (s.replySetup chars) := by
  unfold State.replySetup
  split
  · split
    · split
      · exact (s.setupTaken_apart _ _).kept
      · exact s.replyFails_kept
    · exact s.replyFails_kept
  · exact .refl s

theorem State.replyPoll_kept (s : State) (chars : List Byte) : s.Kept (s.replyPoll chars) := by
  unfold State.replyPoll
  split
  · split
    · split
      · exact s.pollTaken_kept _ _
      · exact s.replyFails_kept
    · exact s.replyFails_kept
  · exact .refl s

/-! ### The power-fail warning (R203) -/

theorem State.warned_kept (s : State) : s.Kept s.warned := by
  have noted : s.Powered { s with lba := { s.lba with pfw := true } } := State.lba_powered fun _ => id
  have aside : s.Aside s.warned :=
    (State.Aside.trans (t := { s with lba := { s.lba with pfw := true } }) rfl
      (State.setBand_aside _ _)).trans (State.grantPass_aside _)
  exact aside.kept ((noted.trans (State.setBand_powered _ _)).trans (State.grantPass_powered _))

theorem State.warnBlocks_kept (s : State) : s.Kept s.warnBlocks :=
  ((s.warned_kept.trans (State.stopDrive_kept _)).trans (State.stopPayout_aloof _).kept).trans
    ((State.stopMove_aside _).kept (State.stopMove_powered _))

theorem State.assertWarning_kept (s : State) : s.Kept s.assertWarning := by
  unfold State.assertWarning
  split
  · exact .refl s
  · exact (s.warnBlocks_kept.trans (State.closeEvent_apart _ s.sesc).kept).trans (State.Apart.kept {})

end Sys2Proof.Machine
end

section
/-! SUPPORT. Every command keeps the grant law, the off-time law and the form of the work list, or starts the part
anew (R50, R58, R176, R179). -/

namespace Sys2Proof.Machine

variable {s t : State}

/-! ### Times that run out -/

theorem State.expire_kept_of (s : State) (left : Option Nat) {f : State → State}
    (h : ∀ d, left = some d → (s.elapse d).Kept (f (s.elapse d))) : s.Kept (s.expire left f) := by
  cases left with
  | none => exact .refl s
  | some d => exact (s.elapse_kept d).trans (h d rfl)

theorem State.reach_kept (s : State) (runs : Bool) (elapsed limit : Nat) {f : State → State}
    (h : runs = true → ∀ d, limit - elapsed ≤ d → (s.elapse d).Kept (f (s.elapse d))) :
    s.Kept (s.reach runs elapsed limit f) := by
  refine s.expire_kept_of _ fun d left => ?_
  cases runs with
  | false => cases left
  | true =>
    cases left
    exact h rfl _ le_rfl

/-! ### Settings (R196) -/

theorem State.settingWritten_drive (s : State) (num : Nat) :
    (s.settingWritten num).sdc = s.sdc ∧ (s.settingWritten num).sesc.phase = s.sesc.phase := by
  have aside {x : State} (h : s.Aside x) : x.sdc = s.sdc ∧ x.sesc.phase = s.sesc.phase := by
    obtain ⟨-, -, -, -, sesc, sdc, -⟩ := h.unchanged
    exact ⟨sdc, by rw [sesc]⟩
  have apart {x : State} (h : s.Apart x) : x.sdc = s.sdc ∧ x.sesc.phase = s.sesc.phase :=
    ⟨h.sdc, by rw [h.sesc]⟩
  unfold State.settingWritten
  split
  · exact apart s.updateMasks_apart
  · unfold State.inactivityWritten
    split <;> exact ⟨rfl, rfl⟩
  · exact apart s.evalExact_apart
  · exact aside (s.promoteAllDue_aside.trans (State.grantPass_aside _))
  · split
    · exact aside ((s.promoteIfDue_aside _).trans (State.grantPass_aside _))
    · split
      · exact aside s.grantPass_aside
      · exact aside (s.rfcSettingWritten_aside _)

theorem State.writeSetting_kept (s : State) (num : Nat) (v : Int) : s.Kept (s.writeSetting num v).state := by
  have drive : (s.writeSetting num v).state.sdc = s.sdc ∧
      (s.writeSetting num v).state.sesc.phase = s.sesc.phase := by
    unfold State.writeSetting
    split
    · exact ⟨rfl, rfl⟩
    · exact State.settingWritten_drive _ num
  exact State.Aloof.kept ⟨s.writeSetting_powered num v, (s.writeSetting_lawful num v).session, drive.1,
    fun _ phase => drive.2.trans phase⟩

/-! ### What a command does -/

/-- What one command can make of power and drive work: within the laws, or anew from a power-on. -/
inductive PowerChange (s t : State) : Prop
  | kept (h : s.Kept t)
  | restarted (straps : BitVec 2) (h : t = s.boot straps)
  | lost (h : t = s.losePower)

theorem PowerChange.of_apart (h : s.Apart t) : PowerChange s t := .kept h.kept

theorem State.on_powerChange {f : State → State} (h : PowerChange s (f s)) : PowerChange s (s.on f) := by
  unfold State.on
  split
  · exact .of_apart {}
  · exact h

theorem State.on_kept {f : State → State} (h : s.Kept (f s)) : PowerChange s (s.on f) :=
  State.on_powerChange (.kept h)

theorem State.on_apart {f : State → State} (h : s.Apart (f s)) : PowerChange s (s.on f) := State.on_kept h.kept

theorem State.event_kept {f : State → State} (h : s.Kept (f s)) : PowerChange s (s.event f) :=
  State.on_kept (h.trans (State.closeEvent_apart _ _).kept)

theorem State.event_apart {f : State → State} (h : s.Apart (f s)) : PowerChange s (s.event f) :=
  State.event_kept h.kept

theorem State.host_kept (s : State) (code want len : Nat) {f : State → Reply} (h : s.Kept (f s).state) :
    PowerChange s (s.host code want len f) := by
  unfold State.host
  split
  · split
    · exact .kept ((h.trans (State.closeEvent_apart _ s.sesc).kept).trans (State.Apart.kept {}))
    · exact .of_apart {}
  · exact .of_apart {}

theorem State.host_apart (s : State) (code want len : Nat) {f : State → Reply} (h : s.Apart (f s).state) :
    PowerChange s (s.host code want len f) := s.host_kept _ _ _ h.kept

theorem State.host_reads_apart (s : State) (code want len : Nat) (st : Status) (body : State → List Field) :
    PowerChange s (s.host code want len fun x => x.reply st (body x)) := s.host_apart _ _ _ (.refl s)

theorem State.hostSave_powerChange (s : State) (code len : Nat) (isRestart : Bool) :
    PowerChange s (s.hostSave code len isRestart) := by
  unfold State.hostSave
  split
  · split <;> exact .of_apart {}
  · exact .of_apart {}

theorem State.onLink_powerChange {f : State → State} (h : PowerChange s (f s)) :
    PowerChange s (s.onLink f) := by
  unfold State.onLink
  split
  · exact h
  · exact .of_apart {}

/-- A command of the link that at most sets the receive slot leaves power and drive work. -/
theorem State.onLink_slot_apart (s : State) (p : State → Prop) [DecidablePred p] (x : Slot) :
    PowerChange s (s.onLink fun s => if p s then s.setSlot x else s) := by
  refine State.onLink_powerChange ?_
  split <;> exact .of_apart {}

theorem State.endResponse_powerChange (s : State) (straps : BitVec 2) :
    PowerChange s (s.endResponse straps) := by
  unfold State.endResponse
  split
  · exact .restarted straps rfl
  all_goals exact .of_apart {}

/-! ### The timers of RFC and the samples of SDC -/

theorem State.lockoutExpiry_kept (s : State) : s.Kept
    (s.reach (s.rfc.state == .lockout) s.rfc.offTime s.settings.minOffMs State.lockoutEnds) := by
  refine s.reach_kept _ _ _ fun lockout d left => ?_
  have lockout : s.rfc.state = .lockout := eq_of_beq lockout
  have counts : (s.elapse d).rfc.offTime = s.rfc.offTime + d := if_neg (by simp [lockout, RfcState.compressorOn])
  refine (State.lockoutEnds_aside _).kept (State.lockoutEnds_powered (s := s.elapse d) lockout ?_)
  rw [counts]
  exact Nat.sub_le_iff_le_add'.1 left

theorem State.startWindowExpiry_kept (s : State) :
    s.Kept (s.expire s.rfc.startWindow State.startWindowEnds) := by
  refine s.expire_kept_of _ fun d runs => (State.startWindowEnds_aside _).kept
    (State.startWindowEnds_powered fun h => ?_)
  have windowOpen : (s.elapse d).rfc.startWindow.isSome = true := (runDown_isSome _ d).trans (by rw [runs]; rfl)
  exact h.rfc.start windowOpen

theorem State.endDefrost_kept (defrost : s.rfc.state = .defrost) : s.Kept s.endDefrost :=
  s.endDefrost_aside.kept (State.endDefrost_powered defrost)

theorem State.dripExpiry_kept (s : State) : s.Kept
    (s.reach (s.rfc.state == .drip) s.rfc.dripTime s.settings.dripMs State.dripEnds) := by
  refine s.reach_kept _ _ _ fun drip d _ => (State.dripEnds_aside _).kept (State.dripEnds_powered ?_)
  have still : (s.elapse d).rfc.state = .drip := eq_of_beq drip
  rw [still]
  exact ⟨by decide, by decide⟩

theorem State.settleExpiry_kept (s : State) : s.Kept (s.expire s.sdc.settleTimer State.settleEnds) :=
  s.expire_kept_of _ fun d runs => State.settleEnds_kept ((runDown_isSome _ d).trans (by rw [runs]; rfl))

theorem State.exitWindowExpiry_kept {w : ExitWindow} (windowOpen : s.chu.payout.window = some w) :
    s.Kept ((s.elapse w.left).windowEnds w.tube) :=
  (s.elapse_kept _).trans (State.windowEnds_aloof (s := s.elapse w.left)
    ((Payout.elapse_window _ _).trans (by rw [windowOpen]; rfl)) _).kept

theorem State.defrostDue_kept (s : State) : s.Kept s.defrostDue := s.defrostDue_aside.kept s.defrostDue_powered

theorem State.defrostRequest_kept (s : State) : s.Kept s.defrostRequest.state := by
  unfold State.defrostRequest
  split
  · exact .refl s
  · exact s.defrostDue_kept

theorem State.minRun_kept (s : State) : s.Kept (if s.minRunStops then s.stopCompressor else s) := by
  refine State.Aside.kept ?_ s.minRunStops_powered
  split
  · exact s.stopCompressor_aside
  · exact .refl s

theorem State.setZoneRequest_kept (s : State) (q : ZoneReq) : s.Kept (s.setZoneRequest q).state := by
  unfold State.setZoneRequest
  split
  · split
    · exact .refl s
    · exact (s.writeZone_aside _ _).kept (s.writeZone_powered _ _)
  · exact .refl s

theorem State.minuteMark_kept (s : State) : s.Kept
    ((({ s.elapse s.ztc.minuteLeft with ztc := { (s.elapse s.ztc.minuteLeft).ztc with minuteLeft := minuteMs } }
      |>.markZone .z1).markZone .z2).markZone .z3) := by
  refine (s.elapse_kept s.ztc.minuteLeft).trans ?_
  generalize s.elapse s.ztc.minuteLeft = x
  exact ((State.Apart.trans (t := { x with ztc := { x.ztc with minuteLeft := minuteMs } }) {}
    (State.markZone_apart _ .z1)).trans ((State.markZone_apart _ .z2).trans (State.markZone_apart _ .z3))).kept

/-- Every command in every state does to power and drive work one of the things of `PowerChange`. -/
theorem exec_powerChange (s : State) (c : Instr) : ∃ t, exec c s = .next t ∧ PowerChange s t :=
  match c with
  | .powerOn straps => ⟨_, rfl, .restarted straps rfl⟩
  | .resetPin straps => ⟨_, rfl, State.on_powerChange (.restarted straps rfl)⟩
  | .restoreEnd => ⟨_, rfl, by unfold State.endRestore; split <;> exact .of_apart {}⟩
  | .pfwAssertion => ⟨_, rfl, State.on_kept s.assertWarning_kept⟩
  | .pfwDeassertion => ⟨_, rfl, State.event_kept (s.deassertWarning_aside.kept s.deassertWarning_powered)⟩
  | .saveEnd => ⟨_, rfl, State.on_apart s.endSave_apart⟩
  | .doorChange isOpen => ⟨_, rfl, State.event_kept (s.changeDoor_kept isOpen)⟩
  | .badFrame => ⟨_, rfl, by split <;> exact .of_apart {}⟩
  | .unknownRequest _ => ⟨_, rfl, by split <;> exact .of_apart {}⟩
  | .discardQuietTimeExpiry => ⟨_, rfl, s.onLink_slot_apart (fun s => s.hli.slot = .discarding) _⟩
  | .frameGapExpiry => ⟨_, rfl, s.onLink_slot_apart (fun s => s.hli.slot.collects) _⟩
  | .responseEnd straps => ⟨_, rfl, State.onLink_powerChange (s.endResponse_powerChange straps)⟩
  | .ident _ => ⟨_, rfl, s.host_reads_apart _ _ _ _ _⟩
  | .noticesRead _ => ⟨_, rfl, s.host_apart _ _ _ {}⟩
  | .settingRead _ num => ⟨_, rfl, s.host_apart _ _ _ (s.readSetting_apart _)⟩
  | .settingWrite _ num value => ⟨_, rfl, s.host_kept _ _ _ (s.writeSetting_kept _ _)⟩
  | .storeSave _ => ⟨_, rfl, s.hostSave_powerChange _ _ _⟩
  | .restart _ => ⟨_, rfl, s.hostSave_powerChange _ _ _⟩
  | .selFind _ code => ⟨_, rfl, s.host_apart _ _ _ (s.findSelection_apart code)⟩
  | .selNext _ after => ⟨_, rfl, s.host_apart _ _ _ (s.nextSelections_apart after)⟩
  | .selDefine _ d => ⟨_, rfl, s.host_apart _ _ _ (s.defineSelection_apart d)⟩
  | .selStockSet _ code index known n =>
    ⟨_, rfl, s.host_apart _ _ _ (s.withPosition_apart code index _ fun _ => {})⟩
  | .selStockAdd _ code index n =>
    ⟨_, rfl, s.host_apart _ _ _ (s.withPosition_apart code index _ fun _ => {})⟩
  | .selSuspend _ code => ⟨_, rfl, s.host_apart _ _ _ (s.withSel_apart code fun _ => {})⟩
  | .selResume _ code => ⟨_, rfl, s.host_apart _ _ _ (s.withSel_apart code fun _ => {})⟩
  | .selClearFault _ code index =>
    ⟨_, rfl, s.host_apart _ _ _ (s.withPosition_apart code index _ fun _ => {})⟩
  | .selRetire _ code => ⟨_, rfl, s.host_apart _ _ _ (s.retireSelection_apart code)⟩
  | .priceSet _ code set price => ⟨_, rfl, s.host_apart _ _ _ (s.setPrice_apart code set price)⟩
  | .priceSwap _ => ⟨_, rfl, s.host_apart _ _ _ {}⟩
  | .vend _ code => ⟨_, rfl, s.host_kept _ _ _ (s.vendRequest_kept code)⟩
  | .cancel _ => ⟨_, rfl, s.host_kept _ _ _ s.cancelRequest_aloof.kept⟩
  | .cashlessOpen _ amount => ⟨_, rfl, s.host_kept _ _ _ (s.cashlessOpenRequest_aloof amount).kept⟩
  | .cashlessClose _ => ⟨_, rfl, s.host_kept _ _ _ s.cashlessCloseRequest_aloof.kept⟩
  | .sessionRead _ => ⟨_, rfl, s.host_reads_apart _ _ _ _ _⟩
  | .driveTest _ row col => ⟨_, rfl, s.host_kept _ _ _ (s.testRequest_kept _ _)⟩
  | .driveRead _ => ⟨_, rfl, s.host_reads_apart _ _ _ _ _⟩
  | .tubeDefine _ tube denom capacity lowMark =>
    ⟨_, rfl, s.host_apart _ _ _ (s.defineTube_apart tube denom capacity lowMark)⟩
  | .tubeSetCount _ tube count => ⟨_, rfl, s.host_apart _ _ _ (s.setCount_apart tube count)⟩
  | .tubeEnable _ tube => ⟨_, rfl, s.host_apart _ _ _ (s.setTubeState_apart tube .ok)⟩
  | .tubeDisable _ tube => ⟨_, rfl, s.host_apart _ _ _ (s.setTubeState_apart tube .disabled)⟩
  | .tubeRead _ => ⟨_, rfl, s.host_reads_apart _ _ _ _ _⟩
  | .classSet _ cls enabled tube => ⟨_, rfl, s.host_apart _ _ _ (s.setClass_apart cls enabled tube)⟩
  | .billSet _ cls enabled => ⟨_, rfl, s.host_apart _ _ _ (s.setBill_apart cls enabled)⟩
  | .classRead _ => ⟨_, rfl, s.host_reads_apart _ _ _ _ _⟩
  | .totalsRead _ => ⟨_, rfl, s.host_reads_apart _ _ _ _ _⟩
  | .totalsClear _ => ⟨_, rfl, s.host_apart _ _ _ s.clearTotals_apart⟩
  | .payoutTest _ tube n => ⟨_, rfl, s.host_kept _ _ _ (s.payoutTest_aloof tube n).kept⟩
  | .probeSet _ p1 p2 p3 p4 => ⟨_, rfl, s.host_apart _ _ _ (s.setProbes_apart p1 p2 p3 p4)⟩
  | .payoutRead _ => ⟨_, rfl, s.host_reads_apart _ _ _ _ _⟩
  | .cashbusReset _ address => ⟨_, rfl, s.host_apart _ _ _ (s.busReset_apart address)⟩
  | .cashbusRead _ => ⟨_, rfl, s.host_reads_apart _ _ _ _ _⟩
  | .loadRead _ => ⟨_, rfl, s.host_reads_apart _ _ _ _ _⟩
  | .measRead _ => ⟨_, rfl, s.host_reads_apart _ _ _ _ _⟩
  | .zoneSet _ z => ⟨_, rfl, s.host_kept _ _ _ (s.setZoneRequest_kept z)⟩
  | .zoneRead _ => ⟨_, rfl, s.host_reads_apart _ _ _ _ _⟩
  | .zoneClearHold _ zone => ⟨_, rfl, s.host_apart _ _ _ (s.clearHoldRequest_apart zone)⟩
  | .refrigDefrost _ => ⟨_, rfl, s.host_kept _ _ _ s.defrostRequest_kept⟩
  | .refrigRead _ => ⟨_, rfl, s.host_reads_apart _ _ _ _ _⟩
  | .inactivityExpiry => ⟨_, rfl, State.event_kept (s.expire_kept _ fun x => x.timeOut_aloof.kept)⟩
  | .serveSlot => ⟨_, rfl, State.on_kept ((s.elapse_kept _).trans (State.openSlot_apart _).kept)⟩
  | .masterFrameSent => ⟨_, rfl, State.on_apart s.frameSent_apart⟩
  | .replyWindowExpiry => ⟨_, rfl, State.on_kept (s.expire_kept _ State.replyFails_kept)⟩
  | .replyGapExpiry => ⟨_, rfl, State.on_kept s.replyFails_kept⟩
  | .ack => ⟨_, rfl, State.on_kept s.replyAck_kept⟩
  | .nak => ⟨_, rfl, State.on_kept s.replyFails_kept⟩
  | .badReply => ⟨_, rfl, State.on_kept s.replyFails_kept⟩
  | .setupReply chars => ⟨_, rfl, State.on_kept (s.replySetup_kept chars)⟩
  | .pollReply chars => ⟨_, rfl, State.on_kept (s.replyPoll_kept chars)⟩
  | .confirmationSent => ⟨_, rfl, State.on_apart s.confirmed_apart⟩
  | .probeTimeExpiry p => ⟨_, rfl, State.on_kept (by
      split
      · exact .refl s
      · exact s.elapse_kept _)⟩
  | .stackWatchExpiry =>
    ⟨_, rfl, State.event_kept (s.expire_kept _ fun x => (x.goOffline_aloof .bill).kept)⟩
  | .fullSwitchChange tube active => ⟨_, rfl, State.event_apart (s.fullReads_apart _ active)⟩
  | .lowSwitchChange tube low => ⟨_, rfl, State.event_apart (s.lowReads_apart _ low)⟩
  | .payoutGrant => ⟨_, rfl, State.event_kept s.takePayout_aloof.kept⟩
  | .pulseEnd => ⟨_, rfl, State.event_kept (s.expire_kept _ fun x => x.pulseEnd_aloof.kept)⟩
  | .exitCount => ⟨_, rfl, State.event_kept s.exitCount_aloof.kept⟩
  | .exitWindowExpiry => ⟨_, rfl, State.event_kept (by
      split
      · next windowOpen => exact State.exitWindowExpiry_kept windowOpen
      · exact .refl s)⟩
  | .spiralGrant homeOpen => ⟨_, rfl, State.event_kept (s.takeSpiral_kept homeOpen)⟩
  | .powerTimerExpiry => ⟨_, rfl, State.event_kept (s.expire_kept _ fun x => x.endEntry_kept .noPower)⟩
  | .homeSwitchOpens => ⟨_, rfl, State.event_kept s.homeOpens_kept⟩
  | .homeSwitchCloses => ⟨_, rfl, State.event_kept (by
      split
      · next turning => exact State.revolution_kept turning
      · exact .refl s)⟩
  | .leaveTimerExpiry => ⟨_, rfl, State.event_kept (s.expire_kept _ fun x => x.endFailed_kept _)⟩
  | .turnTimerExpiry => ⟨_, rfl, State.event_kept (s.expire_kept _ fun x => x.endFailed_kept _)⟩
  | .currentSample code => ⟨_, rfl, State.event_kept (by
      split
      · exact (s.elapse_kept _).trans (State.takeSample_kept _ _ _)
      · exact .refl s)⟩
  | .settleWindowExpiry => ⟨_, rfl, State.event_kept s.settleExpiry_kept⟩
  | .curtainInterruptionBegins => ⟨_, rfl, State.event_kept s.curtainBegins_kept⟩
  | .curtainInterruptionEnds => ⟨_, rfl, State.event_kept (by
      split
      · exact .refl s
      · exact s.setCurtain_kept _ _)⟩
  | .blockTimerExpiry => ⟨_, rfl, State.event_kept (s.expire_kept _ fun x => x.setCurtain_kept _ _)⟩
  | .passEnd codes => ⟨_, rfl, State.event_kept ((s.elapse_kept _).trans (State.endPass_apart _ codes).kept)⟩
  | .zoneTemperature zone =>
    ⟨_, rfl, State.event_kept ((s.zoneTakes_aside zone).kept (s.zoneTakes_powered zone))⟩
  | .vdriveValue => ⟨_, rfl, State.event_kept (s.vdriveTakes_aside.kept s.vdriveTakes_powered)⟩
  | .evaporatorValue => ⟨_, rfl, State.event_kept (s.evapTakes_aside.kept s.evapTakes_powered)⟩
  | .promotion load => ⟨_, rfl, State.event_kept
      (s.expire_kept _ fun x => (x.promote_aside load).kept (x.promote_powered load))⟩
  | .damperGrant => ⟨_, rfl, State.event_kept (s.takeDamper_aside.kept s.takeDamper_powered)⟩
  | .damperMoveEnd =>
    ⟨_, rfl, State.event_kept (s.expire_kept _ fun x => x.endMove_aside.kept x.endMove_powered)⟩
  | .minuteMark => ⟨_, rfl, State.event_kept s.minuteMark_kept⟩
  | .compressorGrant => ⟨_, rfl, State.event_kept (s.takeCompressor_aside.kept s.takeCompressor_powered)⟩
  | .defrostGrant => ⟨_, rfl, State.event_kept (s.takeDefrost_aside.kept s.takeDefrost_powered)⟩
  | .lockoutExpiry => ⟨_, rfl, State.event_kept s.lockoutExpiry_kept⟩
  | .startWindowEnd => ⟨_, rfl, State.event_kept s.startWindowExpiry_kept⟩
  | .minRunExpiry => ⟨_, rfl, State.event_kept (s.expire_kept _ fun x => x.minRun_kept)⟩
  | .maxContinuousRunExpiry => ⟨_, rfl, State.event_kept (s.expire_kept _ State.defrostDue_kept)⟩
  | .defrostIntervalExpiry => ⟨_, rfl, State.event_kept (s.expire_kept _ State.defrostDue_kept)⟩
  | .heaterTimeLimitExpiry => ⟨_, rfl, State.event_kept (s.reach_kept _ _ _ fun runs _ _ =>
      State.endDefrost_kept (s := s.elapse _) (eq_of_beq (Bool.and_eq_true_iff.1 runs).1))⟩
  | .defrostWallTimeExpiry => ⟨_, rfl, State.event_kept (s.reach_kept _ _ _ fun runs _ _ =>
      State.endDefrost_kept (s := s.elapse _) (eq_of_beq runs))⟩
  | .dripTimeExpiry => ⟨_, rfl, State.event_kept s.dripExpiry_kept⟩
  | .recoveryWindowExpiry =>
    ⟨_, rfl, State.event_kept (s.expire_kept _ fun x => x.recoveryEnds_aside.kept x.recoveryEnds_powered)⟩
  | .powerLoss => ⟨_, rfl, .lost rfl⟩
  | .frameStart => ⟨_, rfl, s.onLink_slot_apart (fun s => s.hli.slot = .idle) _⟩
  | .lenOutOfRange => ⟨_, rfl, s.onLink_slot_apart (fun s => s.hli.slot.collects) _⟩
  | .curtainFirstReading interrupted => ⟨_, rfl, State.event_kept (by
      split
      · exact .refl s
      · split <;> exact s.setCurtain_kept _ _)⟩

/-- A step does to power and drive work what its command does; an idle step lets time pass. -/
theorem step_powerChange (h : step s = .next t) : ∃ q, PowerChange (s.withPending q) t := by
  unfold step at h
  split at h
  · cases h
    refine ⟨s.pending, ?_⟩
    unfold State.idle State.on
    split
    · exact .of_apart {}
    · exact .kept (s.elapse_kept 1)
  · next c rest _ =>
    obtain ⟨u, hu, change⟩ := exec_powerChange (s.withPending rest) c
    rw [hu] at h
    cases h
    exact ⟨rest, change⟩

/-! ### Power-on and power loss (R206) -/

/-- After a power-on nothing is on, no load holds a grant, and the compressor waits in LOCKOUT (R190). -/
theorem boot_grants (s : State) (straps : BitVec 2) : GrantLaw (s.boot straps) := by
  refine grantLaw_iff.2 ⟨.of_off rfl rfl rfl, ⟨fun l use => ?_, ⟨?_, ?_⟩, ⟨?_, ?_⟩⟩⟩
  · cases l <;> cases use
  all_goals exact fun on => nomatch on

theorem boot_offTime (s : State) (straps : BitVec 2) : OffTimeLaw (s.boot straps) := fun state => by
  rcases state with state | state <;> cases state

theorem boot_work (s : State) (straps : BitVec 2) : WorkListLaw (s.boot straps) := by
  have started : (s.boot straps).sdc = Sdc.initial := rfl
  constructor <;> simp [State.testCount, started, Sdc.initial]

/-- Without supply the part stands as after a reset. -/
theorem losePower_apart (s : State) : State.reset.Apart s.losePower := {}

end Sys2Proof.Machine
end

section
/-! SUPPORT. The output lines under the grant law: each follows its record, and is backed by its grant (R58, R101,
R167, R177, R185). -/

namespace Sys2Proof.Machine

variable {s t : State}

theorem State.drives_of_on (on : s.power ≠ .off) : s.drives = true := bne_iff_ne.2 on

theorem State.drives_of_off (off : s.power = .off) : s.drives = false := by simp [State.drives, off]

/-- Without supply every line is released. -/
theorem State.lines_released (off : s.power = .off) : s.rowLine = none ∧ s.columnLines = [] ∧
    s.payLine = none ∧ s.damperLine = none ∧ s.comp = false ∧ s.cfan = false ∧ s.heat = false ∧
    s.efan = false := by
  have dark := State.drives_of_off off
  simp [State.rowLine, State.columnLines, State.payLine, State.damperLine, State.comp, State.cfan, State.heat,
    State.efan, dark]

/-- The pay line driven is that of the open window's tube, while the pulse runs (R101). -/
theorem State.payLine_eq_some (on : s.power ≠ .off) (i : Nat) : s.payLine = some i ↔
    s.chu.payout.pulse.isSome = true ∧ ∃ left, s.chu.payout.window = some ⟨i, left⟩ := by
  simp only [State.payLine, State.drives_of_on on, Bool.true_and]
  cases s.chu.payout.pulse with
  | none => simp
  | some d =>
    cases s.chu.payout.window with
    | none => simp
    | some w =>
      obtain ⟨tube, left⟩ := w
      simp

theorem RfcState.compressorOn_iff (x : RfcState) : x.compressorOn = true ↔ x = .starting ∨ x = .running := by
  cases x <;> simp [RfcState.compressorOn]

theorem State.columnLines_of_unit (on : s.power ≠ .off) {u : DriveUnit} (h : s.sdc.energized = some u) :
    s.columnLines = if u.twin then [u.col, u.col + 1] else [u.col] := by
  simp only [State.columnLines, State.drives_of_on on, h, if_true]

theorem State.columnLines_of_none (h : s.sdc.energized = none) : s.columnLines = [] := by
  simp only [State.columnLines, h, ite_self]

/-- With supply each line follows its record. -/
theorem State.lines_follow (on : s.power ≠ .off) : s.rowLine = s.sdc.energized.map DriveUnit.row ∧
    (s.sdc.energized = none → s.columnLines = []) ∧
    (∀ u, s.sdc.energized = some u →
      s.columnLines = if u.twin then [u.col, u.col + 1] else [u.col]) ∧
    (∀ i, s.payLine = some i ↔ s.chu.payout.pulse.isSome = true ∧
      ∃ left, s.chu.payout.window = some ⟨i, left⟩) ∧
    s.damperLine = s.ztc.running.map Move.zone ∧
    (s.comp = true ↔ s.rfc.state = .starting ∨ s.rfc.state = .running) ∧ s.cfan = s.comp ∧
    s.heat = s.rfc.heaterOn ∧ s.efan = !s.rfc.heaterOn := by
  have lit := State.drives_of_on on
  refine ⟨if_pos lit, State.columnLines_of_none, fun _ => State.columnLines_of_unit on, State.payLine_eq_some on,
    if_pos lit, ?_, rfl, ?_, ?_⟩
  · simp only [State.comp, lit, Bool.true_and, RfcState.compressorOn_iff]
  · simp only [State.heat, lit, Bool.true_and]
  · simp only [State.efan, lit, Bool.true_and]

/-- A line that draws power stands for a load that is used. -/
theorem State.lines_use (h : s.Supplied) : (s.rowLine.isSome = true → s.uses .spiral = true) ∧
    (s.payLine.isSome = true → s.uses .payout = true) ∧ (s.damperLine.isSome = true → s.uses .damper = true) ∧
    (s.comp = true → s.uses .compressor = true) ∧ (s.heat = true → s.uses .defrost = true) := by
  refine ⟨fun row => ?_, fun pay => ?_, fun damper => ?_, fun comp => (Bool.and_eq_true_iff.1 comp).2,
    fun heat => (Bool.and_eq_true_iff.1 heat).2⟩
  · unfold State.rowLine at row
    split at row
    · rw [Option.isSome_map] at row
      exact row
    · cases row
  · unfold State.payLine at pay
    split at pay
    · next pulsing => exact beq_iff_eq.2 (h.payout.pulse (Bool.and_eq_true_iff.1 pulsing).2)
    · cases pay
  · unfold State.damperLine at damper
    split at damper
    · rw [Option.isSome_map] at damper
      exact damper
    · cases damper

/-- The heater is on in DEFROST alone, where the compressor is off (R177, R185). -/
theorem State.comp_heat (h : s.Supplied) : ¬(s.comp = true ∧ s.heat = true) := fun ⟨comp, heat⟩ => by
  have on : s.rfc.state.compressorOn = true := (Bool.and_eq_true_iff.1 comp).2
  have hot : s.rfc.heaterOn = true := (Bool.and_eq_true_iff.1 heat).2
  rw [h.rfc.heater hot] at on
  cases on

/-! ### The laws of every step -/

theorem State.withPending_apart (s : State) (q : List Instr) : s.Apart (s.withPending q) := {}

theorem step_grants (law : GrantLaw s) (hstep : step s = .next t) : GrantLaw t := by
  obtain ⟨q, change⟩ := step_powerChange hstep
  cases change with
  | kept h => exact ((s.withPending_apart q).kept.trans h).grants law
  | restarted straps h => subst h; exact boot_grants _ straps
  | lost h => subst h; exact (losePower_apart _).kept.grants reset_safe.grants

theorem step_offTime (law : OffTimeLaw s) (hstep : step s = .next t) : OffTimeLaw t := by
  obtain ⟨q, change⟩ := step_powerChange hstep
  cases change with
  | kept h => exact ((s.withPending_apart q).kept.trans h).offTime law
  | restarted straps h => subst h; exact boot_offTime _ straps
  | lost h => subst h; exact (losePower_apart _).kept.offTime reset_safe.offTime

/-- Settles O56: each change a step can make (`step_powerChange`) keeps both laws, and under the grant law each line
that draws power stands for a load in use, which is granted. -/
theorem grantsAndOffTimeKept : Obligations.GrantsAndOffTimeKept := by
  refine ⟨fun s t => step_grants, fun s t => step_offTime, fun s law => ?_⟩
  obtain ⟨-, supplied⟩ := grantLaw_iff.1 law
  obtain ⟨row, pay, damper, comp, heat⟩ := State.lines_use supplied
  exact ⟨State.lines_released, State.lines_follow, fun on => supplied.fed _ (row on),
    fun on => supplied.fed _ (pay on), fun on => supplied.fed _ (damper on), fun on => supplied.fed _ (comp on),
    fun on => supplied.fed _ (heat on), State.comp_heat supplied⟩

/-- Settles O58: each change a step can make (`step_powerChange`) keeps the form of the list under the session's
law. -/
theorem workListKept : Obligations.WorkListKept := by
  intro s t session work hstep
  obtain ⟨q, change⟩ := step_powerChange hstep
  cases change with
  | kept h => exact ((s.withPending_apart q).kept.trans h).work session work
  | restarted straps h => subst h; exact boot_work _ straps
  | lost h => subst h; exact (losePower_apart _).kept.work reset_safe.session reset_safe.work

end Sys2Proof.Machine
end

section
/-! SUPPORT. The drop curtain: its moves, its first reading, and its drop events (R64, R65, R69, R72). -/

namespace Sys2Proof.Machine

variable {s : State}

/-- An event that leaves what the SESSION notice shows ends as it acts (R28). -/
theorem exec_of_quiet_event {c : Instr} {f : State → State} {r : State} (arm : exec c s = .next (s.event f))
    (on : s.power ≠ .off) (acts : f s = r) (view : r.sesc.view = s.sesc.view) : exec c s = .next r := by
  rw [exec_of_event arm on acts, State.closeEvent_of_view _ view]

/-! ### Drop events by the sequencer's state (R65, R69) -/

theorem State.dropEvent_of_rest (seq : s.sdc.seq = .idle ∨ s.sdc.seq = .awaitPower) :
    s.dropEvent = s.raise .dropUnattributed := by
  rcases seq with h | h <;> simp only [State.dropEvent, h]

theorem State.dropEvent_of_turn (seq : s.sdc.seq = .leavingHome ∨ s.sdc.seq = .turning) :
    s.dropEvent = s.editHead fun e => { e with delivered := true } := by
  rcases seq with h | h <;> simp only [State.dropEvent, h]

theorem State.curtainBegins_of_clear (clear : s.sdc.curtain = .clear) :
    s.curtainBegins = (s.setCurtain .interrupted (some 500)).dropEvent := if_pos clear

theorem State.curtainBegins_of_not_clear (not : s.sdc.curtain ≠ .clear) : s.curtainBegins = s := if_neg not

/-- The start of an interruption while nothing turns or settles is a drop of no entry (R69). -/
theorem exec_curtainBegins_of_rest (on : s.power ≠ .off) (clear : s.sdc.curtain = .clear)
    (seq : s.sdc.seq = .idle ∨ s.sdc.seq = .awaitPower) : exec .curtainInterruptionBegins s =
      .next ((s.setCurtain .interrupted (some 500)).raise .dropUnattributed) :=
  exec_of_quiet_event rfl on ((State.curtainBegins_of_clear clear).trans
    (State.dropEvent_of_rest (s := s.setCurtain .interrupted (some 500)) seq)) rfl

/-- The start of an interruption during a turn marks the RUNNING entry (R65). -/
theorem exec_curtainBegins_of_turn {e : DriveEntry} {rest : List DriveEntry} (on : s.power ≠ .off)
    (clear : s.sdc.curtain = .clear) (seq : s.sdc.seq = .leavingHome ∨ s.sdc.seq = .turning)
    (list : s.sdc.list = e :: rest) : exec .curtainInterruptionBegins s = .next { s with sdc := { s.sdc with
      curtain := .interrupted, curtainRead := true, blockTimer := some 500,
      list := { e with delivered := true } :: rest } } := by
  refine exec_of_quiet_event rfl on ?_ rfl
  rw [State.curtainBegins_of_clear clear, State.dropEvent_of_turn (s := s.setCurtain .interrupted (some 500)) seq]
  simp only [State.editHead, State.setCurtain, State.setList, State.setSdc, list, modifyAt]

theorem exec_curtainEnds (on : s.power ≠ .off) (not : s.sdc.curtain ≠ .clear) :
    exec .curtainInterruptionEnds s = .next (s.setCurtain .clear none) :=
  exec_of_quiet_event rfl on (if_neg not) rfl

theorem exec_blockTimer {d : Nat} (on : s.power ≠ .off) (runs : s.sdc.blockTimer = some d) :
    exec .blockTimerExpiry s = .next ((s.elapse d).setCurtain .blocked none) :=
  exec_of_quiet_event rfl on (by simp only [State.expire, runs]) rfl

/-- The first reading after power-on is no drop event (R72). -/
theorem exec_curtainFirstReading (on : s.power ≠ .off) (first : s.sdc.curtainRead = false) (interrupted : Bool) :
    exec (.curtainFirstReading interrupted) s = .next
      (if interrupted then s.setCurtain .interrupted (some 500) else s.setCurtain .clear none) := by
  refine exec_of_quiet_event rfl on ?_ ?_
  · simp only [first, Bool.false_eq_true, if_false]
    rfl
  · cases interrupted <;> rfl

/-- Settles O28, move by move of R64's table. -/
theorem curtainMoves : Obligations.CurtainMoves := fun _ on =>
  ⟨exec_curtainBegins_of_rest on, fun _ _ clear seq list => exec_curtainBegins_of_turn on clear seq list,
    fun not => ⟨exec_of_quiet_event rfl on (State.curtainBegins_of_not_clear not) rfl, exec_curtainEnds on not⟩,
    fun _ runs => exec_blockTimer on runs,
    fun first => ⟨exec_curtainFirstReading on first true, exec_curtainFirstReading on first false⟩⟩

end Sys2Proof.Machine
end

section
/-! SUPPORT. A turn from its grant to SETTLING, its extra revolutions, and the current samples that let it go on
(R57 to R63). -/

namespace Sys2Proof.Machine

variable {s : State}

/-! ### The grant and the home switch (R57 to R60) -/

/-- The grant taken in its turn switches the unit of the RUNNING entry on (R57, R58). -/
theorem exec_spiralGrant {e : DriveEntry} {rest : List DriveEntry} (on : s.power ≠ .off)
    (list : s.sdc.list = e :: rest) (homeOpen : Bool) (awaits : s.sdc.seq = .awaitPower)
    (granted : (s.load .spiral).isGranted = true) (turn : s.inTurn .spiral = true) :
    exec (.spiralGrant homeOpen) s = .next ((s.tookGrant .spiral).energize e.unit homeOpen) := by
  refine exec_of_quiet_event rfl on ?_ rfl
  have seq : (s.tookGrant .spiral).sdc.seq = .awaitPower := awaits
  have head : (s.tookGrant .spiral).sdc.list = e :: rest := list
  simp only [State.takeSpiral, State.takeGrant, granted, turn, Bool.and_true, if_true, seq, head]

theorem exec_homeOpens (on : s.power ≠ .off) (leaving : s.sdc.seq = .leavingHome) :
    exec .homeSwitchOpens s = .next { s with
      sdc := { s.sdc with seq := .turning, leaveTimer := none, turnTimer := some 6000 } } :=
  exec_of_quiet_event rfl on (if_pos leaving) rfl

/-- A revolution counted for the RUNNING entry `e`, its turn timer stopped (R60). -/
def State.revolved (s : State) (e : DriveEntry) (rest : List DriveEntry) : State :=
  s.setSdc { s.sdc with
    turnTimer := none, list := { e with revolutions := e.revolutions + 1 } :: rest }

/-- A closing of the home switch without a delivery: on to the next revolution, or into SETTLING (R60). -/
theorem State.revolution_undelivered {e : DriveEntry} {rest : List DriveEntry} (list : s.sdc.list = e :: rest)
    (undelivered : e.delivered = false) : s.revolution =
      if e.extra = false ∧ e.revolutions + 1 < e.turns then
        (s.revolved e rest).setSdc { (s.revolved e rest).sdc with
          seq := .leavingHome, leaveTimer := some leaveTimerMs }
      else (s.revolved e rest).enterSettling := by
  simp only [State.revolution, list, undelivered, Bool.false_eq_true, if_false]
  rfl

theorem exec_homeCloses {r : State} (on : s.power ≠ .off) (turning : s.sdc.seq = .turning)
    (acts : s.revolution = r) (sesc : r.sesc = s.sesc) : exec .homeSwitchCloses s = .next r :=
  exec_of_quiet_event rfl on ((if_pos turning).trans acts) (by rw [sesc])

theorem exec_homeCloses_goes_on {e : DriveEntry} {rest : List DriveEntry} (on : s.power ≠ .off)
    (list : s.sdc.list = e :: rest) (turning : s.sdc.seq = .turning) (undelivered : e.delivered = false)
    (extra : e.extra = false) (more : e.revolutions + 1 < e.turns) :
    exec .homeSwitchCloses s = .next { s with sdc := { s.sdc with
      list := { e with revolutions := e.revolutions + 1 } :: rest
      seq := .leavingHome, turnTimer := none, leaveTimer := some 1000 } } :=
  exec_homeCloses on turning ((State.revolution_undelivered list undelivered).trans (if_pos ⟨extra, more⟩)) rfl

/-- What the entry into SETTLING leaves (R60, R61). -/
theorem State.enterSettling_leaves (s : State) : s.enterSettling.load .spiral = .none ∧
    s.enterSettling.selt = s.selt ∧ s.enterSettling.sesc = s.sesc ∧ s.enterSettling.chu = s.chu := by
  have spiral : s.enterSettling.load .spiral = .none := s.deenergize_load_spiral
  refine ⟨spiral, ?_⟩
  simp [State.enterSettling]

theorem exec_homeCloses_settles {e : DriveEntry} {rest : List DriveEntry} (on : s.power ≠ .off)
    (list : s.sdc.list = e :: rest) (turning : s.sdc.seq = .turning) (undelivered : e.delivered = false)
    (last : e.extra = true ∨ e.turns ≤ e.revolutions + 1) :
    exec .homeSwitchCloses s = .next (s.revolved e rest).enterSettling := by
  have ended : ¬(e.extra = false ∧ e.revolutions + 1 < e.turns) := fun ⟨extra, more⟩ =>
    last.elim (by simp [extra]) (Nat.not_le_of_lt more)
  exact exec_homeCloses on turning ((State.revolution_undelivered list undelivered).trans (if_neg ended))
    (s.revolved e rest).enterSettling_leaves.2.2.1

/-! ### Extra revolutions (R61) -/

theorem exec_settleEnds_again {e : DriveEntry} {rest : List DriveEntry} {d : Nat} (on : s.power ≠ .off)
    (list : s.sdc.list = e :: rest) (runs : s.sdc.settleTimer = some d) (allowed : 0 < e.allowance) :
    exec .settleWindowExpiry s = .next (((((s.elapse d).setSdc
      { (s.elapse d).sdc with settleTimer := none }).editHead DriveEntry.again).enterAwaitPower e.unit)) := by
  refine exec_of_quiet_event rfl on ?_ ?_
  · simp only [State.expire, runs]
    exact State.settleEnds_of_allowance (s := s.elapse d) list allowed
  · simp [State.editHead]
    rfl

/-! ### Current samples (R62, R63, R157) -/

/-- A window stays below the limit unless a sample within it reaches the limit (R63). -/
theorem windowBelow_eq (below inWindow : Bool) (i limit : Nat) :
    (below && (!inWindow || decide (i < limit))) = (below && !(inWindow && decide (limit ≤ i))) := by
  rw [Bool.not_and, ← decide_not, decide_eq_decide.2 Nat.not_le]

theorem State.sampled_goes_on {u : DriveUnit} {i : Nat} (calm : i ≤ s.jamLimit u ∨ s.sdc.overCount < 2)
    (turns : s.sdc.sampleCount + 1 ≠ 30 ∨ s.sdc.windowBelow = false ∨ s.openLimit u ≤ i) :
    s.takeSample u i = s.sampled u i := by
  have below : ¬ 3 ≤ (s.sampled u i).sdc.overCount := by
    simp only [State.sampled]
    split <;> omega
  have wound : ¬((s.sampled u i).sdc.sampleCount = 30 ∧ (s.sampled u i).sdc.windowBelow = true) := by
    rintro ⟨count, low⟩
    have count : s.sdc.sampleCount + 1 = 30 := count
    simp only [State.sampled, count, Bool.and_eq_true] at low
    obtain ⟨window, low⟩ := low
    rcases turns with other | other | other
    · exact other count
    · simp [other] at window
    · simp [Nat.not_lt.2 other] at low
  rw [State.takeSample_eq, if_neg below, if_neg wound]

theorem exec_currentSample {u : DriveUnit} {code : AdcCode} (on : s.power ≠ .off)
    (energized : s.sdc.energized = some u)
    (calm : currentOf code ≤ s.jamLimit u ∨ s.sdc.overCount < 2)
    (turns : s.sdc.sampleCount + 1 ≠ 30 ∨ s.sdc.windowBelow = false ∨ s.openLimit u ≤ currentOf code) :
    exec (.currentSample code) s = .next ((s.elapse s.msc.sampleLeft).sampled u (currentOf code)) :=
  exec_of_quiet_event rfl on (by
    simp only [energized]
    exact State.sampled_goes_on (s := s.elapse s.msc.sampleLeft) calm turns) rfl

/-- Settles O25: the grant, the home switch, the settle window and the current sample, one after another. -/
theorem turnGoesOn : Obligations.TurnGoesOn := by
  refine ⟨fun s e rest on list => ⟨fun homeOpen awaits granted turn => ?_, exec_homeOpens on,
    exec_homeCloses_goes_on on list, fun turning undelivered last => ?_, fun d runs allowed => ?_⟩,
    fun s u code on energized calm turns => ?_⟩
  · rw [exec_spiralGrant on list homeOpen awaits granted turn]
    simp only [State.energize, State.editHead_eq (s := s.tookGrant .spiral) list]
    rfl
  · obtain ⟨spiral, selt, sesc, chu⟩ := (s.revolved e rest).enterSettling_leaves
    have sdc := (s.revolved e rest).enterSettling_sdc
    refine ⟨_, exec_homeCloses_settles on list turning undelivered last, ?_, ?_, ?_, ?_, ?_, spiral, selt, sesc,
      chu⟩ <;> rw [sdc] <;> rfl
  · refine ⟨_, exec_settleEnds_again on list runs allowed, ?_⟩
    have head : (s.sdc.elapse d).list = e :: rest := list
    simp [State.editHead, head, modifyAt, DriveEntry.again, powerTimerMs]
  · refine ⟨_, exec_currentSample on energized calm turns, rfl, ?_, rfl⟩
    rw [← windowBelow_eq]
    rfl

end Sys2Proof.Machine
end

section
/-! SUPPORT. The accept masks handed to the validators, and a change of the door (R53, R85, R122, R200). -/

namespace Sys2Proof.Machine

variable {s : State}

/-! ### Both masks handed (R85, R122) -/

theorem State.hand_cbm (s : State) (p : Peripheral) (f : PendingSet → PendingSet) :
    (s.hand p f).cbm = (s.setPeriph p ((s.hand p f).periph p)).cbm := by
  rw [State.hand_periph]
  unfold State.hand
  split
  · rfl
  · cases p <;> rfl

/-- The recomputation of a mask writes the Cash Bus in that validator's record alone. -/
theorem State.updateMask_cbm (s : State) (p : Peripheral) :
    (s.updateMask p).cbm = (s.setPeriph p (s.masked p)).cbm := by
  rw [← State.updateMask_periph]
  unfold State.updateMask State.handAcceptMask
  dsimp only
  split
  · cases p <;> rfl
  · rw [State.hand_cbm]
    cases p <;> rfl

theorem State.updateMasks_cbm (s : State) :
    s.updateMasks.cbm = { s.cbm with coin := s.masked .coin, bill := s.masked .bill } := by
  have bill : (s.updateMask .coin).masked .bill = s.masked .bill := by
    rw [← State.updateMask_periph]
    exact s.updateMasks_periph .bill
  have coin := s.updateMask_cbm .coin
  rw [State.updateMasks, State.updateMask_cbm, bill]
  simp only [State.setPeriph] at coin ⊢
  rw [coin]
  rfl

/-- A mask that differs from the last one handed stands in the slot of an ONLINE validator. -/
theorem State.updateMasks_handed (s : State) : MasksHanded s s.updateMasks := fun p => by
  rw [State.updateMasks_periph, State.updateMasks_maskOf]
  unfold State.masked
  split <;> rfl

theorem State.updateMasks_slots (s : State) : OnlySlotsChange s s.updateMasks ∧
    (s.updateMasks.periph .coin).pending.routeMap = (s.periph .coin).pending.routeMap := by
  obtain ⟨a, coin⟩ := s.masked_eq .coin
  obtain ⟨b, bill⟩ := s.masked_eq .bill
  unfold OnlySlotsChange
  rw [State.updateMasks_periph, State.updateMasks_cbm, coin, bill]
  exact ⟨rfl, rfl⟩

theorem State.updateMasks_chu (s : State) : s.updateMasks.chu = { s.chu with
    lastCoinMask := some s.updateMasks.coinMask, lastBillMask := some s.updateMasks.billMask } := by
  obtain ⟨coin, bill⟩ := s.updateMasks_last
  rw [← coin, ← bill]
  obtain ⟨_, _, _, h⟩ := s.updateMasks_frame
  rw [h]

/-! ### An open door (R85) -/

theorem classSetOf_false : classSetOf (fun _ => false) = 0 := by decide

/-- With the door open no validator accepts anything (R85). -/
theorem State.maskOf_doorOpen (isOpen : s.hli.doorOpen = true) : s.coinMask = 0 ∧ s.billMask = 0 := by
  have coins : s.coinsInhibited = true := by simp only [State.coinsInhibited, isOpen, Bool.true_or]
  have bills : s.billsInhibited = true := by simp only [State.billsInhibited, isOpen, Bool.true_or]
  simp only [State.coinMask, State.billMask, coins, bills, Bool.not_true, Bool.false_and]
  exact ⟨classSetOf_false, classSetOf_false⟩

/-! ### The door (R53, R200) -/

/-- A changed reading of the door is noted, and at a closing the PENDING TEST entries are gone; the masks are yet
to follow. -/
def State.doorRead (s : State) (isOpen : Bool) : State :=
  { s with
    hli := (({ s with hli := { s.hli with doorOpen := isOpen } } : State).raise (.door isOpen)).hli
    sdc := { s.sdc with list :=
      if isOpen then s.sdc.list else s.sdc.list.filter fun e => e.running || e.isVend } }

theorem State.changeDoor_of_change {isOpen : Bool} (change : s.hli.doorOpen ≠ isOpen) :
    s.changeDoor isOpen = (s.doorRead isOpen).updateMasks := by
  unfold State.changeDoor
  rw [if_neg change]
  cases isOpen <;> rfl

theorem exec_doorChange {isOpen : Bool} (on : s.power ≠ .off) (change : s.hli.doorOpen ≠ isOpen) :
    exec (.doorChange isOpen) s = .next (s.doorRead isOpen).updateMasks :=
  exec_of_quiet_event rfl on (State.changeDoor_of_change change)
    (by rw [(s.doorRead isOpen).updateMasks_apart.sesc]; rfl)

/-- Settles O13: a changed reading is `doorRead`, and the masks follow it (`updateMasks`). -/
theorem doorChanges : Obligations.DoorChanges := by
  refine fun s isOpen on => ⟨fun same => exec_of_quiet_event rfl on (if_pos same) rfl,
    fun change => ⟨_, exec_doorChange on change, ?_⟩⟩
  obtain ⟨only, routeMap⟩ := (s.doorRead isOpen).updateMasks_slots
  obtain ⟨_, _, _, frame⟩ := (s.doorRead isOpen).updateMasks_frame
  have hli : (s.doorRead isOpen).updateMasks.hli = (s.doorRead isOpen).hli := by rw [frame]
  have door : (s.doorRead isOpen).updateMasks.hli.doorOpen = isOpen := by rw [hli]; rfl
  refine ⟨door, ?_, ?_, (s.doorRead isOpen).updateMasks_chu, fun opened => State.maskOf_doorOpen (door.trans opened),
    (s.doorRead isOpen).updateMasks_handed, only, routeMap, ?_⟩
  · rw [hli]
    exact State.raise_notes _ _
  · rw [frame]
    rfl
  · rw [frame]
    rfl

end Sys2Proof.Machine
end

section
/-! SUPPORT. The tubes and the coin classes: what the drop of mappings leaves of the classes, and the count law and
the mapping bound of CHU's records through a write of one tube or of the classes (R73, R74, R79, R80). -/

namespace Sys2Proof.Machine

-- One proof at a time: the whole text is one process, under a memory limit that counts every thread of Lean.
set_option Elab.async false

variable {s t : State}

/-! ### One tube changed -/

/-- What holds of every element, and of the changed one, holds of every element behind the change. -/
theorem forall_mem_modifyAt {α : Type} {p : α → Prop} {f : α → α} {i : Nat} {xs : List α}
    (all : ∀ x ∈ xs, p x) (changed : ∀ x, xs[i]? = some x → p (f x)) : ∀ y ∈ modifyAt f i xs, p y := by
  intro y hy
  obtain ⟨j, hj⟩ := List.mem_iff_getElem?.1 hy
  by_cases e : j = i
  · subst e
    rw [modifyAt_getElem?_self, Option.map_eq_some_iff] at hj
    obtain ⟨x, hx, rfl⟩ := hj
    exact changed x hx
  · rw [modifyAt_getElem?_ne f xs e] at hj
    exact all y (List.mem_of_getElem? hj)

theorem modifyAt_append_cons {α : Type} (f : α → α) (xs : List α) (x : α) (ys : List α) :
    modifyAt f xs.length (xs ++ x :: ys) = xs ++ f x :: ys := by
  induction xs with
  | nil => rfl
  | cons z zs ih => simp [modifyAt, ih]

/-- A change of an element that is known is a write of what it becomes. -/
theorem modifyAt_of_getElem? {α : Type} (f : α → α) {i : Nat} {xs : List α} {x : α} (h : xs[i]? = some x) :
    modifyAt f i xs = modifyAt (fun _ => f x) i xs := by
  induction xs generalizing i with
  | nil => cases i <;> rfl
  | cons y ys ih =>
    cases i with
    | zero => cases h; rfl
    | succ i => simp only [modifyAt, ih (i := i) (by simpa using h)]

theorem modifyAt_modifyAt {α : Type} (f g : α → α) (i : Nat) (xs : List α) :
    modifyAt g i (modifyAt f i xs) = modifyAt (fun x => g (f x)) i xs := by
  induction xs generalizing i with
  | nil => cases i <;> rfl
  | cons x xs ih => cases i <;> simp [modifyAt, ih]

/-! ### Mappings dropped (R74, R80) -/

/-- The denomination of the tube with a number, 0 for an unassigned tube and for none. -/
def denomAt (tubes : List Tube) (i : Nat) : Nat :=
  match tubes[i]? with
  | some t => t.den
  | none => 0

/-- A coin class as the drop of mappings leaves it (R74, R80). -/
def CoinClass.matched (tubes : List Tube) (only : Option Nat) (c : CoinClass) : CoinClass :=
  match c.tube with
  | none => c
  | some i =>
    if (only = none ∨ only = some i) ∧ (c.value ≠ denomAt tubes i ∨ denomAt tubes i = 0) then
      { c with tube := none }
    else c

theorem State.raiseTube_frame (s : State) (i : Nat) (r : TubeReason) (cls : Option Nat) : ∃ ns,
    s.raiseTube i r cls = { s with hli := { s.hli with notices := ns } } := by
  unfold State.raiseTube
  split <;> exact ⟨_, rfl⟩

/-- The class after those passed loses its mapping. -/
theorem State.unmapped_frame {s : State} {passed rest : List CoinClass} {c : CoinClass}
    (coins : s.chu.coins = passed ++ c :: rest) (i : Nat) : ∃ ns, s.unmapped passed.length i = { s with
      chu := { s.chu with coins := passed ++ { c with tube := none } :: rest }
      hli := { s.hli with notices := ns } } := by
  obtain ⟨ns, h⟩ := State.raiseTube_frame { s with chu := { s.chu with
    coins := modifyAt (fun x => { x with tube := none }) passed.length s.chu.coins } } i
      .mappingDropped (some passed.length)
  refine ⟨ns, h.trans ?_⟩
  rw [coins, modifyAt_append_cons]

/-- The first class of the list keeps its mapping, or loses it where it no longer matches. -/
theorem dropMappings_cons_matched (only : Option Nat) (k : Nat) (c : CoinClass) (rest : List CoinClass) (s : State) :
    (c.matched s.chu.tubes only = c ∧ dropMappings only k (c :: rest) s = dropMappings only (k + 1) rest s) ∨
      ∃ i, c.matched s.chu.tubes only = { c with tube := none } ∧
        dropMappings only k (c :: rest) s = dropMappings only (k + 1) rest (s.unmapped k i) := by
  cases mapped : c.tube with
  | none => exact .inl ⟨by simp only [CoinClass.matched, mapped], by simp only [dropMappings, mapped]⟩
  | some i =>
    have step : dropMappings only k (c :: rest) s =
        if (only = none ∨ only = some i) ∧
          (c.value ≠ denomAt s.chu.tubes i ∨ denomAt s.chu.tubes i = 0) then
            dropMappings only (k + 1) rest (s.unmapped k i)
          else dropMappings only (k + 1) rest s := by
      simp only [dropMappings, mapped]
      rfl
    rw [step]
    simp only [CoinClass.matched, mapped]
    split
    · exact .inr ⟨i, rfl, rfl⟩
    · exact .inl ⟨rfl, rfl⟩

/-- The classes behind those passed already are matched in turn; the notices follow. -/
theorem dropMappings_frame (only : Option Nat) {passed cs : List CoinClass} {s : State}
    (coins : s.chu.coins = passed ++ cs) : ∃ ns, dropMappings only passed.length cs s = { s with
      chu := { s.chu with coins := passed ++ cs.map (CoinClass.matched s.chu.tubes only) }
      hli := { s.hli with notices := ns } } := by
  induction cs generalizing passed s with
  | nil => exact ⟨s.hli.notices, by rw [List.map_nil, ← coins]; rfl⟩
  | cons c rest ih =>
    rcases dropMappings_cons_matched only passed.length c rest s with ⟨same, step⟩ | ⟨i, lost, step⟩
    · obtain ⟨ns, h⟩ := ih (passed := passed ++ [c]) (by rw [coins, List.append_cons])
      rw [List.length_append] at h
      rw [step, List.map_cons, same, List.append_cons]
      exact ⟨ns, h⟩
    · obtain ⟨ms, unmapped⟩ := State.unmapped_frame coins i
      obtain ⟨ns, h⟩ := ih (passed := passed ++ [{ c with tube := none }]) (s := s.unmapped passed.length i)
        (by rw [unmapped, List.append_cons])
      rw [List.length_append, unmapped] at h
      rw [step, List.map_cons, lost, List.append_cons, unmapped]
      exact ⟨ns, h⟩

/-- The drop of mappings writes the classes that no longer match, and notices. -/
theorem State.dropMapped_frame (s : State) (only : Option Nat) : ∃ ns, s.dropMapped only = { s with
    chu := { s.chu with coins := s.chu.coins.map (CoinClass.matched s.chu.tubes only) }
    hli := { s.hli with notices := ns } } :=
  dropMappings_frame only (passed := []) rfl

/-! ### The laws of CHU's records (R73, R79) -/

/-- The six tubes, each within its count law, and the mapping bound (R73, R79). -/
structure Chu.Sound (x : Chu) : Prop where
  six : x.tubes.length = 6
  count : ∀ t ∈ x.tubes, countLaw t.assign t.count
  mapping : mappingLaw (x.tubes.map Tube.assign) x.coins

theorem countLaw_of_assign {t : Tube} {a : TubeAssign} {n : Nat} (law : countLaw t.assign t.count)
    (assign : t.assign = some a) (fits : n ≤ a.capacity) : countLaw t.assign n := by
  rw [assign] at law ⊢
  exact ⟨fits, law.2⟩

theorem countLaw.lower {t : Tube} (law : countLaw t.assign t.count) : countLaw t.assign (t.count - 1) := by
  cases assign : t.assign with
  | none =>
    rw [assign] at law
    exact (congrArg (· - 1) law : t.count - 1 = 0)
  | some a =>
    rw [assign] at law
    exact ⟨(Nat.sub_le _ _).trans law.1, law.2⟩

theorem countLaw.raise {t : Tube} (law : countLaw t.assign t.count) (room : t.count < t.cap) :
    countLaw t.assign (t.count + 1) := by
  cases assign : t.assign with
  | none => simp [Tube.cap, assign] at room
  | some a =>
    rw [assign] at law
    exact ⟨by simpa [Tube.cap, assign] using room, law.2⟩

theorem denomAt_of_assign {tubes : List Tube} {i : Nat} {d : Nat} (den : denomAt tubes i = d) (used : d ≠ 0) :
    ∃ a, (tubes.map Tube.assign)[i]? = some (some a) ∧ a.denom = d := by
  unfold denomAt Tube.den at den
  split at den
  · next t place =>
    split at den
    · next a assign => exact ⟨a, by simp [place, assign], den⟩
    · exact absurd den.symm used
  · exact absurd den.symm used

/-- A class that is mapped behind the drop stands as before, and where the drop looks its tube has its value. -/
theorem CoinClass.matched_mapped {tubes : List Tube} {only : Option Nat} {c : CoinClass} {i : Nat}
    (mapped : (c.matched tubes only).tube = some i) : c.matched tubes only = c ∧ c.tube = some i ∧
      (only = none ∨ only = some i → c.value = denomAt tubes i ∧ denomAt tubes i ≠ 0) := by
  unfold CoinClass.matched at mapped ⊢
  split at mapped
  · next none => rw [none] at mapped; cases mapped
  · next j tube =>
    split at mapped
    · cases mapped
    · next stays =>
      rw [tube] at mapped
      cases mapped
      simp only [tube, if_neg stays, true_and]
      exact fun looked => by simpa [looked] using stays

/-- Behind the drop the mapping bound holds where the drop looks, and elsewhere as it held before. -/
theorem mappingLaw_matched {tubes : List Tube} {only : Option Nat} {coins : List CoinClass}
    (others : ∀ c ∈ coins, ∀ i, c.tube = some i → ¬(only = none ∨ only = some i) →
      ∃ a, (tubes.map Tube.assign)[i]? = some (some a) ∧ a.denom = c.value) :
    mappingLaw (tubes.map Tube.assign) (coins.map (CoinClass.matched tubes only)) := by
  intro c hc i mapped
  obtain ⟨b, hb, rfl⟩ := List.mem_map.1 hc
  obtain ⟨same, tube, looked⟩ := CoinClass.matched_mapped mapped
  rw [same]
  by_cases looks : only = none ∨ only = some i
  · obtain ⟨value, used⟩ := looked looks
    exact denomAt_of_assign value.symm (value ▸ used)
  · exact others b hb i tube looks

end Sys2Proof.Machine
end

section
/-! SUPPORT. What each operation on tubes and classes keeps of the count law and the mapping bound, and the operations
that leave both (R73 to R87, R102 to R106). -/

namespace Sys2Proof.Machine

-- One proof at a time: the whole text is one process, under a memory limit that counts every thread of Lean.
set_option Elab.async false

variable {s t : State}

/-- From `s` to `t` the laws of tubes and coin classes are kept. -/
def State.CoinsKept (s t : State) : Prop := s.chu.Sound → t.chu.Sound

theorem State.CoinsKept.refl (s : State) : s.CoinsKept s := id

theorem State.CoinsKept.trans {u : State} (h : s.CoinsKept t) (k : t.CoinsKept u) : s.CoinsKept u :=
  fun law => k (h law)

/-- A step that leaves tubes and coin classes. -/
theorem State.CoinsKept.of_same (tubes : t.chu.tubes = s.chu.tubes := by rfl)
    (coins : t.chu.coins = s.chu.coins := by rfl) : s.CoinsKept t := fun law =>
  ⟨by rw [tubes]; exact law.six, by rw [tubes]; exact law.count, by rw [tubes, coins]; exact law.mapping⟩

theorem State.CoinsKept.of_chu (chu : t.chu = s.chu) : s.CoinsKept t := .of_same (by rw [chu]) (by rw [chu])

theorem State.Aside.coinsKept (h : s.Aside t) : s.CoinsKept t := by
  obtain ⟨-, -, -, -, -, -, chu, -⟩ := h.unchanged
  exact .of_chu chu

theorem State.elapse_coinsKept (s : State) (d : Nat) : s.CoinsKept (s.elapse d) := .of_same

theorem State.hand_coinsKept (s : State) (p : Peripheral) (f : PendingSet → PendingSet) :
    s.CoinsKept (s.hand p f) := .of_chu (by simp)

theorem State.updateRoute_coinsKept (s : State) : s.CoinsKept s.updateRoute := .of_same (by simp) (by simp)

theorem State.updateMasks_coinsKept (s : State) : s.CoinsKept s.updateMasks := .of_same (by simp) (by simp)

theorem State.evalExact_coinsKept (s : State) : s.CoinsKept s.evalExact := by
  obtain ⟨_, _, h⟩ := s.evalExact_frame
  rw [h]; exact .of_same

theorem State.tubesChanged_coinsKept (s : State) : s.CoinsKept s.tubesChanged :=
  s.updateRoute_coinsKept.trans (State.evalExact_coinsKept _)

theorem State.raiseTube_coinsKept (s : State) (i : Nat) (r : TubeReason) (cls : Option Nat) :
    s.CoinsKept (s.raiseTube i r cls) := by
  obtain ⟨_, h⟩ := s.raiseTube_frame i r cls
  rw [h]; exact .of_same

theorem State.noteSession_coinsKept (s : State) : s.CoinsKept s.noteSession :=
  State.CoinsKept.trans (t := s.raise _) .of_same (State.updateMasks_coinsKept _)

theorem State.closeEvent_coinsKept (s : State) (before : Session) : s.CoinsKept (s.closeEvent before) := by
  unfold State.closeEvent
  split
  · exact .refl s
  · exact s.noteSession_coinsKept

/-! ### Counts (R75 to R77, R86, R102) -/

/-- A tube rewritten that keeps its assignment and is left within its count law. -/
theorem State.editTube_coinsKept (s : State) (i : Nat) {f : Tube → Tube} (assign : ∀ x, (f x).assign = x.assign)
    (count : ∀ x, s.tube i = some x → countLaw x.assign x.count → countLaw x.assign (f x).count) :
    s.CoinsKept (s.editTube i f) := fun law =>
  ⟨(modifyAt_length _ _ _).trans law.six,
    forall_mem_modifyAt (p := fun x : Tube => countLaw x.assign x.count) law.count fun x place => by
      rw [assign]; exact count x place (law.count x (List.mem_of_getElem? place)),
    by rw [State.editTube_chu, map_modifyAt assign]; exact law.mapping⟩

/-- A tube rewritten so, with what follows a change of its count or state (R73). -/
theorem State.editTube_tubesChanged_coinsKept (s : State) (i : Nat) {f : Tube → Tube}
    (assign : ∀ x, (f x).assign = x.assign)
    (count : ∀ x, s.tube i = some x → countLaw x.assign x.count → countLaw x.assign (f x).count) :
    s.CoinsKept (s.editTube i f).tubesChanged :=
  (s.editTube_coinsKept i assign count).trans (State.tubesChanged_coinsKept _)

theorem State.lowerCount_coinsKept (s : State) (i : Nat) : s.CoinsKept (s.lowerCount i) :=
  s.editTube_coinsKept i (fun _ => rfl) fun _ _ law => law.lower

theorem State.countCoin_coinsKept (s : State) (c : CoinClass) (toTube : Bool) :
    s.CoinsKept (s.countCoin c toTube) := by
  unfold State.countCoin
  split
  · next i _ =>
    split
    · next x place =>
      split
      · next room =>
        refine s.editTube_tubesChanged_coinsKept i (fun _ => rfl) fun y found law => ?_
        rw [place] at found
        cases found
        exact law.raise room
      · exact .refl s
    · exact .refl s
  · exact .refl s

theorem State.correctCount_coinsKept (s : State) (i : Nat) {n : Option Nat}
    (count : ∀ x m, s.tube i = some x → n = some m → countLaw x.assign x.count → countLaw x.assign m) :
    s.CoinsKept (s.correctCount i n) := by
  unfold State.correctCount
  split
  · next m =>
    have written : s.CoinsKept (s.editTube i fun t => { t with count := m }) :=
      s.editTube_coinsKept i (fun _ => rfl) fun x place => count x m place rfl
    exact written.trans (State.raiseTube_coinsKept _ _ _ _)
  · exact .refl s

/-- A level switch that reads anew: its field written by `f`, the correction `n` of the count, and what follows
(R77). -/
def State.switchRead (s : State) (i : Nat) (f : Tube → Tube) (n : Option Nat) : State :=
  if n.isSome then ((s.editTube i f).correctCount i n).tubesChanged
  else ((s.editTube i f).correctCount i n).updateRoute

theorem State.fullReads_of_change {i : Nat} {x : Tube} {active : Bool} (tube : s.tube i = some x)
    (change : x.full ≠ if active then .active else .clear) : s.fullReads i active =
      s.switchRead i (fun t => { t with full := if active then .active else .clear })
        (fullCorrection x active) := by
  simp only [State.fullReads, tube, if_neg change]
  rfl

theorem State.fullReads_of_same {i : Nat} {x : Tube} {active : Bool} (tube : s.tube i = some x)
    (same : x.full = if active then .active else .clear) : s.fullReads i active = s := by
  simp only [State.fullReads, tube, if_pos same]

theorem State.lowReads_of_change {i : Nat} {x : Tube} {low : Bool} (tube : s.tube i = some x)
    (change : x.low ≠ if low then .low else .notLow) : s.lowReads i low =
      s.switchRead i (fun t => { t with low := if low then .low else .notLow }) (lowCorrection x low) := by
  simp only [State.lowReads, tube, if_neg change]
  rfl

theorem State.lowReads_of_same {i : Nat} {x : Tube} {low : Bool} (tube : s.tube i = some x)
    (same : x.low = if low then .low else .notLow) : s.lowReads i low = s := by
  simp only [State.lowReads, tube, if_pos same]

theorem fullCorrection_eq {x : Tube} {a : TubeAssign} (assign : x.assign = some a) (active : Bool) :
    fullCorrection x active = if active = true ∧ x.count < a.capacity then some a.capacity else none := by
  simp [fullCorrection, assign]

theorem lowCorrection_eq {x : Tube} {a : TubeAssign} (assign : x.assign = some a) (low : Bool) :
    lowCorrection x low = if low = true ∧ a.lowMark < x.count then some a.lowMark else none := by
  simp [lowCorrection, assign]

/-- A switch of an unassigned tube corrects nothing (R77). -/
theorem corrections_of_unassigned {x : Tube} (assign : x.assign = none) (on : Bool) :
    fullCorrection x on = none ∧ lowCorrection x on = none := by
  simp [fullCorrection, lowCorrection, assign]

/-- Both corrections leave a tube within its count law: a full tube at its capacity, a low one at its low mark. -/
theorem countLaw.corrected {x : Tube} {on : Bool} {m : Nat} (law : countLaw x.assign x.count)
    (corrects : fullCorrection x on = some m ∨ lowCorrection x on = some m) : countLaw x.assign m := by
  cases assign : x.assign with
  | none => simp [corrections_of_unassigned assign on] at corrects
  | some a =>
    rw [assign] at law
    rw [fullCorrection_eq assign, lowCorrection_eq assign] at corrects
    rcases corrects with h | h <;> obtain ⟨-, corrected⟩ := Option.ite_none_right_eq_some.1 h <;> cases corrected
    · exact ⟨le_rfl, law.2⟩
    · exact ⟨law.2, law.2⟩

/-- A switch that reads anew with the correction of its tube. -/
theorem State.switchRead_coinsKept {i : Nat} {x : Tube} {f : Tube → Tube} {n : Option Nat} {on : Bool}
    (tube : s.tube i = some x) (assign : ∀ y, (f y).assign = y.assign) (count : ∀ y, (f y).count = y.count)
    (corrects : n = fullCorrection x on ∨ n = lowCorrection x on) : s.CoinsKept (s.switchRead i f n) := by
  have corrected : s.CoinsKept ((s.editTube i f).correctCount i n) := by
    refine (s.editTube_coinsKept i assign fun y _ law => by rw [count]; exact law).trans
      (State.correctCount_coinsKept _ i fun y m place eq law => ?_)
    have written : (s.editTube i f).tube i = some (f x) :=
      (modifyAt_getElem?_self f i _).trans (by rw [show s.chu.tubes[i]? = some x from tube]; rfl)
    rw [written] at place
    cases place
    rw [assign] at law ⊢
    rw [count] at law
    exact law.corrected (corrects.imp (fun h => h.symm.trans eq) fun h => h.symm.trans eq)
  unfold State.switchRead
  split
  · exact corrected.trans (State.tubesChanged_coinsKept _)
  · exact corrected.trans (State.updateRoute_coinsKept _)

theorem State.fullReads_coinsKept (s : State) (i : Nat) (active : Bool) : s.CoinsKept (s.fullReads i active) := by
  cases tube : s.tube i with
  | none =>
    simp only [State.fullReads, tube]
    exact .refl s
  | some x =>
    by_cases same : x.full = if active then .active else .clear
    · rw [State.fullReads_of_same tube same]
      exact .refl s
    · rw [State.fullReads_of_change tube same]
      exact State.switchRead_coinsKept tube (fun _ => rfl) (fun _ => rfl) (.inl rfl)

theorem State.lowReads_coinsKept (s : State) (i : Nat) (low : Bool) : s.CoinsKept (s.lowReads i low) := by
  cases tube : s.tube i with
  | none =>
    simp only [State.lowReads, tube]
    exact .refl s
  | some x =>
    by_cases same : x.low = if low then .low else .notLow
    · rw [State.lowReads_of_same tube same]
      exact .refl s
    · rw [State.lowReads_of_change tube same]
      exact State.switchRead_coinsKept tube (fun _ => rfl) (fun _ => rfl) (.inr rfl)

/-! ### The requests on tubes (R74 to R76) -/

/-- A request on an assigned tube that refuses or keeps the laws. -/
theorem State.withTube_coinsKept (s : State) (i : Byte) {f : Tube → TubeAssign → Reply}
    (h : ∀ x a, s.tube i.toNat = some x → x.assign = some a → s.CoinsKept (f x a).state) :
    s.CoinsKept (s.withTube i f).state := by
  unfold State.withTube
  split
  · next x tube =>
    split
    · next a assign => exact h x a tube assign
    · exact .refl s
  · exact .refl s

theorem State.setCount_coinsKept (s : State) (i : Byte) (n : Half) : s.CoinsKept (s.setCount i n).state := by
  refine s.withTube_coinsKept i fun x a tube assign => ?_
  split
  · exact .refl s
  · split
    · exact .refl s
    · split
      · exact .refl s
      · refine s.editTube_tubesChanged_coinsKept _ (fun _ => rfl) fun y found law => ?_
        rw [tube] at found
        cases found
        exact countLaw_of_assign law assign (Nat.min_le_right _ _)

theorem State.setTubeState_coinsKept (s : State) (i : Byte) (x : TubeState) :
    s.CoinsKept (s.setTubeState i x).state := by
  refine s.withTube_coinsKept i fun _ _ _ _ => ?_
  split
  · exact .refl s
  · exact s.editTube_tubesChanged_coinsKept _ (fun _ => rfl) fun _ _ law => law

theorem changesAssign_eq_false {before after : Option TubeAssign} (h : changesAssign before after = false) :
    before.map TubeAssign.denom = after.map TubeAssign.denom ∧
      before.map TubeAssign.capacity = after.map TubeAssign.capacity := by
  simpa [changesAssign] using h

/-- An assignment that a tube's count lets it take leaves it within its count law (R73, R74). -/
theorem countLaw.rewrite {x : Tube} {a : Option TubeAssign} (law : countLaw x.assign x.count)
    (marks : ∀ b, a = some b → b.lowMark ≤ b.capacity)
    (fits : ¬(0 < x.count ∧ changesAssign x.assign a = true)) : countLaw a x.count := by
  by_cases empty : x.count = 0
  · rw [empty]
    cases a with
    | none => rfl
    | some b => exact ⟨Nat.zero_le _, marks b rfl⟩
  · obtain ⟨-, capacity⟩ := changesAssign_eq_false
      (Bool.eq_false_iff.2 fun changes => fits ⟨Nat.pos_of_ne_zero empty, changes⟩)
    cases assign : x.assign with
    | none =>
      rw [assign] at law
      exact absurd law empty
    | some c =>
      rw [assign] at law capacity
      obtain ⟨b, rfl, same⟩ := Option.map_eq_some_iff.1 capacity.symm
      exact ⟨same ▸ law.1, marks b rfl⟩

theorem assignInRange_iff {denom : Half} {capacity lowMark : Byte} :
    assignInRange denom capacity lowMark = true ↔ denom.toNat ≤ 5000 ∧
      (denom.toNat = 0 ∨ (1 ≤ capacity.toNat ∧ lowMark.toNat ≤ capacity.toNat)) := by
  have byte : capacity.toNat ≤ 255 := by omega
  simp [assignInRange, inRange_iff, byte]

theorem assignOf_marks {denom : Half} {capacity lowMark : Byte}
    (range : assignInRange denom capacity lowMark = true) {b : TubeAssign}
    (h : assignOf denom capacity lowMark = some b) : b.lowMark ≤ b.capacity := by
  obtain ⟨used, asked⟩ := Option.ite_none_left_eq_some.1 h
  cases asked
  obtain ⟨-, none | ⟨-, low⟩⟩ := assignInRange_iff.1 range
  · exact absurd none used
  · exact low

/-- Behind a drop of mappings the bound holds where the drop looked, and elsewhere as it held before. -/
theorem State.dropMapped_sound {only : Option Nat} (six : s.chu.tubes.length = 6)
    (count : ∀ x ∈ s.chu.tubes, countLaw x.assign x.count)
    (others : ∀ c ∈ s.chu.coins, ∀ i, c.tube = some i → ¬(only = none ∨ only = some i) →
      ∃ a, (s.chu.tubes.map Tube.assign)[i]? = some (some a) ∧ a.denom = c.value) :
    (s.dropMapped only).chu.Sound := by
  obtain ⟨_, h⟩ := s.dropMapped_frame only
  rw [h]
  exact ⟨six, count, mappingLaw_matched others⟩

/-- A tube assigned anew, and its mappings dropped that no longer match (R74). -/
theorem State.rewritten_coinsKept {i : Nat} {x : Tube} {a : Option TubeAssign} (tube : s.tube i = some x)
    (law : countLaw x.assign x.count → countLaw a x.count) :
    s.CoinsKept ((s.editTube i fun t => t.rewrite a).dropMapped (some i)) := by
  refine fun sound => State.dropMapped_sound ((modifyAt_length _ _ _).trans sound.six)
    (forall_mem_modifyAt sound.count fun y place => ?_) fun c hc j mapped elsewhere => ?_
  · rw [show s.chu.tubes[i]? = some x from tube] at place
    cases place
    exact law (sound.count x (List.mem_of_getElem? tube))
  · have other : j ≠ i := fun e => elsewhere (.inr (by rw [e]))
    obtain ⟨b, assigned, denom⟩ := sound.mapping c hc j mapped
    refine ⟨b, ?_, denom⟩
    rw [List.getElem?_map] at assigned ⊢
    rw [State.editTube_chu, modifyAt_getElem?_ne _ _ other]
    exact assigned

theorem State.defineTube_coinsKept (s : State) (i : Byte) (d : Half) (c l : Byte) :
    s.CoinsKept (s.defineTube i d c l).state := by
  unfold State.defineTube
  split
  · exact .refl s
  · next x tube =>
    dsimp only
    split
    · exact .refl s
    · next range =>
      split
      · exact .refl s
      · split
        · exact .refl s
        · next fits =>
          have marks (b : TubeAssign) := assignOf_marks (b := b) (by simpa using range)
          exact (State.rewritten_coinsKept tube fun law => law.rewrite marks fits).trans
            (State.tubesChanged_coinsKept _)

/-! ### Classes (R80, R81) -/

theorem State.takeSetup_coinsKept (s : State) (p : Peripheral) (vs : List Nat) :
    s.CoinsKept (s.takeSetup p vs) := by
  have written : s.CoinsKept (s.setupWritten p vs) := by
    cases p with
    | coin =>
      exact fun sound => State.dropMapped_sound (only := none)
        (s := { s with chu := { s.chu with coins := writeCoinValues s.chu.coins vs } }) sound.six sound.count
        fun _ _ _ _ elsewhere => absurd (.inl rfl) elsewhere
    | bill => exact .of_same
  rw [State.takeSetup_eq]
  exact (written.trans (State.updateRoute_coinsKept _)).trans (State.updateMasks_coinsKept _)

/-- The tubes a class of a value may be mapped to are the assigned ones of that denomination (R81). -/
theorem State.mappable_iff {value : Nat} {tube : Option Byte} : s.mappable value tube = true ↔
    tube = none ∨ ∃ i x a, tube = some i ∧ s.tube i.toNat = some x ∧ x.assign = some a ∧ a.denom = value := by
  cases tube with
  | none => simp [State.mappable]
  | some i =>
    cases place : s.tube i.toNat with
    | none => simp [State.mappable, place]
    | some x => cases assign : x.assign <;> simp [State.mappable, place, assign]

theorem State.setClass_coinsKept (s : State) (cls : Byte) (enabled : Bool) (tube : Option Byte) :
    s.CoinsKept (s.setClass cls enabled tube).state := by
  unfold State.setClass
  split
  · exact .refl s
  · next c _ =>
    dsimp only
    split
    · exact .refl s
    · next allowed =>
      refine State.CoinsKept.trans ?_ ((State.updateRoute_coinsKept _).trans (State.updateMasks_coinsKept _))
      refine fun sound => ⟨sound.six, sound.count, forall_mem_modifyAt sound.mapping fun _ _ i mapped => ?_⟩
      obtain ⟨b, rfl, rfl⟩ := Option.map_eq_some_iff.1 mapped
      have may : s.mappable c.value (some b) = true := by simpa using allowed
      obtain none | ⟨j, x, a, eq, place, assign, denom⟩ := State.mappable_iff.1 may
      · cases none
      · cases eq
        exact ⟨a, by rw [List.getElem?_map, show s.chu.tubes[b.toNat]? = some x from place]; simp [assign], denom⟩

theorem State.setBill_coinsKept (s : State) (cls : Byte) (enabled : Bool) :
    s.CoinsKept (s.setBill cls enabled).state := by
  unfold State.setBill
  split
  · exact .refl s
  · next b _ =>
    exact State.CoinsKept.trans (t := { s with chu := { s.chu with
      bills := modifyAt (fun _ => { b with enabled := enabled }) cls.toNat s.chu.bills } }) .of_same
        (State.updateMasks_coinsKept _)

theorem State.setProbes_coinsKept (s : State) (p1 p2 p3 p4 : Half) :
    s.CoinsKept (s.setProbes p1 p2 p3 p4).state :=
  State.CoinsKept.trans (t := { s with chu := { s.chu with
    probes := ⟨min p1.toNat 60000, min p2.toNat 60000, min p3.toNat 60000, min p4.toNat 60000⟩ } }) .of_same
      (State.evalExact_coinsKept _)

theorem State.changeDoor_coinsKept (s : State) (isOpen : Bool) : s.CoinsKept (s.changeDoor isOpen) := by
  by_cases change : s.hli.doorOpen = isOpen
  · rw [State.changeDoor, if_pos change]
    exact .refl s
  · rw [State.changeDoor_of_change change]
    exact State.CoinsKept.trans (t := s.doorRead isOpen) .of_same (State.updateMasks_coinsKept _)

end Sys2Proof.Machine
end

section
/-! SUPPORT. The executor, the session, drive work and the peripherals keep the laws of tubes and classes: they write a
tube's count or state, or leave tubes and classes as they stand (R29 to R47, R86, R97 to R107, R115 to R128). -/

namespace Sys2Proof.Machine

-- One proof at a time: the whole text is one process, under a memory limit that counts every thread of Lean.
set_option Elab.async false

variable {s t : State}

/-! ### The session (R32 to R47) -/

theorem State.restartInactivity_coinsKept (s : State) : s.CoinsKept s.restartInactivity := .of_chu (by simp)

theorem State.inactivityWritten_coinsKept (s : State) : s.CoinsKept s.inactivityWritten := by
  unfold State.inactivityWritten
  split <;> exact .of_same

theorem State.creditOrIdle_coinsKept (s : State) : s.CoinsKept s.creditOrIdle := by
  obtain ⟨_, h⟩ := s.creditOrIdle_frame
  rw [h]; exact .of_same

theorem State.payOrIdle_coinsKept (s : State) : s.CoinsKept s.payOrIdle := by
  obtain ⟨_, _, _, _, _, _, _, h⟩ := s.payOrIdle_frame
  rw [h]; exact .of_same

theorem State.settle_coinsKept (s : State) (charged : Nat) : s.CoinsKept (s.settle charged) := by
  obtain ⟨_, _, _, _, _, _, _, h⟩ := s.settle_frame charged
  rw [h]; exact .of_same

theorem State.cancelSession_coinsKept (s : State) (r : BillReason) : s.CoinsKept (s.cancelSession r) := by
  have given : s.CoinsKept (s.escrowGivenUp r) := .of_chu (by simp)
  have paid := given.trans (State.payOrIdle_coinsKept _)
  have cancelled : s.cancelSession r =
      if (s.escrowGivenUp r).payOrIdle.sesc.view = s.sesc.view then (s.escrowGivenUp r).payOrIdle.noteSession
      else (s.escrowGivenUp r).payOrIdle := rfl
  rw [cancelled]
  split
  · exact paid.trans (State.noteSession_coinsKept _)
  · exact paid

theorem State.timeOut_coinsKept (s : State) : s.CoinsKept s.timeOut := by
  unfold State.timeOut
  split
  · exact s.cancelSession_coinsKept _
  · exact s.settle_coinsKept 0
  · exact .refl s

theorem State.cancelRequest_coinsKept (s : State) : s.CoinsKept s.cancelRequest.state := by
  unfold State.cancelRequest
  split
  · exact .refl s
  · exact s.restartInactivity_coinsKept
  · exact s.cancelSession_coinsKept _
  · exact .refl s

theorem State.cashlessOpenRequest_coinsKept (s : State) (n : Half) :
    s.CoinsKept (s.cashlessOpenRequest n).state := by
  unfold State.cashlessOpenRequest
  split
  · exact .refl s
  · split <;> exact .of_same

theorem State.cashlessCloseRequest_coinsKept (s : State) : s.CoinsKept s.cashlessCloseRequest.state := by
  unfold State.cashlessCloseRequest
  split
  · exact s.settle_coinsKept 0
  · split <;> exact .refl s

theorem State.takeHead_coinsKept (s : State) : s.CoinsKept s.takeHead := .of_chu (by simp)

theorem State.acceptVend_coinsKept (s : State) (v : PendingVend) : s.CoinsKept (s.acceptVend v) := by
  unfold State.acceptVend
  dsimp only
  split
  · exact State.CoinsKept.trans (t := State.setSesc _ _) .of_same (State.hand_coinsKept _ _ _)
  · exact State.CoinsKept.trans (t := State.enqueue _ v) .of_same (State.takeHead_coinsKept _)

theorem State.refuseVend_coinsKept (s : State) (st : Status) (body : List Field) :
    s.CoinsKept (s.refuseVend st body).state := by
  unfold State.refuseVend
  dsimp only
  split
  · exact s.restartInactivity_coinsKept
  · exact .refl s

theorem State.vendFrom_coinsKept (s : State) (r : Selection) : s.CoinsKept (s.vendFrom r).state := by
  unfold State.vendFrom
  dsimp only
  split
  · exact s.refuseVend_coinsKept _ _
  · split
    · exact s.refuseVend_coinsKept _ _
    · split
      · exact s.refuseVend_coinsKept _ _
      · split
        · exact s.acceptVend_coinsKept _
        · exact s.refuseVend_coinsKept _ _

theorem State.vendRequest_coinsKept (s : State) (code : Half) : s.CoinsKept (s.vendRequest code).state := by
  unfold State.vendRequest
  split
  · exact s.refuseVend_coinsKept _ _
  · split
    · exact s.refuseVend_coinsKept _ _
    · split
      · exact s.refuseVend_coinsKept _ _
      · exact s.vendFrom_coinsKept _
      · exact s.vendFrom_coinsKept _
      · exact s.refuseVend_coinsKept _ _

/-! ### The outcome of a vend (R39 to R42) -/

theorem State.vendDelivered_coinsKept (s : State) (v : PendingVend) : s.CoinsKept (s.vendDelivered v) := by
  unfold State.vendDelivered
  split
  · have charged : s.CoinsKept (s.charged v) := .of_same
    dsimp only
    split
    · exact charged.trans (State.creditOrIdle_coinsKept _)
    · exact charged.trans (State.payOrIdle_coinsKept _)
  · exact State.CoinsKept.trans (t := (s.chargeCashless v.price).reportVend v (.drive .delivered) v.price)
      .of_same (State.settle_coinsKept _ _)

theorem State.vendFailed_coinsKept (s : State) (v : PendingVend) (o : DriveOutcome) :
    s.CoinsKept (s.vendFailed v o) := by
  unfold State.vendFailed
  dsimp only
  split
  · exact .of_same
  · exact State.CoinsKept.trans (t := s.reportVend v (.drive o) 0) .of_same (State.settle_coinsKept _ 0)

theorem State.vendJammed_coinsKept (s : State) (v : PendingVend) (o : DriveOutcome) :
    s.CoinsKept (s.vendJammed v o) := by
  unfold State.vendJammed
  split
  · exact .of_same
  · exact s.vendFailed_coinsKept v o

theorem State.takeVendOutcome_coinsKept (s : State) (o : DriveOutcome) : s.CoinsKept (s.takeVendOutcome o) := by
  cases pending : s.sesc.pendingVend with
  | none =>
    simp only [State.takeVendOutcome, pending]
    exact .refl s
  | some v =>
    have seen : s.CoinsKept (s.seltVend v.code v.index o) := .of_same
    cases o <;> simp only [State.takeVendOutcome, pending]
    case delivered => exact seen.trans (State.vendDelivered_coinsKept _ v)
    case jammed | openMotor | noDrop => exact seen.trans (State.vendJammed_coinsKept _ v _)
    case noPower | interrupted => exact seen.trans (State.vendFailed_coinsKept _ v _)

theorem State.handOutcome_coinsKept (s : State) (e : DriveEntry) (o : DriveOutcome) :
    s.CoinsKept (s.handOutcome e o) := by
  unfold State.handOutcome
  split
  · exact s.takeVendOutcome_coinsKept o
  · rw [State.seltTest_frame]
    exact .of_same

/-! ### Drive work (R52 to R71) -/

theorem State.enterAwaitPower_coinsKept (s : State) (u : DriveUnit) : s.CoinsKept (s.enterAwaitPower u) :=
  .of_chu (by simp)

theorem State.deenergize_coinsKept (s : State) : s.CoinsKept s.deenergize := .of_chu (by simp)

theorem State.endEntry_coinsKept (s : State) (o : DriveOutcome) : s.CoinsKept (s.endEntry o) := by
  cases list : s.sdc.list with
  | nil =>
    simp only [State.endEntry, list]
    exact .refl s
  | cons e rest =>
    have gone : s.CoinsKept (s.entryGone rest) := s.deenergize_coinsKept.trans .of_same
    rw [State.endEntry_of_list o list]
    exact (gone.trans (State.handOutcome_coinsKept _ e o)).trans
      (State.CoinsKept.trans (t := State.setSdc _ _) .of_same (State.takeHead_coinsKept _))

theorem State.dropEvent_coinsKept (s : State) : s.CoinsKept s.dropEvent := by
  unfold State.dropEvent
  split
  case h_3 => exact s.endEntry_coinsKept _
  all_goals exact .of_same

theorem State.revolution_coinsKept (s : State) : s.CoinsKept s.revolution := by
  have stopped : s.CoinsKept (s.setSdc { s.sdc with turnTimer := none }) := .of_same
  unfold State.revolution
  split
  · exact .refl s
  · dsimp only
    split
    · exact stopped.trans (State.endEntry_coinsKept _ _)
    · split
      · exact .of_same
      · exact State.CoinsKept.trans (t := State.editHead _ _) .of_same
          ((State.deenergize_coinsKept _).trans .of_same)

theorem State.settleEnds_coinsKept (s : State) : s.CoinsKept s.settleEnds := by
  unfold State.settleEnds
  split
  · exact .refl s
  · dsimp only
    split
    · exact State.CoinsKept.trans (t := State.editHead _ _) .of_same (State.enterAwaitPower_coinsKept _ _)
    · exact s.endEntry_coinsKept _

theorem State.takeSample_coinsKept (s : State) (u : DriveUnit) (i : Nat) : s.CoinsKept (s.takeSample u i) := by
  have counted : s.CoinsKept (s.sampled u i) := .of_same
  rw [State.takeSample_eq]
  split
  · exact counted.trans (State.endEntry_coinsKept _ _)
  · split
    · exact counted.trans (State.endEntry_coinsKept _ _)
    · exact counted

theorem dropPendingEntries_coinsKept (es : List DriveEntry) (s : State) :
    s.CoinsKept (dropPendingEntries es s) := by
  induction es generalizing s with
  | nil => exact .refl s
  | cons e es ih => exact (s.handOutcome_coinsKept e .noPower).trans (ih _)

theorem State.stopDrive_coinsKept (s : State) : s.CoinsKept s.stopDrive := by
  unfold State.stopDrive
  split
  · exact .refl s
  · next e rest _ =>
    have gone : s.CoinsKept (s.entryGone []) := s.deenergize_coinsKept.trans .of_same
    have idle (x : State) : x.CoinsKept (x.setSdc { x.sdc with seq := .idle }) := .of_same
    dsimp only
    split
    · exact ((gone.trans (State.handOutcome_coinsKept _ e _)).trans
        (dropPendingEntries_coinsKept rest _)).trans (idle _)
    · exact (gone.trans (dropPendingEntries_coinsKept (e :: rest) _)).trans (idle _)

theorem State.curtainBegins_coinsKept (s : State) : s.CoinsKept s.curtainBegins := by
  unfold State.curtainBegins
  split
  · exact State.CoinsKept.trans (t := s.setCurtain .interrupted (some blockTimerMs)) .of_same
      (State.dropEvent_coinsKept _)
  · exact .refl s

theorem State.takeSpiral_coinsKept (s : State) (homeOpen : Bool) : s.CoinsKept (s.takeSpiral homeOpen) := by
  have took : s.CoinsKept (s.tookGrant .spiral) := .of_same
  unfold State.takeSpiral
  rcases s.takeGrant_cases .spiral _ with ⟨-, -, e⟩ | ⟨-, e⟩ <;> rw [e]
  · refine took.trans ?_
    split
    · exact .of_same
    · exact .refl _
    · exact .refl _
    · exact (State.release_aside _ _).coinsKept
  · exact .refl s

theorem State.testRequest_coinsKept (s : State) (row col : Nat) : s.CoinsKept (s.testRequest row col).state := by
  unfold State.testRequest
  split
  · exact .refl s
  · split
    · exact .refl s
    · split
      · exact .refl s
      · exact State.CoinsKept.trans (t := s.setList (s.sdc.list ++ [s.testEntry row col])) .of_same
          (State.takeHead_coinsKept _)

/-! ### Payouts (R97 to R107) -/

theorem State.pulse_coinsKept (s : State) : s.CoinsKept s.pulse := by
  obtain ⟨_, h⟩ := s.pulse_frame
  rw [h]; exact .of_same

theorem State.endPayout_coinsKept (s : State) (keep : Bool) : s.CoinsKept (s.endPayout keep) := by
  obtain ⟨_, _, _, _, _, _, h⟩ := s.endPayout_frame keep
  rw [h]; exact .of_same

theorem State.endChange_coinsKept (s : State) : s.CoinsKept s.endChange :=
  (s.endPayout_coinsKept false).trans (State.creditOrIdle_coinsKept _)

theorem State.startChange_coinsKept (s : State) (n : Nat) (granted : Bool) :
    s.CoinsKept (s.startChange n granted) := by
  obtain ⟨_, _, _, _, _, _, _, h⟩ := s.startChange_frame n granted
  rw [h]; exact .of_same

theorem State.startService_coinsKept (s : State) (i d n count : Nat) :
    s.CoinsKept (s.startService i d n count) := by
  unfold State.startService
  dsimp only
  split
  · exact State.CoinsKept.trans (t := s.setPayout _) .of_same (State.endPayout_coinsKept _ false)
  · exact State.CoinsKept.trans (t := s.setPayout _) .of_same (State.request_aside _ _ _).coinsKept

theorem State.payoutTest_coinsKept (s : State) (i n : Byte) : s.CoinsKept (s.payoutTest i n).state := by
  refine s.withTube_coinsKept i fun _ _ _ _ => ?_
  split
  · exact .refl s
  · split
    · exact .refl s
    · split
      · exact .refl s
      · exact s.startService_coinsKept _ _ _ _

theorem State.finishPayout_coinsKept (s : State) : s.CoinsKept s.finishPayout := by
  unfold State.finishPayout
  split
  · exact s.endChange_coinsKept
  · split
    · exact (s.endPayout_coinsKept true).trans (State.startChange_coinsKept _ _ _)
    · exact s.endPayout_coinsKept false

/-- A jammed tube's state is written, its count and its assignment stand (R103). -/
theorem State.markJammed_coinsKept (s : State) (i : Nat) : s.CoinsKept (s.markJammed i) := by
  have jammed : s.CoinsKept (s.editTube i fun t => { t with state := .jammed }) :=
    s.editTube_coinsKept i (fun _ => rfl) fun _ _ law => law
  exact jammed.trans (State.CoinsKept.trans (t := State.setPayout _ _) .of_same
    ((State.raiseTube_coinsKept _ i .jammed none).trans (State.updateRoute_coinsKept _)))

theorem State.replan_coinsKept (s : State) : s.CoinsKept s.replan := by
  unfold State.replan
  dsimp only
  split
  · exact State.CoinsKept.trans (t := s.setPayout _) .of_same (State.endChange_coinsKept _)
  · exact State.CoinsKept.trans (t := s.setPayout _) .of_same (State.pulse_coinsKept _)

theorem State.windowEnds_coinsKept (s : State) (i : Nat) : s.CoinsKept (s.windowEnds i) := by
  have set (p : Payout) : s.CoinsKept (s.setPayout p) := .of_same
  unfold State.windowEnds
  dsimp only
  split
  · split
    · exact (set _).trans (State.finishPayout_coinsKept _)
    · exact (set _).trans (State.pulse_coinsKept _)
  · split
    · split
      · exact s.finishPayout_coinsKept
      · exact (set _).trans (State.pulse_coinsKept _)
    · unfold State.jamTube
      dsimp only
      split
      · exact (s.markJammed_coinsKept i).trans (State.replan_coinsKept _)
      · exact (s.markJammed_coinsKept i).trans (State.finishPayout_coinsKept _)

theorem State.stopPayout_coinsKept (s : State) : s.CoinsKept s.stopPayout := by
  unfold State.stopPayout
  split
  · exact .refl s
  · split
    · exact s.endChange_coinsKept
    · split
      · exact s.endChange_coinsKept
      · exact s.endPayout_coinsKept false

theorem State.takePayout_coinsKept (s : State) : s.CoinsKept s.takePayout := by
  have took : s.CoinsKept (s.tookGrant .payout) := .of_same
  unfold State.takePayout
  rcases s.takeGrant_cases .payout _ with ⟨-, -, e⟩ | ⟨-, e⟩ <;> rw [e]
  · refine took.trans ?_
    split
    · exact State.CoinsKept.trans (t := State.setPayout _ _) .of_same (State.pulse_coinsKept _)
    · exact .refl _
    · exact (State.release_aside _ _).coinsKept
  · exact .refl s

theorem State.confirmCoin_coinsKept (s : State) (d : Nat) : s.CoinsKept (s.confirmCoin d) := by
  unfold State.confirmCoin
  dsimp only
  split <;> exact .of_same

/-- An exit count lowers one tube's count (R102, R106). -/
theorem State.exitCount_coinsKept (s : State) : s.CoinsKept s.exitCount := by
  unfold State.exitCount
  split
  · next w _ =>
    have lowered := s.lowerCount_coinsKept w.tube
    unfold State.countInWindow
    dsimp only
    refine State.CoinsKept.trans ?_ (State.updateRoute_coinsKept _)
    split
    · split
      · exact lowered.trans (State.confirmCoin_coinsKept _ _)
      · exact lowered.trans .of_same
    · exact lowered
  · unfold State.lateCount
    split
    · next i _ =>
      split
      · split
        · next a _ =>
          exact (s.lowerCount_coinsKept i).trans (State.CoinsKept.trans (t := State.payOver _ a.denom) .of_same
            (State.tubesChanged_coinsKept _))
        · exact .refl s
      · exact .refl s
    · exact .refl s

theorem State.warnBlocks_coinsKept (s : State) : s.CoinsKept s.warnBlocks := by
  have warned : s.Aside s.warned :=
    (State.Aside.trans (t := { s with lba := { s.lba with pfw := true } }) rfl
      (State.setBand_aside _ _)).trans (State.grantPass_aside _)
  exact ((warned.coinsKept.trans (State.stopDrive_coinsKept _)).trans (State.stopPayout_coinsKept _)).trans
    (State.stopMove_aside _).coinsKept

/-! ### Escrow and coins (R29 to R37, R86, R87) -/

theorem State.loseEscrow_coinsKept (s : State) (r : BillReason) : s.CoinsKept (s.loseEscrow r) := by
  unfold State.loseEscrow
  dsimp only
  split <;> exact .of_same

theorem State.stackFails_coinsKept (s : State) (r : BillReason) : s.CoinsKept (s.stackFails r) := by
  have gone : s.CoinsKept (s.stackGone r) := by
    rw [State.stackGone_unchanged]
    exact .of_same
  exact gone.trans (State.creditOrIdle_coinsKept _)

theorem State.billLost_coinsKept (s : State) : s.CoinsKept s.billLost := by
  unfold State.billLost
  split
  · exact s.stackFails_coinsKept _
  · split
    · exact s.loseEscrow_coinsKept _
    · exact .refl s

theorem State.billReturned_coinsKept (s : State) : s.CoinsKept s.billReturned := by
  unfold State.billReturned
  split
  · exact s.stackFails_coinsKept _
  · split
    · exact s.loseEscrow_coinsKept _
    · exact .refl s

theorem State.billEscrowed_coinsKept (s : State) (cls : Nat) : s.CoinsKept (s.billEscrowed cls) := by
  unfold State.billEscrowed
  split
  · exact .refl s
  · split
    · next r _ =>
      have returned : s.CoinsKept (s.handEscrowReturn.raise (.bill r)) := (s.hand_coinsKept _ _).trans .of_same
      unfold State.sendBack
      dsimp only
      split
      · exact returned.trans (State.restartInactivity_coinsKept _)
      · exact returned
    · unfold State.keepBill
      dsimp only
      split
      · exact .of_same
      · exact State.CoinsKept.trans (t := s.setSesc _) .of_same (State.restartInactivity_coinsKept _)

theorem State.billStacked_coinsKept (s : State) : s.CoinsKept s.billStacked := by
  unfold State.billStacked
  split
  · dsimp only
    split
    · exact State.CoinsKept.trans (t := s.stacked.enqueue _) .of_same (State.takeHead_coinsKept _)
    · exact .of_same
  · exact .of_same

theorem State.coinAccepted_coinsKept (s : State) (cls : Nat) (toTube : Bool) :
    s.CoinsKept (s.coinAccepted cls toTube) := by
  unfold State.coinAccepted
  split
  · exact .refl s
  · next c _ =>
    split
    · exact .refl s
    · obtain ⟨chu, -⟩ := ((s.countCoin c toTube).creditCoin c.value).coinPhase_session
      exact (s.countCoin_coinsKept c toTube).trans
        (State.CoinsKept.trans (t := State.creditCoin _ c.value) .of_same (.of_chu chu))

/-! ### The peripherals (R115 to R128) -/

theorem State.editPeriph_coinsKept (s : State) (p : Peripheral) (f : PeriphRec → PeriphRec) :
    s.CoinsKept (s.editPeriph p f) := .of_same

theorem State.queueSetup_coinsKept (s : State) (p : Peripheral) : s.CoinsKept (s.queueSetup p) := by
  cases p <;> exact .of_same

theorem State.probeFails_coinsKept (s : State) (p : Peripheral) : s.CoinsKept (s.probeFails p) := by
  unfold State.probeFails
  dsimp only
  split <;> exact .of_same

theorem State.comeOnline_coinsKept (s : State) (p : Peripheral) : s.CoinsKept (s.comeOnline p) :=
  ((s.editPeriph_coinsKept p _).trans (State.queueSetup_coinsKept _ p)).trans .of_same

theorem State.serveNew_coinsKept (s : State) (p : Peripheral) : s.CoinsKept (s.serveNew p) := by
  unfold State.serveNew
  dsimp only
  split
  · exact .of_same
  · split
    · exact .of_same
    · exact .of_same
    · split
      · exact .of_same
      · split <;> exact .of_same

theorem State.serve_coinsKept (s : State) (p : Peripheral) : s.CoinsKept (s.serve p) := by
  unfold State.serve
  split
  · split
    · exact .of_same
    · exact s.serveNew_coinsKept p
  · split <;> exact .of_same

theorem serveLate_coinsKept (ps : List Peripheral) (s : State) : s.CoinsKept (serveLate ps s) := by
  induction ps generalizing s with
  | nil => exact .of_same
  | cons p ps ih =>
    simp only [serveLate]
    split
    · exact (s.serve_coinsKept p).trans (ih _)
    · exact (s.serve_coinsKept p).trans .of_same

theorem State.endExchange_coinsKept (s : State) : s.CoinsKept s.endExchange :=
  State.CoinsKept.trans (t := s.setBus .idle) .of_same (serveLate_coinsKept _ _)

theorem State.openSlot_coinsKept (s : State) : s.CoinsKept s.openSlot := by
  unfold State.openSlot
  dsimp only
  split
  · exact State.CoinsKept.trans (t := { s with cbm := { s.cbm with
      slotLeft := slotMs, nextSlot := otherPeriph s.cbm.nextSlot } }) .of_same (State.serve_coinsKept _ _)
  · exact .of_same

theorem State.frameSent_coinsKept (s : State) : s.CoinsKept s.frameSent := by
  unfold State.frameSent
  split <;> exact .of_same

theorem State.confirmed_coinsKept (s : State) : s.CoinsKept s.confirmed := by
  unfold State.confirmed
  split
  · exact s.endExchange_coinsKept
  · exact .refl s

theorem State.busReset_coinsKept (s : State) (address : Byte) : s.CoinsKept (s.busReset address).state := by
  unfold State.busReset
  split
  · exact .refl s
  · split <;> exact .of_same

theorem State.validatorGone_coinsKept (s : State) (p : Peripheral) : s.CoinsKept (s.validatorGone p) := by
  cases p with
  | coin => exact .refl s
  | bill => exact s.billLost_coinsKept

theorem State.goOffline_coinsKept (s : State) (p : Peripheral) : s.CoinsKept (s.goOffline p) :=
  State.CoinsKept.trans (t := State.raise _ _) .of_same (State.validatorGone_coinsKept _ p)

theorem State.attemptFails_coinsKept (s : State) (p : Peripheral) : s.CoinsKept (s.attemptFails p) := by
  unfold State.attemptFails
  split
  · exact .refl s
  · split
    · exact .of_same
    · exact s.goOffline_coinsKept p

theorem State.exchangeFails_coinsKept (s : State) (p : Peripheral) (probe : Bool) :
    s.CoinsKept (s.exchangeFails p probe) := by
  unfold State.exchangeFails
  split
  · exact s.probeFails_coinsKept p
  · exact s.attemptFails_coinsKept p

theorem State.commandAcked_coinsKept (s : State) (p : Peripheral) (m : Message) :
    s.CoinsKept (s.commandAcked p m) := by
  cases m
  case reset =>
    exact State.CoinsKept.trans (t := State.editPeriph _ p fun r => { r with pending := PendingSet.empty }) .of_same
      (((State.queueSetup_coinsKept _ p).trans (State.editPeriph_coinsKept _ p _)).trans
        (State.validatorGone_coinsKept _ p))
  all_goals exact .of_same

theorem State.deviceFault_coinsKept (s : State) (p : Peripheral) (code : Nat) :
    s.CoinsKept (s.deviceFault p code) := by
  have noted : s.CoinsKept ((s.editPeriph p fun r => { r with lastFault := code, stackWatch := none }).raise
    (.peripheral p true code)) := .of_same
  unfold State.deviceFault
  dsimp only
  split
  · exact noted
  · split
    · exact noted.trans (State.stackFails_coinsKept _ _)
    · exact noted

theorem State.justReset_coinsKept (s : State) (p : Peripheral) : s.CoinsKept (s.justReset p) := by
  unfold State.justReset
  split
  · exact .refl s
  · exact State.CoinsKept.trans (t := s.editPending p fun q => { q with escrow := none }) .of_same
      ((State.queueSetup_coinsKept _ p).trans (State.CoinsKept.trans (t := State.raise _ _) .of_same
        (State.validatorGone_coinsKept _ p)))

theorem State.busEvent_coinsKept (s : State) (p : Peripheral) (e : BusEvent) : s.CoinsKept (s.busEvent p e) := by
  have watch : s.CoinsKept s.stopWatch := .of_same
  cases e with
  | deviceFault code =>
    have fault := s.deviceFault_coinsKept p code
    cases p <;> exact fault
  | justReset =>
    have restart := s.justReset_coinsKept p
    cases p <;> exact restart
  | coinRejected => cases p <;> exact .refl s
  | coinAccepted cls toTube =>
    cases p
    · exact s.coinAccepted_coinsKept cls toTube
    · exact .refl s
  | billEscrowed cls =>
    cases p
    · exact .refl s
    · exact s.billEscrowed_coinsKept cls
  | billStacked =>
    cases p
    · exact .refl s
    · exact watch.trans (State.billStacked_coinsKept _)
  | billReturned =>
    cases p
    · exact .refl s
    · exact watch.trans (State.billReturned_coinsKept _)

theorem busEvents_coinsKept (p : Peripheral) (es : List BusEvent) (s : State) :
    s.CoinsKept (busEvents p es s) := by
  induction es generalizing s with
  | nil => exact .refl s
  | cons e es ih =>
    exact ((s.busEvent_coinsKept p e).trans (State.closeEvent_coinsKept _ _)).trans (ih _)

theorem State.pollTaken_coinsKept (s : State) (p : Peripheral) (es : List BusEvent) :
    s.CoinsKept (s.pollTaken p es) :=
  State.CoinsKept.trans (t := s.pollBegun p) .of_same ((busEvents_coinsKept p es _).trans .of_same)

theorem State.setupTaken_coinsKept (s : State) (p : Peripheral) (vs : List Nat) :
    s.CoinsKept (s.setupTaken p vs) :=
  State.CoinsKept.trans (t := s.pollBegun p) .of_same (State.takeSetup_coinsKept _ p vs)

theorem State.closeExchange_coinsKept {f : State → State} (h : s.CoinsKept (f s)) :
    s.CoinsKept (s.closeExchange f) :=
  h.trans ((State.closeEvent_coinsKept _ _).trans (State.endExchange_coinsKept _))

theorem State.replyFails_coinsKept (s : State) : s.CoinsKept s.replyFails := by
  unfold State.replyFails
  split
  · exact State.closeExchange_coinsKept (s.exchangeFails_coinsKept _ _)
  · exact .refl s

theorem State.replyAck_coinsKept (s : State) : s.CoinsKept s.replyAck := by
  unfold State.replyAck
  split
  · refine State.closeExchange_coinsKept ?_
    split
    · exact s.comeOnline_coinsKept _
    · split
      · exact .refl s
      · split
        · exact s.commandAcked_coinsKept _ _
        · exact s.attemptFails_coinsKept _
  · exact .refl s

theorem State.replySetup_coinsKept (s : State) (chars : List Byte) : s.CoinsKept (s.replySetup chars) := by
  unfold State.replySetup
  split
  · split
    · split
      · exact s.setupTaken_coinsKept _ _
      · exact s.replyFails_coinsKept
    · exact s.replyFails_coinsKept
  · exact .refl s

theorem State.replyPoll_coinsKept (s : State) (chars : List Byte) : s.CoinsKept (s.replyPoll chars) := by
  unfold State.replyPoll
  split
  · split
    · split
      · exact s.pollTaken_coinsKept _ _
      · exact s.replyFails_coinsKept
    · exact s.replyFails_coinsKept
  · exact .refl s

end Sys2Proof.Machine
end

section
/-! SUPPORT. Every command keeps the count law and the mapping bound, or starts the part anew; the laws of the image
and of a snapshot (R73, R79, R90, R201 to R206). -/

namespace Sys2Proof.Machine

-- One proof at a time: the whole text is one process, under a memory limit that counts every thread of Lean.
set_option Elab.async false

variable {s t : State}

/-! ### The requests of the other blocks -/

theorem State.withSel_coinsKept (s : State) (code : Half) {f : Selection → Reply}
    (h : ∀ r, s.CoinsKept (f r).state) : s.CoinsKept (s.withSel code f).state := by
  rcases s.withSel_cases code f with ⟨-, e⟩ | ⟨r, -, e⟩ <;> rw [e]
  · exact .refl s
  · exact h r

theorem State.withPosition_coinsKept (s : State) (code : Half) (index : Byte) (ok : Bool)
    {f : Position → Reply} (h : ∀ p, s.CoinsKept (f p).state) :
    s.CoinsKept (s.withPosition code index ok f).state := by
  rcases s.withPosition_cases code index ok f with ⟨st, e⟩ | ⟨r, p, -, -, e⟩ <;> rw [e]
  · exact .refl s
  · exact h p

theorem State.findSelection_coinsKept (s : State) (code : Half) : s.CoinsKept (s.findSelection code).state := by
  unfold State.findSelection
  split
  · exact s.withSel_coinsKept code fun _ => .refl s
  · exact .refl s

theorem State.nextSelections_coinsKept (s : State) (after : Half) :
    s.CoinsKept (s.nextSelections after).state := by
  unfold State.nextSelections
  split <;> exact .refl s

theorem State.defineSelection_coinsKept (s : State) (d : DefineReq) :
    s.CoinsKept (s.defineSelection d).state := by
  unfold State.defineSelection
  split <;> exact .of_same

theorem State.retireSelection_coinsKept (s : State) (code : Half) :
    s.CoinsKept (s.retireSelection code).state := by
  refine s.withSel_coinsKept code fun r => ?_
  split <;> exact .of_same

theorem State.setPrice_coinsKept (s : State) (code : Half) (set : Option PriceSet) (price : Half) :
    s.CoinsKept (s.setPrice code set price).state := by
  refine s.withSel_coinsKept code fun r => ?_
  split
  · exact .refl s
  · split
    · exact .refl s
    · split <;> exact .of_same

theorem State.readSetting_coinsKept (s : State) (num : Nat) : s.CoinsKept (s.readSetting num).state := by
  unfold State.readSetting
  split <;> exact .refl s

theorem State.setZoneRequest_coinsKept (s : State) (q : ZoneReq) : s.CoinsKept (s.setZoneRequest q).state := by
  unfold State.setZoneRequest
  split
  · split
    · exact .refl s
    · exact (s.writeZone_aside _ _).coinsKept
  · exact .refl s

theorem State.clearHoldRequest_coinsKept (s : State) (zone : Byte) :
    s.CoinsKept (s.clearHoldRequest zone).state := by
  unfold State.clearHoldRequest
  split
  · exact .refl s
  · split
    · exact .refl s
    · split
      · exact .refl s
      · split
        · exact .refl s
        · exact (s.clearHold_aside _).coinsKept

theorem State.defrostRequest_coinsKept (s : State) : s.CoinsKept s.defrostRequest.state := by
  unfold State.defrostRequest
  split
  · exact .refl s
  · exact s.defrostDue_aside.coinsKept

theorem State.settingWritten_coinsKept (s : State) (num : Nat) : s.CoinsKept (s.settingWritten num) := by
  unfold State.settingWritten
  split
  · exact s.updateMasks_coinsKept
  · exact s.inactivityWritten_coinsKept
  · exact s.evalExact_coinsKept
  · exact (s.promoteAllDue_aside.trans (State.grantPass_aside _)).coinsKept
  · split
    · exact ((s.promoteIfDue_aside _).trans (State.grantPass_aside _)).coinsKept
    · split
      · exact s.grantPass_aside.coinsKept
      · exact (s.rfcSettingWritten_aside _).coinsKept

theorem State.writeSetting_coinsKept (s : State) (num : Nat) (v : Int) :
    s.CoinsKept (s.writeSetting num v).state := by
  unfold State.writeSetting
  split
  · exact .refl s
  · exact State.CoinsKept.trans (t := { s with settings := s.settings.write num (settingClamp num v) }) .of_same
      (State.settingWritten_coinsKept _ num)

theorem State.clearTotals_coinsKept (s : State) : s.CoinsKept s.clearTotals.state := by
  unfold State.clearTotals
  split <;> exact .of_same

/-! ### What a command does -/

/-- What one command can make of tubes and classes: within their laws, or anew from a power-on. -/
inductive CoinChange (s t : State) : Prop
  | kept (h : s.CoinsKept t)
  | restarted (straps : BitVec 2) (h : t = s.boot straps)
  | lost (h : t = s.losePower)

/-- A command that writes neither tubes nor classes. -/
theorem CoinChange.of_same (tubes : t.chu.tubes = s.chu.tubes := by rfl)
    (coins : t.chu.coins = s.chu.coins := by rfl) : CoinChange s t := .kept (.of_same tubes coins)

theorem State.on_coinChange {f : State → State} (h : CoinChange s (f s)) : CoinChange s (s.on f) := by
  unfold State.on
  split
  · exact .of_same
  · exact h

theorem State.on_coinsKept {f : State → State} (h : s.CoinsKept (f s)) : CoinChange s (s.on f) :=
  State.on_coinChange (.kept h)

theorem State.event_coinsKept {f : State → State} (h : s.CoinsKept (f s)) : CoinChange s (s.event f) :=
  State.on_coinsKept (h.trans (State.closeEvent_coinsKept _ _))

theorem State.expire_coinsKept (s : State) (left : Option Nat) {f : State → State}
    (h : ∀ x : State, x.CoinsKept (f x)) : s.CoinsKept (s.expire left f) := by
  cases left with
  | none => exact .refl s
  | some d => exact (s.elapse_coinsKept d).trans (h _)

/-- A time of a block of power or climate runs out (R141, R167, R179 to R186). -/
theorem State.expire_aside_coinsKept (s : State) (left : Option Nat) {f : State → State}
    (h : ∀ x : State, x.Aside (f x)) : s.CoinsKept (s.expire left f) :=
  s.expire_coinsKept left fun x => (h x).coinsKept

theorem State.host_coinsKept (s : State) (code want len : Nat) {f : State → Reply}
    (h : s.CoinsKept (f s).state) : CoinChange s (s.host code want len f) := by
  unfold State.host
  split
  · split
    · exact .kept ((h.trans (State.closeEvent_coinsKept _ s.sesc)).trans .of_same)
    · exact .of_same
  · exact .of_same

theorem State.host_reads_coinChange (s : State) (code want len : Nat) (st : Status) (body : State → List Field) :
    CoinChange s (s.host code want len fun x => x.reply st (body x)) := s.host_coinsKept _ _ _ (.refl s)

theorem State.hostSave_coinChange (s : State) (code len : Nat) (isRestart : Bool) :
    CoinChange s (s.hostSave code len isRestart) := by
  unfold State.hostSave
  split
  · split <;> exact .of_same
  · exact .of_same

theorem State.onLink_coinChange {f : State → State} (h : CoinChange s (f s)) : CoinChange s (s.onLink f) := by
  unfold State.onLink
  split
  · exact h
  · exact .of_same

/-- A command of the link that at most sets the receive slot. -/
theorem State.onLink_slot_coinChange (s : State) (p : State → Prop) [DecidablePred p] (x : Slot) :
    CoinChange s (s.onLink fun s => if p s then s.setSlot x else s) := by
  refine State.onLink_coinChange ?_
  split <;> exact .of_same

theorem State.endResponse_coinChange (s : State) (straps : BitVec 2) : CoinChange s (s.endResponse straps) := by
  unfold State.endResponse
  split
  · exact .restarted straps rfl
  all_goals exact .of_same

theorem State.endSave_coinsKept (s : State) : s.CoinsKept s.endSave := by
  unfold State.endSave
  split
  · exact .refl s
  · unfold State.answerSave
    split <;> exact .of_same

theorem State.assertWarning_coinsKept (s : State) : s.CoinsKept s.assertWarning := by
  unfold State.assertWarning
  split
  · exact .refl s
  · exact (s.warnBlocks_coinsKept.trans (State.closeEvent_coinsKept _ s.sesc)).trans .of_same

/-- Every command in every state does to tubes and classes one of the things of `CoinChange`. -/
theorem exec_coinChange (s : State) (c : Instr) : ∃ t, exec c s = .next t ∧ CoinChange s t :=
  match c with
  | .powerOn straps => ⟨_, rfl, .restarted straps rfl⟩
  | .resetPin straps => ⟨_, rfl, State.on_coinChange (.restarted straps rfl)⟩
  | .restoreEnd => ⟨_, rfl, by unfold State.endRestore; split <;> exact .of_same⟩
  | .pfwAssertion => ⟨_, rfl, State.on_coinsKept s.assertWarning_coinsKept⟩
  | .pfwDeassertion => ⟨_, rfl, State.event_coinsKept s.deassertWarning_aside.coinsKept⟩
  | .saveEnd => ⟨_, rfl, State.on_coinsKept s.endSave_coinsKept⟩
  | .doorChange isOpen => ⟨_, rfl, State.event_coinsKept (s.changeDoor_coinsKept isOpen)⟩
  | .badFrame => ⟨_, rfl, by split <;> exact .of_same⟩
  | .unknownRequest _ => ⟨_, rfl, by split <;> exact .of_same⟩
  | .discardQuietTimeExpiry => ⟨_, rfl, s.onLink_slot_coinChange (fun s => s.hli.slot = .discarding) _⟩
  | .frameGapExpiry => ⟨_, rfl, s.onLink_slot_coinChange (fun s => s.hli.slot.collects) _⟩
  | .responseEnd straps => ⟨_, rfl, State.onLink_coinChange (s.endResponse_coinChange straps)⟩
  | .ident _ => ⟨_, rfl, s.host_reads_coinChange _ _ _ _ _⟩
  | .noticesRead _ => ⟨_, rfl, s.host_coinsKept _ _ _ .of_same⟩
  | .settingRead _ num => ⟨_, rfl, s.host_coinsKept _ _ _ (s.readSetting_coinsKept _)⟩
  | .settingWrite _ num value => ⟨_, rfl, s.host_coinsKept _ _ _ (s.writeSetting_coinsKept _ _)⟩
  | .storeSave _ => ⟨_, rfl, s.hostSave_coinChange _ _ _⟩
  | .restart _ => ⟨_, rfl, s.hostSave_coinChange _ _ _⟩
  | .selFind _ code => ⟨_, rfl, s.host_coinsKept _ _ _ (s.findSelection_coinsKept code)⟩
  | .selNext _ after => ⟨_, rfl, s.host_coinsKept _ _ _ (s.nextSelections_coinsKept after)⟩
  | .selDefine _ d => ⟨_, rfl, s.host_coinsKept _ _ _ (s.defineSelection_coinsKept d)⟩
  | .selStockSet _ code index known n =>
    ⟨_, rfl, s.host_coinsKept _ _ _ (s.withPosition_coinsKept code index _ fun _ => .of_same)⟩
  | .selStockAdd _ code index n =>
    ⟨_, rfl, s.host_coinsKept _ _ _ (s.withPosition_coinsKept code index _ fun _ => .of_same)⟩
  | .selSuspend _ code => ⟨_, rfl, s.host_coinsKept _ _ _ (s.withSel_coinsKept code fun _ => .of_same)⟩
  | .selResume _ code => ⟨_, rfl, s.host_coinsKept _ _ _ (s.withSel_coinsKept code fun _ => .of_same)⟩
  | .selClearFault _ code index =>
    ⟨_, rfl, s.host_coinsKept _ _ _ (s.withPosition_coinsKept code index _ fun _ => .of_same)⟩
  | .selRetire _ code => ⟨_, rfl, s.host_coinsKept _ _ _ (s.retireSelection_coinsKept code)⟩
  | .priceSet _ code set price => ⟨_, rfl, s.host_coinsKept _ _ _ (s.setPrice_coinsKept code set price)⟩
  | .priceSwap _ => ⟨_, rfl, s.host_coinsKept _ _ _ .of_same⟩
  | .vend _ code => ⟨_, rfl, s.host_coinsKept _ _ _ (s.vendRequest_coinsKept code)⟩
  | .cancel _ => ⟨_, rfl, s.host_coinsKept _ _ _ s.cancelRequest_coinsKept⟩
  | .cashlessOpen _ amount => ⟨_, rfl, s.host_coinsKept _ _ _ (s.cashlessOpenRequest_coinsKept amount)⟩
  | .cashlessClose _ => ⟨_, rfl, s.host_coinsKept _ _ _ s.cashlessCloseRequest_coinsKept⟩
  | .sessionRead _ => ⟨_, rfl, s.host_reads_coinChange _ _ _ _ _⟩
  | .driveTest _ row col => ⟨_, rfl, s.host_coinsKept _ _ _ (s.testRequest_coinsKept _ _)⟩
  | .driveRead _ => ⟨_, rfl, s.host_reads_coinChange _ _ _ _ _⟩
  | .tubeDefine _ tube denom capacity lowMark =>
    ⟨_, rfl, s.host_coinsKept _ _ _ (s.defineTube_coinsKept tube denom capacity lowMark)⟩
  | .tubeSetCount _ tube count => ⟨_, rfl, s.host_coinsKept _ _ _ (s.setCount_coinsKept tube count)⟩
  | .tubeEnable _ tube => ⟨_, rfl, s.host_coinsKept _ _ _ (s.setTubeState_coinsKept tube .ok)⟩
  | .tubeDisable _ tube => ⟨_, rfl, s.host_coinsKept _ _ _ (s.setTubeState_coinsKept tube .disabled)⟩
  | .tubeRead _ => ⟨_, rfl, s.host_reads_coinChange _ _ _ _ _⟩
  | .classSet _ cls enabled tube => ⟨_, rfl, s.host_coinsKept _ _ _ (s.setClass_coinsKept cls enabled tube)⟩
  | .billSet _ cls enabled => ⟨_, rfl, s.host_coinsKept _ _ _ (s.setBill_coinsKept cls enabled)⟩
  | .classRead _ => ⟨_, rfl, s.host_reads_coinChange _ _ _ _ _⟩
  | .totalsRead _ => ⟨_, rfl, s.host_reads_coinChange _ _ _ _ _⟩
  | .totalsClear _ => ⟨_, rfl, s.host_coinsKept _ _ _ s.clearTotals_coinsKept⟩
  | .payoutTest _ tube n => ⟨_, rfl, s.host_coinsKept _ _ _ (s.payoutTest_coinsKept tube n)⟩
  | .probeSet _ p1 p2 p3 p4 => ⟨_, rfl, s.host_coinsKept _ _ _ (s.setProbes_coinsKept p1 p2 p3 p4)⟩
  | .payoutRead _ => ⟨_, rfl, s.host_reads_coinChange _ _ _ _ _⟩
  | .cashbusReset _ address => ⟨_, rfl, s.host_coinsKept _ _ _ (s.busReset_coinsKept address)⟩
  | .cashbusRead _ => ⟨_, rfl, s.host_reads_coinChange _ _ _ _ _⟩
  | .loadRead _ => ⟨_, rfl, s.host_reads_coinChange _ _ _ _ _⟩
  | .measRead _ => ⟨_, rfl, s.host_reads_coinChange _ _ _ _ _⟩
  | .zoneSet _ z => ⟨_, rfl, s.host_coinsKept _ _ _ (s.setZoneRequest_coinsKept z)⟩
  | .zoneRead _ => ⟨_, rfl, s.host_reads_coinChange _ _ _ _ _⟩
  | .zoneClearHold _ zone => ⟨_, rfl, s.host_coinsKept _ _ _ (s.clearHoldRequest_coinsKept zone)⟩
  | .refrigDefrost _ => ⟨_, rfl, s.host_coinsKept _ _ _ s.defrostRequest_coinsKept⟩
  | .refrigRead _ => ⟨_, rfl, s.host_reads_coinChange _ _ _ _ _⟩
  | .inactivityExpiry => ⟨_, rfl, State.event_coinsKept (s.expire_coinsKept _ State.timeOut_coinsKept)⟩
  | .serveSlot => ⟨_, rfl, State.on_coinsKept ((s.elapse_coinsKept _).trans (State.openSlot_coinsKept _))⟩
  | .masterFrameSent => ⟨_, rfl, State.on_coinsKept s.frameSent_coinsKept⟩
  | .replyWindowExpiry => ⟨_, rfl, State.on_coinsKept (s.expire_coinsKept _ State.replyFails_coinsKept)⟩
  | .replyGapExpiry => ⟨_, rfl, State.on_coinsKept s.replyFails_coinsKept⟩
  | .ack => ⟨_, rfl, State.on_coinsKept s.replyAck_coinsKept⟩
  | .nak => ⟨_, rfl, State.on_coinsKept s.replyFails_coinsKept⟩
  | .badReply => ⟨_, rfl, State.on_coinsKept s.replyFails_coinsKept⟩
  | .setupReply chars => ⟨_, rfl, State.on_coinsKept (s.replySetup_coinsKept chars)⟩
  | .pollReply chars => ⟨_, rfl, State.on_coinsKept (s.replyPoll_coinsKept chars)⟩
  | .confirmationSent => ⟨_, rfl, State.on_coinsKept s.confirmed_coinsKept⟩
  | .probeTimeExpiry p => ⟨_, rfl, State.on_coinsKept (by split <;> exact .of_same)⟩
  | .stackWatchExpiry =>
    ⟨_, rfl, State.event_coinsKept (s.expire_coinsKept _ fun x => x.goOffline_coinsKept .bill)⟩
  | .fullSwitchChange tube active => ⟨_, rfl, State.event_coinsKept (s.fullReads_coinsKept _ active)⟩
  | .lowSwitchChange tube low => ⟨_, rfl, State.event_coinsKept (s.lowReads_coinsKept _ low)⟩
  | .payoutGrant => ⟨_, rfl, State.event_coinsKept s.takePayout_coinsKept⟩
  | .pulseEnd => ⟨_, rfl, State.event_coinsKept (s.expire_coinsKept _ fun _ => .of_same)⟩
  | .exitCount => ⟨_, rfl, State.event_coinsKept s.exitCount_coinsKept⟩
  | .exitWindowExpiry => ⟨_, rfl, State.event_coinsKept (by
      split
      · exact (s.elapse_coinsKept _).trans (State.windowEnds_coinsKept _ _)
      · exact .refl s)⟩
  | .spiralGrant homeOpen => ⟨_, rfl, State.event_coinsKept (s.takeSpiral_coinsKept homeOpen)⟩
  | .powerTimerExpiry =>
    ⟨_, rfl, State.event_coinsKept (s.expire_coinsKept _ fun x => x.endEntry_coinsKept .noPower)⟩
  | .homeSwitchOpens =>
    ⟨_, rfl, State.event_coinsKept (by unfold State.homeOpens; split <;> exact .of_same)⟩
  | .homeSwitchCloses => ⟨_, rfl, State.event_coinsKept (by
      split
      · exact s.revolution_coinsKept
      · exact .refl s)⟩
  | .leaveTimerExpiry =>
    ⟨_, rfl, State.event_coinsKept (s.expire_coinsKept _ fun x => x.endEntry_coinsKept _)⟩
  | .turnTimerExpiry =>
    ⟨_, rfl, State.event_coinsKept (s.expire_coinsKept _ fun x => x.endEntry_coinsKept _)⟩
  | .currentSample code => ⟨_, rfl, State.event_coinsKept (by
      split
      · exact (s.elapse_coinsKept _).trans (State.takeSample_coinsKept _ _ _)
      · exact .refl s)⟩
  | .settleWindowExpiry => ⟨_, rfl, State.event_coinsKept (s.expire_coinsKept _ State.settleEnds_coinsKept)⟩
  | .curtainInterruptionBegins => ⟨_, rfl, State.event_coinsKept s.curtainBegins_coinsKept⟩
  | .curtainInterruptionEnds => ⟨_, rfl, State.event_coinsKept (by split <;> exact .of_same)⟩
  | .blockTimerExpiry => ⟨_, rfl, State.event_coinsKept (s.expire_coinsKept _ fun _ => .of_same)⟩
  | .passEnd codes =>
    ⟨_, rfl, State.event_coinsKept ((s.elapse_coinsKept _).trans (State.endPass_aside _ codes).coinsKept)⟩
  | .zoneTemperature zone => ⟨_, rfl, State.event_coinsKept (s.zoneTakes_aside zone).coinsKept⟩
  | .vdriveValue => ⟨_, rfl, State.event_coinsKept s.vdriveTakes_aside.coinsKept⟩
  | .evaporatorValue => ⟨_, rfl, State.event_coinsKept s.evapTakes_aside.coinsKept⟩
  | .promotion load =>
    ⟨_, rfl, State.event_coinsKept (s.expire_aside_coinsKept _ fun x => x.promote_aside load)⟩
  | .damperGrant => ⟨_, rfl, State.event_coinsKept s.takeDamper_aside.coinsKept⟩
  | .damperMoveEnd => ⟨_, rfl, State.event_coinsKept (s.expire_aside_coinsKept _ State.endMove_aside)⟩
  | .minuteMark => ⟨_, rfl, State.event_coinsKept ((s.elapse_coinsKept _).trans
      (State.CoinsKept.trans .of_same (((State.markZone_aside _ .z1).trans (State.markZone_aside _ .z2)).trans
        (State.markZone_aside _ .z3)).coinsKept))⟩
  | .compressorGrant => ⟨_, rfl, State.event_coinsKept s.takeCompressor_aside.coinsKept⟩
  | .defrostGrant => ⟨_, rfl, State.event_coinsKept s.takeDefrost_aside.coinsKept⟩
  | .lockoutExpiry => ⟨_, rfl, State.event_coinsKept (s.expire_aside_coinsKept _ State.lockoutEnds_aside)⟩
  | .startWindowEnd => ⟨_, rfl, State.event_coinsKept (s.expire_aside_coinsKept _ State.startWindowEnds_aside)⟩
  | .minRunExpiry => ⟨_, rfl, State.event_coinsKept (s.expire_aside_coinsKept _ fun x => by
      split
      · exact x.stopCompressor_aside
      · exact .refl x)⟩
  | .maxContinuousRunExpiry => ⟨_, rfl, State.event_coinsKept (s.expire_aside_coinsKept _ State.defrostDue_aside)⟩
  | .defrostIntervalExpiry => ⟨_, rfl, State.event_coinsKept (s.expire_aside_coinsKept _ State.defrostDue_aside)⟩
  | .heaterTimeLimitExpiry => ⟨_, rfl, State.event_coinsKept (s.expire_aside_coinsKept _ State.endDefrost_aside)⟩
  | .defrostWallTimeExpiry => ⟨_, rfl, State.event_coinsKept (s.expire_aside_coinsKept _ State.endDefrost_aside)⟩
  | .dripTimeExpiry => ⟨_, rfl, State.event_coinsKept (s.expire_aside_coinsKept _ State.dripEnds_aside)⟩
  | .recoveryWindowExpiry => ⟨_, rfl, State.event_coinsKept (s.expire_aside_coinsKept _ State.recoveryEnds_aside)⟩
  | .powerLoss => ⟨_, rfl, .lost rfl⟩
  | .frameStart => ⟨_, rfl, s.onLink_slot_coinChange (fun s => s.hli.slot = .idle) _⟩
  | .lenOutOfRange => ⟨_, rfl, s.onLink_slot_coinChange (fun s => s.hli.slot.collects) _⟩
  | .curtainFirstReading interrupted => ⟨_, rfl, State.event_coinsKept (by
      split
      · exact .refl s
      · split <;> exact .of_same)⟩

/-- A step does to tubes and classes what its command does; an idle step lets time pass. -/
theorem step_coinChange (h : step s = .next t) : ∃ q, CoinChange (s.withPending q) t := by
  unfold step at h
  split at h
  · cases h
    refine ⟨s.pending, ?_⟩
    unfold State.idle State.on
    split <;> exact .of_same
  · next c rest _ =>
    obtain ⟨u, hu, change⟩ := exec_coinChange (s.withPending rest) c
    rw [hu] at h
    cases h
    exact ⟨rest, change⟩

/-! ### The laws of every step -/

/-- The laws of the tubes and coin classes that an image keeps (R73, R79, R90). -/
def Image.CoinsSound (x : Image) : Prop := x.tubes.length = 6 ∧
  (∀ t ∈ x.tubes, countLaw t.assign t.count) ∧ mappingLaw (x.tubes.map SavedTube.assign) x.coins

theorem coinLaw_iff : CoinLaw s ↔ s.chu.Sound ∧ (∀ x, s.rst.image = some x → x.CoinsSound) ∧
    ∀ x, s.rst.saving = some x → x.CoinsSound :=
  ⟨fun ⟨six, count, mapping, image, saving⟩ => ⟨⟨six, count, mapping⟩, image, saving⟩,
    fun ⟨⟨six, count, mapping⟩, image, saving⟩ => ⟨six, count, mapping, image, saving⟩⟩

/-- A snapshot takes the laws of the live records with their values (R201). -/
theorem Chu.Sound.snapshot (h : s.chu.Sound) : s.snapshot.CoinsSound := by
  refine ⟨(List.length_map _).trans h.six, fun x hx => ?_, ?_⟩
  · obtain ⟨y, hy, rfl⟩ := List.mem_map.1 hx
    exact h.count y hy
  · have assigns : s.snapshot.tubes.map SavedTube.assign = s.chu.tubes.map Tube.assign :=
      List.map_map
    rw [assigns]
    exact h.mapping

/-- Records restored from an image have its laws (R90). -/
theorem Image.CoinsSound.restored {x : Image} (h : x.CoinsSound) : x.chu.Sound := by
  obtain ⟨six, count, mapping⟩ := h
  refine ⟨(List.length_map _).trans six, fun t ht => ?_, ?_⟩
  · obtain ⟨y, hy, rfl⟩ := List.mem_map.1 ht
    exact count y hy
  · have assigns : x.chu.tubes.map Tube.assign = x.tubes.map SavedTube.assign := List.map_map
    rw [assigns]
    exact mapping

theorem Image.default_coinsSound : Image.default.CoinsSound := by
  refine ⟨by decide, fun t ht => ?_, fun c hc i mapped => ?_⟩
  · rw [List.eq_of_mem_replicate ht]
    rfl
  · rw [List.eq_of_mem_replicate hc] at mapped
    cases mapped

/-- A power-on finds the image's tubes and classes, or none assigned and none used. -/
theorem boot_coinsSound {s : State} (straps : BitVec 2) (image : ∀ x, s.rst.image = some x → x.CoinsSound) :
    (s.boot straps).chu.Sound := by
  have found : (s.rst.image.getD Image.default).CoinsSound := by
    cases h : s.rst.image with
    | none => exact Image.default_coinsSound
    | some x => exact image x h
  exact found.restored

/-- Settles O53: the live records keep their laws in each change a step can make (`step_coinChange`), and the image
and a snapshot take theirs from live records (`step_tableChange`). -/
theorem coinsKept : Obligations.CoinsKept := by
  intro s t law hstep
  obtain ⟨live, image, saving⟩ := coinLaw_iff.1 law
  have sound : t.chu.Sound := by
    obtain ⟨q, change⟩ := step_coinChange hstep
    cases change with
    | kept h => exact h live
    | restarted straps h => subst h; exact boot_coinsSound straps image
    | lost h => subst h; exact Image.default_coinsSound.restored
  obtain ⟨q, change⟩ := step_tableChange hstep
  refine coinLaw_iff.2 ⟨sound, ?_⟩
  cases change with
  | ran _ k => rw [k]; exact ⟨image, saving⟩
  | saveStarted _ k =>
    rw [k]
    exact ⟨fun x hx => (by cases hx), fun x hx => by cases hx; exact sound.snapshot⟩
  | saveEnded y _ hy k =>
    rw [k]
    exact ⟨fun x hx => by cases hx; exact saving _ hy, fun x hx => by cases hx⟩
  | restarted straps h =>
    subst h
    exact ⟨image, fun x hx => by cases hx⟩
  | lost h =>
    subst h
    exact ⟨image, fun x hx => by cases hx⟩

end Sys2Proof.Machine
end

section
/-! SUPPORT. The route map handed to the coin validator, and the requests of CHU that write a tube (R73 to R76, R84,
R96, R122). -/

namespace Sys2Proof.Machine

-- One proof at a time: the whole text is one process, under a memory limit that counts every thread of Lean.
set_option Elab.async false

variable {s t : State}

/-! ### The route map handed (R84, R122) -/

/-- The coin validator's record behind the recomputation of the route map: a map that differs from the last one
handed stands in the slot of an ONLINE validator. -/
def State.routed (s : State) : PeriphRec :=
  if (s.periph .coin).link = .online ∧ s.chu.lastMap ≠ some s.routeMap then
    { s.periph .coin with pending := { (s.periph .coin).pending with routeMap := some s.routeMap } }
  else s.periph .coin

theorem State.routed_slots (s : State) : s.routed.link = s.cbm.coin.link ∧
    s.routed.pending.acceptMask = s.cbm.coin.pending.acceptMask ∧
    s.routed.pending.routeMap = (if s.cbm.coin.link = .online ∧ s.chu.lastMap ≠ some s.routeMap then
      some s.routeMap else s.cbm.coin.pending.routeMap) ∧
    s.routed = { s.cbm.coin with pending := { s.cbm.coin.pending with
      routeMap := s.routed.pending.routeMap, acceptMask := s.routed.pending.acceptMask } } := by
  have record : s.periph .coin = s.cbm.coin := rfl
  unfold State.routed
  rw [record]
  split <;> exact ⟨rfl, rfl, rfl, rfl⟩

/-- The recomputation of the route map writes the map last handed and the coin validator's slot. -/
theorem State.updateRoute_eq (s : State) : s.updateRoute = { s with
    chu := { s.chu with lastMap := some s.routeMap }, cbm := { s.cbm with coin := s.routed } } := by
  unfold State.updateRoute State.handRouteMap State.routed
  dsimp only
  by_cases same : s.chu.lastMap = some s.routeMap
  · rw [if_pos same, if_neg (fun h => h.2 same), ← same]
    rfl
  · rw [if_neg same]
    by_cases online : (s.periph .coin).link = .online
    · rw [if_pos ⟨online, same⟩]
      exact if_pos online
    · rw [if_neg (fun h => online h.1)]
      exact if_neg online

/-- From `s` to `t` the route map follows: the map as it stands is the last one handed, and nothing else of the Cash
Bus changes (R84, R122). -/
structure State.MapFollows (s t : State) : Prop where
  last : t.chu.lastMap = some t.routeMap
  handed : MapHanded s t
  only : OnlySlotsChange s t
  masks : ∀ p, (t.periph p).pending.acceptMask = (s.periph p).pending.acceptMask

/-- A write `b` of tubes or classes, the recomputation, and a rest that leaves both. -/
theorem State.MapFollows.of_updateRoute {b : State} (bus : b.cbm = s.cbm) (before : b.chu.lastMap = s.chu.lastMap)
    (cbm : t.cbm = b.updateRoute.cbm) (last : t.chu.lastMap = b.updateRoute.chu.lastMap)
    (coins : t.chu.coins = b.chu.coins) (tubes : t.chu.tubes = b.chu.tubes) : s.MapFollows t := by
  obtain ⟨link, mask, map, record⟩ := b.routed_slots
  have stands : t.routeMap = b.routeMap := State.routeMap_congr coins tubes
  rw [State.updateRoute_eq] at cbm last
  rw [bus, before] at map
  rw [bus] at cbm mask record
  refine ⟨last.trans (by rw [stands]), ?_, ?_, fun p => ?_⟩
  · have slot : (t.periph .coin).pending.routeMap = b.routed.pending.routeMap := by
      rw [State.periph, cbm]; rfl
    rw [MapHanded, slot, map, stands]
    rfl
  · rw [OnlySlotsChange, cbm]
    exact congrArg (fun r => { s.cbm with coin := r }) record
  · cases p <;> rw [State.periph, cbm]
    · exact mask
    · rfl

theorem State.tubesChanged_follows {b : State} (bus : b.cbm = s.cbm) (before : b.chu.lastMap = s.chu.lastMap) :
    s.MapFollows b.tubesChanged := by
  obtain ⟨_, _, h⟩ := b.updateRoute.evalExact_frame
  have changed : b.tubesChanged = _ := h
  refine .of_updateRoute bus before ?_ ?_ ?_ ?_ <;> rw [changed]
  · simp
  · simp

theorem State.updateRoute_follows {b : State} (bus : b.cbm = s.cbm) (before : b.chu.lastMap = s.chu.lastMap) :
    s.MapFollows b.updateRoute := .of_updateRoute bus before rfl rfl (by simp) (by simp)

/-! ### A tube written (R73 to R76) -/

theorem State.editTube_of_tube {i : Nat} {x : Tube} (tube : s.tube i = some x) (f : Tube → Tube) :
    s.editTube i f = s.editTube i fun _ => f x :=
  congrArg s.setTubes (modifyAt_of_getElem? f tube)

theorem State.editTube_tube {i : Nat} {x y : Tube} (tube : s.tube i = some x) :
    (s.editTube i fun _ => y).tube i = some y := by
  have place : s.chu.tubes[i]? = some x := tube
  exact (modifyAt_getElem?_self _ _ _).trans (by rw [place]; rfl)

theorem State.tubeBody_of_tube {i : Nat} {x : Tube} (tube : s.tube i = some x) : s.tubeBody i = x.fields := by
  simp only [State.tubeBody, tube]

/-- What follows a change of a tube leaves the tubes. -/
theorem State.tubesChanged_body {b : State} {i : Nat} {x : Tube} (tube : b.tube i = some x) :
    b.tubesChanged.tubeBody i = x.fields :=
  State.tubeBody_of_tube ((congrArg (·[i]?) b.tubesChanged_tubes).trans tube)

/-- From `s` to `t` a request of CHU has written tube `i` as `x`: the map and the exact-change flag have followed, and
no other tube, no total and no session record has changed (R74 to R76, R84, R96). -/
def State.TubeWritten (s t : State) (i : Nat) (x : Tube) (code : Nat) (st : Status) : Prop :=
  t.chu.tubes = modifyAt (fun _ => x) i s.chu.tubes ∧
  t.hli.slot = .answering ⟨code, st, x.fields⟩ false ∧ t.chu.lastMap = some t.routeMap ∧
  t.chu.exactChange = exactFlag t.chu.tubes t.chu.probes t.settings.coinLimit ∧
  MapHanded s t ∧ OnlySlotsChange s t ∧
  (∀ p, (t.periph p).pending.acceptMask = (s.periph p).pending.acceptMask) ∧
  t.sesc = s.sesc ∧ t.chu.totals = s.chu.totals ∧ t.chu.bills = s.chu.bills ∧
  t.sdc = s.sdc ∧ t.selt = s.selt ∧ t.lba = s.lba

/-- The tube written, with classes and notices as the request leaves them, and what follows. -/
theorem State.tubeWritten_of_edit {b : State} {i : Nat} {x : Tube} {cs : List CoinClass}
    {ns : List (Notice × Bool)} (idle : s.chu.payout.state = .idle) (code : Nat) (st : Status)
    (written : b = { s with
      chu := { s.chu with tubes := modifyAt (fun _ => x) i s.chu.tubes, coins := cs }
      hli := { s.hli with notices := ns } }) :
    s.TubeWritten (b.tubesChanged.answer code st x.fields) i x (code + 0x80) st ∧
      (b.tubesChanged.answer code st x.fields).chu.coins = cs := by
  obtain ⟨last, handed, only, masks⟩ : s.MapFollows b.tubesChanged := by
    rw [written]; exact State.tubesChanged_follows rfl rfl
  have flag : b.tubesChanged.chu.exactChange =
      exactFlag b.updateRoute.chu.tubes b.updateRoute.chu.probes b.updateRoute.settings.coinLimit :=
    State.evalExact_flag (by rw [State.updateRoute_eq, written]; exact idle)
  obtain ⟨_, _, _, _, changed⟩ := b.tubesChanged_frame
  refine ⟨⟨?_, rfl, last, flag.trans ?_, handed, only, masks, ?_⟩, ?_⟩
  · rw [State.answer_chu, changed, written]
  · rw [State.updateRoute_eq, State.answer_chu, State.answer_settings, changed]
  · rw [changed, written]
    exact ⟨rfl, rfl, rfl, rfl, rfl, rfl⟩
  · rw [State.answer_chu, changed, written]

/-- A request that works apart from the session is answered without a note of it (R28, R193). -/
theorem State.host_answers_apart (ready : s.linkReady = true) {code want : Nat} {f : State → Reply} {r : Reply}
    (apart : s.Apart (f s).state) (hf : f s = r) :
    (.next (s.host code want want f) : Result) = .next (r.state.answer code r.status r.body) :=
  State.host_answers ready hf (by rw [← hf, apart.sesc])

end Sys2Proof.Machine
end

section
/-! SUPPORT. TUBE.DEFINE, TUBE.SET_COUNT, TUBE.ENABLE and TUBE.DISABLE: the refusals, and what each writes (R74 to R76,
R84, R96). -/

namespace Sys2Proof.Machine

-- One proof at a time: the whole text is one process, under a memory limit that counts every thread of Lean.
set_option Elab.async false

variable {s t : State} {i : Byte} {x : Tube} {a : TubeAssign}

/-! ### The tube of a request -/

theorem State.withTube_of_assign (tube : s.tube i.toNat = some x) (assign : x.assign = some a)
    (f : Tube → TubeAssign → Reply) : s.withTube i f = f x a := by
  simp only [State.withTube, tube, assign]

theorem State.withTube_of_unassigned (none : (s.tube i.toNat).bind Tube.assign = none)
    (f : Tube → TubeAssign → Reply) : s.withTube i f = s.reply .range [] := by
  unfold State.withTube
  split
  · next x tube =>
    rw [tube, Option.bind_some] at none
    simp only [none]
  · rfl

theorem State.assigned_tube (some' : (s.tube i.toNat).bind Tube.assign ≠ none) :
    ∃ x a, s.tube i.toNat = some x ∧ x.assign = some a := by
  obtain ⟨a, h⟩ := Option.ne_none_iff_exists'.1 some'
  obtain ⟨x, tube, assign⟩ := Option.bind_eq_some_iff.1 h
  exact ⟨x, a, tube, assign⟩

theorem State.payoutRunning_iff : s.payoutRunning = true ↔ s.chu.payout.state ≠ .idle := by
  simp [State.payoutRunning]

theorem State.payoutRunning_of_idle (idle : s.chu.payout.state = .idle) : s.payoutRunning = false := by
  simp [State.payoutRunning, idle]

/-! ### TUBE.SET_COUNT (R75) -/

theorem State.setCount_beyond {n : Half} (h : (s.tube i.toNat).bind Tube.assign = none ∨ 255 < n.toNat) :
    s.setCount i n = s.reply .range [] := by
  by_cases unassigned : (s.tube i.toNat).bind Tube.assign = none
  · exact State.withTube_of_unassigned unassigned _
  · obtain ⟨x, a, tube, assign⟩ := State.assigned_tube unassigned
    rw [State.setCount, State.withTube_of_assign tube assign, if_pos (h.resolve_left unassigned)]

theorem State.setCount_doorClosed {n : Half} (tube : s.tube i.toNat = some x) (assign : x.assign = some a)
    (range : n.toNat ≤ 255) (closed : s.hli.doorOpen = false) :
    s.setCount i n = s.reply .doorClosed [] := by
  rw [State.setCount, State.withTube_of_assign tube assign, if_neg (Nat.not_lt.2 range), if_pos closed]

theorem State.setCount_busy {n : Half} (tube : s.tube i.toNat = some x) (assign : x.assign = some a)
    (range : n.toNat ≤ 255) (isOpen : s.hli.doorOpen = true) (runs : s.chu.payout.state ≠ .idle) :
    s.setCount i n = s.reply .busy [] := by
  rw [State.setCount, State.withTube_of_assign tube assign, if_neg (Nat.not_lt.2 range), if_neg (by simp [isOpen]),
    if_pos (State.payoutRunning_iff.2 runs)]

theorem State.setCount_writes {n : Half} (tube : s.tube i.toNat = some x) (assign : x.assign = some a)
    (range : n.toNat ≤ 255) (isOpen : s.hli.doorOpen = true) (idle : s.chu.payout.state = .idle) :
    s.setCount i n =
      ⟨(s.editTube i.toNat fun _ => { x with count := min n.toNat a.capacity }).tubesChanged,
        if n.toNat ≤ a.capacity then .ok else .clamped,
        ({ x with count := min n.toNat a.capacity } : Tube).fields⟩ := by
  rw [State.setCount, State.withTube_of_assign tube assign, if_neg (Nat.not_lt.2 range), if_neg (by simp [isOpen]),
    if_neg (by simp [State.payoutRunning_of_idle idle])]
  dsimp only
  rw [State.editTube_of_tube tube, State.tubesChanged_body (State.editTube_tube tube)]

/-! ### TUBE.ENABLE and TUBE.DISABLE (R76) -/

theorem State.setTubeState_busy (tube : s.tube i.toNat = some x) (assign : x.assign = some a)
    (runs : s.chu.payout.state ≠ .idle) (y : TubeState) : s.setTubeState i y = s.reply .busy [] := by
  rw [State.setTubeState, State.withTube_of_assign tube assign, if_pos (State.payoutRunning_iff.2 runs)]

theorem State.setTubeState_writes (tube : s.tube i.toNat = some x) (assign : x.assign = some a)
    (idle : s.chu.payout.state = .idle) (y : TubeState) : s.setTubeState i y =
      ⟨(s.editTube i.toNat fun _ => { x with state := y }).tubesChanged, .ok,
        ({ x with state := y } : Tube).fields⟩ := by
  rw [State.setTubeState, State.withTube_of_assign tube assign,
    if_neg (by simp [State.payoutRunning_of_idle idle])]
  dsimp only
  rw [State.editTube_of_tube tube, State.tubesChanged_body (State.editTube_tube tube)]

/-! ### TUBE.DEFINE (R74) -/

variable {denom : Half} {capacity lowMark : Byte}

theorem State.defineTube_beyond
    (h : s.tube i.toNat = none ∨ ¬(denom.toNat ≤ 5000 ∧
      (denom.toNat = 0 ∨ (1 ≤ capacity.toNat ∧ lowMark.toNat ≤ capacity.toNat)))) :
    s.defineTube i denom capacity lowMark = s.reply .range [] := by
  unfold State.defineTube
  split
  · rfl
  · next x tube =>
    have beyond := h.resolve_left (by simp [tube])
    rw [← assignInRange_iff, Bool.not_eq_true] at beyond
    exact if_pos beyond

theorem State.defineTube_busy (tube : s.tube i.toNat = some x)
    (range : assignInRange denom capacity lowMark = true) (runs : s.chu.payout.state ≠ .idle) :
    s.defineTube i denom capacity lowMark = s.reply .busy [] := by
  simp [State.defineTube, tube, range, State.payoutRunning_iff.2 runs]

theorem State.defineTube_notEmpty (tube : s.tube i.toNat = some x)
    (range : assignInRange denom capacity lowMark = true) (idle : s.chu.payout.state = .idle)
    (full : 0 < x.count) (changes : changesAssign x.assign (assignOf denom capacity lowMark) = true) :
    s.defineTube i denom capacity lowMark = s.reply .notEmpty [] := by
  simp [State.defineTube, tube, range, State.payoutRunning_of_idle idle, full, changes]

/-- The tube as TUBE.DEFINE leaves it, the mappings dropped that no longer match it (R74). -/
def State.tubeDefined (s : State) (i : Nat) (x : Tube) : State :=
  (s.editTube i fun _ => x).dropMapped (some i)

theorem State.defineTube_writes (tube : s.tube i.toNat = some x)
    (range : assignInRange denom capacity lowMark = true) (idle : s.chu.payout.state = .idle)
    (fits : ¬(0 < x.count ∧ changesAssign x.assign (assignOf denom capacity lowMark) = true)) :
    s.defineTube i denom capacity lowMark =
      ⟨(s.tubeDefined i.toNat (x.rewrite (assignOf denom capacity lowMark))).tubesChanged, .ok,
        (x.rewrite (assignOf denom capacity lowMark)).fields⟩ := by
  have written : s.defineTube i denom capacity lowMark =
      ⟨(s.tubeDefined i.toNat (x.rewrite (assignOf denom capacity lowMark))).tubesChanged, .ok,
        (s.tubeDefined i.toNat (x.rewrite (assignOf denom capacity lowMark))).tubesChanged.tubeBody i.toNat⟩ := by
    simp only [State.defineTube, tube, range, State.payoutRunning_of_idle idle, if_neg fits,
      State.editTube_of_tube tube, State.tubeDefined]
    rfl
  obtain ⟨_, dropped⟩ := (s.editTube i.toNat fun _ =>
    x.rewrite (assignOf denom capacity lowMark)).dropMapped_frame (some i.toNat)
  rw [written, State.tubesChanged_body (x := x.rewrite (assignOf denom capacity lowMark))]
  rw [State.tubeDefined, dropped]
  exact State.editTube_tube tube

/-- A class behind the drop over the classes of tube `i`, which stands as `y` (R74). -/
theorem CoinClass.matched_defined {tubes : List Tube} {i : Nat} {y : Tube} (tube : tubes[i]? = some y)
    (c : CoinClass) : c.matched tubes (some i) =
      if c.tube = some i ∧ (c.value ≠ y.den ∨ y.den = 0) then { c with tube := none } else c := by
  cases mapped : c.tube with
  | none => simp [CoinClass.matched, mapped]
  | some j =>
    by_cases same : j = i
    · subst same
      simp [CoinClass.matched, mapped, denomAt, tube]
    · simp [CoinClass.matched, mapped, Ne.symm same, same]

theorem Tube.rewrite_den (x : Tube) (denom : Half) (capacity lowMark : Byte) :
    (x.rewrite (assignOf denom capacity lowMark)).den = denom.toNat := by
  by_cases none : denom.toNat = 0 <;> simp [Tube.rewrite, Tube.den, assignOf, none]

/-- The tube written and the classes with it, before the map and the flag follow (R74). -/
theorem State.tubeDefined_eq (tube : s.tube i.toNat = some x) : ∃ ns,
    s.tubeDefined i.toNat (x.rewrite (assignOf denom capacity lowMark)) = { s with
      chu := { s.chu with
        tubes := modifyAt (fun _ => x.rewrite (assignOf denom capacity lowMark)) i.toNat s.chu.tubes
        coins := s.chu.coins.map fun c =>
          if c.tube = some i.toNat ∧ (c.value ≠ denom.toNat ∨ denom.toNat = 0) then { c with tube := none } else c }
      hli := { s.hli with notices := ns } } := by
  obtain ⟨ns, dropped⟩ := (s.editTube i.toNat fun _ =>
    x.rewrite (assignOf denom capacity lowMark)).dropMapped_frame (some i.toNat)
  refine ⟨ns, dropped.trans ?_⟩
  have place := State.editTube_tube (y := x.rewrite (assignOf denom capacity lowMark)) tube
  have classes : CoinClass.matched (s.editTube i.toNat fun _ =>
      x.rewrite (assignOf denom capacity lowMark)).chu.tubes (some i.toNat) = fun c =>
        if c.tube = some i.toNat ∧ (c.value ≠ denom.toNat ∨ denom.toNat = 0) then { c with tube := none } else c :=
    funext fun c => by rw [CoinClass.matched_defined place, Tube.rewrite_den]
  rw [classes]
  rfl

theorem Tube.rewrite_eq (x : Tube) (denom : Half) (capacity lowMark : Byte) :
    x.rewrite (assignOf denom capacity lowMark) = { x with
      assign := if denom.toNat = 0 then none else some ⟨denom.toNat, capacity.toNat, lowMark.toNat⟩
      state := if denom.toNat = 0 then .disabled else if x.assign = none then .ok else x.state } := by
  by_cases none : denom.toNat = 0 <;> simp [Tube.rewrite, assignOf, none]

/-- A tube with coins takes its own denomination and capacity alone (R74). -/
theorem not_changesAssign_of_fits (fits : x.count = 0 ∨ ∃ a, x.assign = some a ∧ a.denom = denom.toNat ∧
      a.capacity = capacity.toNat ∧ a.denom ≠ 0) :
    ¬(0 < x.count ∧ changesAssign x.assign (assignOf denom capacity lowMark) = true) := by
  rintro ⟨full, changes⟩
  obtain ⟨a, assign, den, cap, used⟩ := fits.resolve_left (Nat.ne_of_gt full)
  rw [den] at used
  simp [changesAssign, assignOf, assign, den, cap, used] at changes

/-! ### The requests -/

/-- Settles O29: each request refuses as its owner does, or writes the tube (`tubeWritten_of_edit`). -/
theorem tubeWrites : Obligations.TubeWrites := by
  refine ⟨fun s i x ready tube idle => ⟨fun denom capacity lowMark low range fits => ?_, fun a assign =>
    ⟨fun n range isOpen => ?_, ?_, ?_⟩⟩, fun s i ready => ⟨fun denom capacity lowMark => ⟨fun beyond => ?_,
      fun x tube range => ⟨fun runs => ?_, fun idle full changes => ?_⟩⟩, fun n beyond => ?_,
        fun unassigned => ⟨?_, ?_⟩, fun assigned => ⟨fun n range => ⟨fun closed => ?_, fun isOpen runs => ?_⟩,
          fun runs => ⟨?_, ?_⟩⟩⟩⟩
  · obtain ⟨_, defined⟩ := State.tubeDefined_eq (denom := denom) (capacity := capacity) (lowMark := lowMark) tube
    have request := State.defineTube_writes tube (assignInRange_iff.2 ⟨low, range⟩) idle
      (not_changesAssign_of_fits fits)
    refine ⟨_, State.host_answers_apart ready (s.defineTube_apart i denom capacity lowMark) request, ?_⟩
    rw [← Tube.rewrite_eq]
    exact State.tubeWritten_of_edit idle 0x30 .ok defined
  · exact ⟨_, State.host_answers_apart ready (s.setCount_apart i n)
      (State.setCount_writes tube assign range isOpen idle), State.tubeWritten_of_edit idle 0x31 _ rfl⟩
  · exact ⟨_, State.host_answers_apart ready (s.setTubeState_apart i .ok)
      (State.setTubeState_writes tube assign idle .ok), State.tubeWritten_of_edit idle 0x32 .ok rfl⟩
  · exact ⟨_, State.host_answers_apart ready (s.setTubeState_apart i .disabled)
      (State.setTubeState_writes tube assign idle .disabled), State.tubeWritten_of_edit idle 0x33 .ok rfl⟩
  · exact State.host_replies ready (State.defineTube_beyond beyond)
  · exact State.host_replies ready (State.defineTube_busy tube (assignInRange_iff.2 range) runs)
  · have differs : changesAssign x.assign (assignOf denom capacity lowMark) = true := by
      simpa [changesAssign, assignOf] using changes
    exact State.host_replies ready (State.defineTube_notEmpty tube (assignInRange_iff.2 range) idle full differs)
  · exact State.host_replies ready (State.setCount_beyond beyond)
  · exact State.host_replies ready (State.withTube_of_unassigned unassigned _)
  · exact State.host_replies ready (State.withTube_of_unassigned unassigned _)
  all_goals obtain ⟨x, a, tube, assign⟩ := State.assigned_tube assigned
  · exact State.host_replies ready (State.setCount_doorClosed tube assign range closed)
  · exact State.host_replies ready (State.setCount_busy tube assign range isOpen runs)
  · exact State.host_replies ready (State.setTubeState_busy tube assign runs .ok)
  · exact State.host_replies ready (State.setTubeState_busy tube assign runs .disabled)

end Sys2Proof.Machine
end

section
/-! SUPPORT. CLASS.SET and BILL.SET: the refusals, the class written, and the map and the masks handed (R81, R82, R84,
R85, R122). -/

namespace Sys2Proof.Machine

-- One proof at a time: the whole text is one process, under a memory limit that counts every thread of Lean.
set_option Elab.async false

variable {s t : State} {cls : Byte} {enabled : Bool}

/-! ### The map and the masks handed together (R84, R85, R122) -/

theorem OnlySlotsChange.trans {u : State} (h : OnlySlotsChange s u) (k : OnlySlotsChange u t) :
    OnlySlotsChange s t := by
  unfold OnlySlotsChange at h k ⊢
  rw [h] at k
  exact k

/-- From `s` to `t` the route map and both masks follow: each as it stands is the last one handed, and nothing else of
the Cash Bus changes (R84, R85, R122). -/
structure State.ClassesFollow (s t : State) : Prop where
  map : MapHanded s t
  masks : MasksHanded s t
  only : OnlySlotsChange s t

/-- A write `b` of classes, the recomputation of the map, and that of the masks. -/
theorem State.classesFollow {b : State} (bus : b.cbm = s.cbm) (map : b.chu.lastMap = s.chu.lastMap)
    (masks : ∀ p, b.lastMask p = s.lastMask p) : s.ClassesFollow b.updateRoute.updateMasks := by
  obtain ⟨-, handed, only, slots⟩ := State.updateRoute_follows bus map
  obtain ⟨onlyMasks, mapSlot⟩ := b.updateRoute.updateMasks_slots
  have link (p : Peripheral) : (b.updateRoute.periph p).link = (s.periph p).link := by
    obtain ⟨same, -⟩ := b.routed_slots
    rw [State.updateRoute_eq, ← (show b.periph p = s.periph p by rw [State.periph, bus]; rfl)]
    cases p
    · exact same
    · rfl
  have last (p : Peripheral) : b.updateRoute.lastMask p = s.lastMask p := by
    rw [State.updateRoute_eq, ← masks p]
    cases p <;> rfl
  refine ⟨?_, fun p => ?_, only.trans onlyMasks⟩
  · have stands : b.updateRoute.updateMasks.routeMap = b.updateRoute.routeMap :=
      State.routeMap_congr (by simp) (by simp)
    rw [MapHanded, mapSlot, stands]
    exact handed
  · rw [b.updateRoute.updateMasks_handed p, link, last, slots]

/-! ### CLASS.SET (R81) -/

/-- A coin class written. -/
def State.coinWritten (s : State) (k : Nat) (c : CoinClass) : State :=
  { s with chu := { s.chu with coins := modifyAt (fun _ => c) k s.chu.coins } }

theorem State.setClass_absent (absent : s.chu.coins[cls.toNat]? = none) (tube : Option Byte) :
    s.setClass cls enabled tube = s.reply .range [] := by
  simp only [State.setClass, absent]

theorem State.setClass_unmappable {c : CoinClass} {tube : Option Byte} (found : s.chu.coins[cls.toNat]? = some c)
    (refused : s.mappable c.value tube = false) : s.setClass cls enabled tube = s.reply .range [] := by
  simp only [State.setClass, found, refused, if_true]

theorem State.setClass_writes {c : CoinClass} {tube : Option Byte} (found : s.chu.coins[cls.toNat]? = some c)
    (allowed : s.mappable c.value tube = true) : s.setClass cls enabled tube =
      ⟨(s.coinWritten cls.toNat ⟨c.value, enabled, tube.map BitVec.toNat⟩).updateRoute.updateMasks, .ok,
        coinFields s.chu.tubes ⟨c.value, enabled, tube.map BitVec.toNat⟩⟩ := by
  simp only [State.setClass, found, allowed]
  rfl

/-- A class of a value does not go to a tube that is absent, unassigned or of another denomination (R81). -/
theorem State.not_mappable {value : Nat} {i : Byte} (h : s.tube i.toNat = none ∨
      (∃ x, s.tube i.toNat = some x ∧ x.assign = none) ∨
      (∃ x a, s.tube i.toNat = some x ∧ x.assign = some a ∧ a.denom ≠ value)) :
    s.mappable value (some i) = false := by
  rcases h with absent | ⟨x, tube, unassigned⟩ | ⟨x, a, tube, assign, other⟩
  · simp only [State.mappable, absent]
  · simp only [State.mappable, tube, unassigned]
  · simpa only [State.mappable, tube, assign, beq_eq_false_iff_ne] using other

theorem State.coinWritten_chu (s : State) (k : Nat) (c : CoinClass) :
    (s.coinWritten k c).updateRoute.updateMasks.chu = { s.chu with
      coins := modifyAt (fun _ => c) k s.chu.coins
      lastMap := some (s.coinWritten k c).updateRoute.updateMasks.routeMap
      lastCoinMask := some (s.coinWritten k c).updateRoute.updateMasks.coinMask
      lastBillMask := some (s.coinWritten k c).updateRoute.updateMasks.billMask } := by
  have last := State.updateRoute_updateMasks_last (s.coinWritten k c)
  rw [State.updateMasks_chu] at last ⊢
  rw [← last, State.updateRoute_eq]
  rfl

/-- Behind the recomputation the map and the masks are all that has changed beside the class. -/
theorem State.coinWritten_frame (s : State) (k : Nat) (c : CoinClass) :
    (s.coinWritten k c).updateRoute.updateMasks = { s with
      chu := (s.coinWritten k c).updateRoute.updateMasks.chu
      cbm := (s.coinWritten k c).updateRoute.updateMasks.cbm } := by
  obtain ⟨_, _, _, h⟩ := (s.coinWritten k c).updateRoute.updateMasks_frame
  rw [h, State.updateRoute_eq]
  rfl

/-! ### BILL.SET (R82) -/

/-- A bill class written. -/
def State.billWritten (s : State) (k : Nat) (b : BillClass) : State :=
  { s with chu := { s.chu with bills := modifyAt (fun _ => b) k s.chu.bills } }

theorem State.setBill_absent (absent : s.chu.bills[cls.toNat]? = none) :
    s.setBill cls enabled = s.reply .range [] := by
  simp only [State.setBill, absent]

theorem State.setBill_writes {b : BillClass} (found : s.chu.bills[cls.toNat]? = some b) :
    s.setBill cls enabled = ⟨(s.billWritten cls.toNat ⟨b.value, enabled⟩).updateMasks, .ok,
      [.full b.value, .flag enabled]⟩ := by
  simp only [State.setBill, found]
  rfl

theorem State.billWritten_handed (s : State) (k : Nat) (b : BillClass) :
    MasksHanded s (s.billWritten k b).updateMasks := fun p => by
  have last : (s.billWritten k b).lastMask p = s.lastMask p := by cases p <;> rfl
  rw [(s.billWritten k b).updateMasks_handed p, last]
  rfl

theorem State.billWritten_frame (s : State) (k : Nat) (b : BillClass) : (s.billWritten k b).updateMasks = { s with
    chu := (s.billWritten k b).updateMasks.chu, cbm := (s.billWritten k b).updateMasks.cbm } := by
  obtain ⟨_, _, _, h⟩ := (s.billWritten k b).updateMasks_frame
  rw [h]
  rfl

/-! ### The requests -/

/-- The answer of a request that has written CHU and the Cash Bus alone. -/
theorem State.answer_frame (h : t = { s with chu := t.chu, cbm := t.cbm }) (code : Nat) (st : Status)
    (body : List Field) : t.answer code st body = { s with
      chu := (t.answer code st body).chu, cbm := (t.answer code st body).cbm
      hli := (t.answer code st body).hli } :=
  (congrArg (fun u : State => u.answer code st body) h).trans (congrArg (fun x => { s with
    chu := t.chu, cbm := t.cbm, hli := { x with slot := .answering ⟨code + 0x80, st, body⟩ false } })
      (congrArg State.hli h).symm)

/-- Settles O30: each request refuses, or writes the class with the map and the masks behind it
(`classesFollow`, `updateMasks_slots`). -/
theorem classWrites : Obligations.ClassWrites := by
  refine fun s cls enabled ready => ⟨fun tube c found may => ?_, fun i c found h => ?_, fun tube absent => ?_,
    fun b found => ?_, fun absent => ?_⟩
  · have request := State.setClass_writes (enabled := enabled) found (State.mappable_iff.2 may)
    refine ⟨_, State.host_answers_apart ready (s.setClass_apart cls enabled tube) request, ?_⟩
    obtain ⟨map, masks, only⟩ := State.classesFollow (s := s)
      (b := s.coinWritten cls.toNat ⟨c.value, enabled, tube.map BitVec.toNat⟩) rfl rfl fun p => by cases p <;> rfl
    exact ⟨s.coinWritten_chu _ _, map, masks, only, ⟨_, rfl⟩,
      State.answer_frame (s.coinWritten_frame _ _) 0x35 .ok _⟩
  · exact State.host_replies ready (State.setClass_unmappable found (State.not_mappable h))
  · exact State.host_replies ready (State.setClass_absent absent tube)
  · refine ⟨_, State.host_answers_apart ready (s.setBill_apart cls enabled) (State.setBill_writes found), ?_⟩
    obtain ⟨only, map⟩ := (s.billWritten cls.toNat ⟨b.value, enabled⟩).updateMasks_slots
    exact ⟨State.updateMasks_chu _, s.billWritten_handed _ _, only, map, rfl,
      State.answer_frame (s.billWritten_frame _ _) 0x36 .ok _⟩
  · exact State.host_replies ready (State.setBill_absent absent)

end Sys2Proof.Machine
end

section
/-! SUPPORT. The level switches: the field, the correction of the count, and the route map behind both; and the cash
totals read and cleared (R77, R78, R84, R89). -/

namespace Sys2Proof.Machine

-- One proof at a time: the whole text is one process, under a memory limit that counts every thread of Lean.
set_option Elab.async false

variable {s : State} {i : Nat} {x : Tube} {f : Tube → Tube}

/-! ### A switch that reads anew (R77) -/

theorem State.switchRead_of_none (tube : s.tube i = some x) :
    s.switchRead i f none = (s.editTube i fun _ => f x).updateRoute :=
  congrArg State.updateRoute (State.editTube_of_tube tube f)

/-- A correction writes the count and raises TUBE with RECONCILED (R77, R78). -/
theorem State.switchRead_of_some (tube : s.tube i = some x) (m : Nat) : s.switchRead i f (some m) =
    ((s.editTube i fun _ => { f x with count := m }).raise
      (.tube i (f x).state m .reconciled none)).tubesChanged := by
  have corrected : ((s.editTube i f).editTube i fun t => { t with count := m }) =
      s.editTube i fun _ => { f x with count := m } := by
    rw [← State.editTube_of_tube (f := fun t => { f t with count := m }) tube]
    exact congrArg s.setTubes (modifyAt_modifyAt _ _ i s.chu.tubes)
  have noted : ((s.editTube i f).correctCount i (some m)) =
      (s.editTube i fun _ => { f x with count := m }).raise (.tube i (f x).state m .reconciled none) := by
    rw [State.correctCount, corrected, State.raiseTube, State.editTube_tube tube]
  exact congrArg State.tubesChanged noted

theorem State.notes.tubesChanged {n : Notice} (h : s.notes n)
    (ne : (Notice.exactChange true).kindNo ≠ n.kindNo) : s.tubesChanged.notes n :=
  State.notes.evalExact (s := s.updateRoute) (State.notes_congr h (by simp)) ne

/-- The field and a corrected count are written, a correction is noted, and the map follows (R77, R78, R84). -/
theorem State.switchRead_writes (tube : s.tube i = some x) (n : Option Nat) :
    (s.switchRead i f n).chu.tubes = modifyAt (fun _ => { f x with count := n.getD (f x).count }) i s.chu.tubes ∧
    (∀ m, n = some m → (s.switchRead i f n).notes (.tube i (f x).state m .reconciled none)) ∧
    s.MapFollows (s.switchRead i f n) := by
  cases n with
  | none =>
    rw [State.switchRead_of_none tube]
    exact ⟨by simp, fun m h => (by cases h), State.updateRoute_follows rfl rfl⟩
  | some m =>
    rw [State.switchRead_of_some tube]
    refine ⟨by simp, fun k h => ?_, State.tubesChanged_follows rfl rfl⟩
    cases h
    exact (State.raise_notes _ _).tubesChanged (by simp [Notice.kindNo])

/-- The same with the condition under which the switch corrects the count to `c` (R77). -/
theorem State.switchRead_corrects (tube : s.tube i = some x) (p : Prop) [Decidable p] (c : Nat) :
    (s.switchRead i f (if p then some c else none)).chu.tubes =
      modifyAt (fun _ => { f x with count := if p then c else (f x).count }) i s.chu.tubes ∧
    (p → (s.switchRead i f (if p then some c else none)).notes (.tube i (f x).state c .reconciled none)) ∧
    s.MapFollows (s.switchRead i f (if p then some c else none)) := by
  by_cases h : p
  · simp only [if_pos h]
    obtain ⟨tubes, noted, follows⟩ := State.switchRead_writes tube (some c)
    exact ⟨tubes, fun _ => noted c rfl, follows⟩
  · simp only [if_neg h]
    obtain ⟨tubes, -, follows⟩ := State.switchRead_writes tube none
    exact ⟨tubes, fun holds => absurd holds h, follows⟩

/-- Without a correction the field and the map are all that changes. -/
theorem State.switchRead_frame (tube : s.tube i = some x) : s.switchRead i f none = { s with
    chu := (s.switchRead i f none).chu, cbm := (s.switchRead i f none).cbm } := by
  rw [State.switchRead_of_none tube, State.updateRoute_eq]
  rfl

/-! ### The switches of one tube (R77, R84) -/

theorem exec_fullSwitchChange {j : Fin 6} {active : Bool} (on : s.power ≠ .off) (tube : s.tube j.val = some x)
    (change : x.full ≠ if active then .active else .clear) : exec (.fullSwitchChange j active) s =
      .next (s.switchRead j.val (fun t => { t with full := if active then .active else .clear })
        (fullCorrection x active)) := by
  have reads := State.fullReads_of_change tube change
  exact exec_of_quiet_event rfl on reads (by rw [← reads, (s.fullReads_apart _ _).sesc])

theorem exec_lowSwitchChange {j : Fin 6} {low : Bool} (on : s.power ≠ .off) (tube : s.tube j.val = some x)
    (change : x.low ≠ if low then .low else .notLow) : exec (.lowSwitchChange j low) s =
      .next (s.switchRead j.val (fun t => { t with low := if low then .low else .notLow })
        (lowCorrection x low)) := by
  have reads := State.lowReads_of_change tube change
  exact exec_of_quiet_event rfl on reads (by rw [← reads, (s.lowReads_apart _ _).sesc])

/-- Settles O32: a switch that reads anew is a `switchRead`, with the correction its tube's assignment gives. -/
theorem levelSwitches : Obligations.LevelSwitches := by
  refine fun s i x on tube => ⟨fun active same => exec_of_quiet_event rfl on (State.fullReads_of_same tube same) rfl,
    fun low same => exec_of_quiet_event rfl on (State.lowReads_of_same tube same) rfl,
    fun unassigned => ⟨fun active change => ⟨_, exec_fullSwitchChange on tube change, ?_⟩,
      fun low change => ⟨_, exec_lowSwitchChange on tube change, ?_⟩⟩,
    fun a assign => ⟨fun active change => ⟨_, exec_fullSwitchChange on tube change, ?_⟩,
      fun low change => ⟨_, exec_lowSwitchChange on tube change, ?_⟩⟩⟩
  · obtain ⟨uncorrected, -⟩ := corrections_of_unassigned unassigned active
    rw [uncorrected]
    obtain ⟨tubes, -, last, handed, only, -⟩ := State.switchRead_writes
      (f := fun t => { t with full := if active then .active else .clear }) tube none
    exact ⟨tubes, last, handed, only, State.switchRead_frame tube⟩
  · obtain ⟨-, uncorrected⟩ := corrections_of_unassigned unassigned low
    rw [uncorrected]
    obtain ⟨tubes, -, last, handed, only, -⟩ := State.switchRead_writes
      (f := fun t => { t with low := if low then .low else .notLow }) tube none
    exact ⟨tubes, last, handed, only, State.switchRead_frame tube⟩
  · have still := s.fullReads_still i.val active
    rw [State.fullReads_of_change tube change, fullCorrection_eq assign] at still
    rw [fullCorrection_eq assign]
    obtain ⟨tubes, noted, last, handed, -⟩ := State.switchRead_corrects
      (f := fun t => { t with full := if active then .active else .clear }) tube
        (active = true ∧ x.count < a.capacity) a.capacity
    exact ⟨tubes, fun on below => noted ⟨on, below⟩, last, handed, still.payout, still.sesc, still.totals⟩
  · have still := s.lowReads_still i.val low
    rw [State.lowReads_of_change tube change, lowCorrection_eq assign] at still
    rw [lowCorrection_eq assign]
    obtain ⟨tubes, noted, last, handed, -⟩ := State.switchRead_corrects
      (f := fun t => { t with low := if low then .low else .notLow }) tube
        (low = true ∧ a.lowMark < x.count) a.lowMark
    exact ⟨tubes, fun on above => noted ⟨on, above⟩, last, handed, still.payout, still.sesc, still.totals⟩

/-! ### Totals (R89) -/

/-- Settles O31: the totals and the credit are read as they stand, and cleared in IDLE alone. -/
theorem totalsReadAndClear : Obligations.TotalsReadAndClear := by
  refine fun s ready => ⟨State.host_replies ready rfl, fun idle => ?_, fun open' => ⟨[], ?_⟩⟩
  · exact State.host_answers (r := ⟨s.setTotals Totals.zero, .ok, []⟩) ready (if_pos idle)
  · exact State.host_replies ready (if_neg open')

end Sys2Proof.Machine
end

section
/-! SUPPORT. The planner: the usable tubes in their order, the greedy pass and the back-off as coin vectors, and the
plan read off them (R91 to R93). -/

namespace Sys2Proof.Machine

-- One proof at a time: the whole text is one process, under a memory limit that counts every thread of Lean.
set_option Elab.async false

variable {xs rest : List Source} {x : Source} {r c k : Nat}

/-! ### The usable tubes in planner order (R91) -/

theorem insertSource_perm (x : Source) (xs : List Source) : (insertSource x xs).Perm (x :: xs) := by
  induction xs with
  | nil => exact .refl _
  | cons y rest ih =>
    simp only [insertSource]
    split
    · exact .refl _
    · exact (ih.cons y).trans (.swap x y rest)

/-- The planner order without ties (R91). -/
def Source.first (x y : Source) : Prop := y.denom < x.denom ∨ (x.denom = y.denom ∧ x.tube < y.tube)

theorem Source.before_iff (x y : Source) :
    x.before y = true ↔ y.denom < x.denom ∨ (x.denom = y.denom ∧ x.tube ≤ y.tube) := by
  simp [Source.before]

/-- A tube of a number below those listed goes to its place. -/
theorem insertSource_pairwise (x : Source) (below : ∀ y ∈ xs, x.tube < y.tube) (h : xs.Pairwise Source.first) :
    (insertSource x xs).Pairwise Source.first := by
  induction xs with
  | nil => exact List.pairwise_singleton _ _
  | cons y rest ih =>
    obtain ⟨head, tail⟩ := List.pairwise_cons.1 h
    have lower : x.tube < y.tube := below y List.mem_cons_self
    simp only [insertSource]
    split
    · next le =>
      have front : x.first y := ((Source.before_iff x y).1 le).imp id fun ⟨same, _⟩ => ⟨same, lower⟩
      refine List.pairwise_cons.2 ⟨fun z hz => ?_, h⟩
      rcases List.mem_cons.1 hz with rfl | hz
      · exact front
      · have between := head z hz
        unfold Source.first at *
        omega
    · next gt =>
      have back : y.first x := by
        rw [Source.before_iff] at gt
        unfold Source.first
        omega
      refine List.pairwise_cons.2 ⟨fun z hz => ?_, ih (fun z hz => below z (List.mem_cons_of_mem _ hz)) tail⟩
      rcases List.mem_cons.1 ((insertSource_perm x rest).mem_iff.1 hz) with rfl | hz
      · exact back
      · exact head z hz

/-- Tube `t` of number `x.tube` is usable, and `x` is what the planner sees of it (R91). -/
def Source.shows (x : Source) (excluded : List Nat) (t : Tube) (a : TubeAssign) : Prop :=
  t.assign = some a ∧ t.state = .ok ∧ 0 < t.count ∧ x.tube ∉ excluded ∧ x.denom = a.denom ∧ x.count = t.count

/-- The first tube of a list joins the sources of the rest, or is not usable. -/
theorem sourcesFrom_cons (excluded : List Nat) (i : Nat) (t : Tube) (ts : List Tube) :
    (∃ (x : Source) (a : TubeAssign), x.tube = i ∧ x.shows excluded t a ∧
      sourcesFrom excluded i (t :: ts) = insertSource x (sourcesFrom excluded (i + 1) ts)) ∨
    ((∀ (x : Source) (a : TubeAssign), x.tube = i → ¬ x.shows excluded t a) ∧
      sourcesFrom excluded i (t :: ts) = sourcesFrom excluded (i + 1) ts) := by
  simp only [sourcesFrom]
  split
  · next a assign =>
    split
    · next usable =>
      obtain ⟨ok, some, kept⟩ := usable
      exact .inl ⟨_, a, rfl, ⟨assign, ok, some, by simpa using kept, rfl, rfl⟩, rfl⟩
    · next unusable =>
      refine .inr ⟨fun x b place shows => unusable ?_, rfl⟩
      obtain ⟨-, ok, some, kept, -⟩ := shows
      exact ⟨ok, some, by simpa [place] using kept⟩
  · next none =>
    refine .inr ⟨fun x a _ shows => ?_, rfl⟩
    obtain ⟨assign, -⟩ := shows
    rw [none] at assign
    cases assign

theorem Source.shows_unique {y : Source} {excluded : List Nat} {t : Tube} {a b : TubeAssign}
    (hx : x.shows excluded t a) (hy : y.shows excluded t b) (tube : y.tube = x.tube) : y = x := by
  obtain ⟨assign, -, -, -, denom, count⟩ := hx
  obtain ⟨assign', -, -, -, denom', count'⟩ := hy
  have same : a = b := Option.some.inj (assign.symm.trans assign')
  cases x
  cases y
  simp_all

/-- The sources of a list are its usable tubes. -/
theorem mem_sourcesFrom (excluded : List Nat) (i : Nat) (ts : List Tube) (x : Source) :
    x ∈ sourcesFrom excluded i ts ↔
      ∃ j t a, x.tube = i + j ∧ ts[j]? = some t ∧ x.shows excluded t a := by
  induction ts generalizing i with
  | nil => simp [sourcesFrom]
  | cons t ts ih =>
    have later : (∃ j u a, x.tube = i + j ∧ (t :: ts)[j]? = some u ∧ x.shows excluded u a) ↔
        (x.tube = i ∧ ∃ a, x.shows excluded t a) ∨ x ∈ sourcesFrom excluded (i + 1) ts := by
      rw [ih]
      constructor
      · rintro ⟨j, u, a, place, at_, shows⟩
        cases j with
        | zero =>
          obtain rfl : t = u := Option.some.inj at_
          exact .inl ⟨place, a, shows⟩
        | succ j => exact .inr ⟨j, u, a, by omega, at_, shows⟩
      · rintro (⟨place, a, shows⟩ | ⟨j, u, a, place, at_, shows⟩)
        · exact ⟨0, t, a, place, rfl, shows⟩
        · exact ⟨j + 1, u, a, by omega, at_, shows⟩
    rw [later]
    rcases sourcesFrom_cons excluded i t ts with ⟨y, a, place, shows, e⟩ | ⟨unusable, e⟩
    · rw [e, (insertSource_perm y _).mem_iff, List.mem_cons]
      refine or_congr_left ⟨fun h => h ▸ ⟨place, a, shows⟩, fun ⟨here, b, shown⟩ => ?_⟩
      exact Source.shows_unique shows shown (here.trans place.symm)
    · rw [e]
      exact ⟨.inr, fun h => h.resolve_left fun ⟨here, b, shown⟩ => unusable x b here shown⟩

/-- The sources stand in planner order, no tube twice (R91). -/
theorem sourcesFrom_ordered (excluded : List Nat) (i : Nat) (ts : List Tube) :
    (sourcesFrom excluded i ts).Pairwise Source.first ∧ ((sourcesFrom excluded i ts).map Source.tube).Nodup := by
  induction ts generalizing i with
  | nil => exact ⟨.nil, List.nodup_nil⟩
  | cons t ts ih =>
    obtain ⟨order, nodup⟩ := ih (i + 1)
    rcases sourcesFrom_cons excluded i t ts with ⟨x, a, place, -, e⟩ | ⟨-, e⟩
    · have below : ∀ y ∈ sourcesFrom excluded (i + 1) ts, x.tube < y.tube := by
        intro y hy
        obtain ⟨j, -, -, here, -⟩ := (mem_sourcesFrom excluded (i + 1) ts y).1 hy
        omega
      rw [e]
      refine ⟨insertSource_pairwise x below order, ((insertSource_perm x _).map _).nodup_iff.2 ?_⟩
      refine List.nodup_cons.2 ⟨fun h => ?_, nodup⟩
      obtain ⟨y, hy, same⟩ := List.mem_map.1 h
      exact Nat.ne_of_gt (below y hy) same
    · rw [e]
      exact ⟨order, nodup⟩

theorem mem_sourcesOf (tubes : List Tube) (excluded : List Nat) (x : Source) :
    x ∈ sourcesOf tubes excluded ↔ ∃ t a, tubes[x.tube]? = some t ∧ x.shows excluded t a := by
  refine (mem_sourcesFrom excluded 0 tubes x).trans ⟨fun ⟨j, t, a, place, at_, shows⟩ => ⟨t, a, ?_, shows⟩,
    fun ⟨t, a, at_, shows⟩ => ⟨x.tube, t, a, (Nat.zero_add _).symm, at_, shows⟩⟩
  rw [place, Nat.zero_add]
  exact at_

/-! ### Coin vectors -/

/-- What a coin of each tube, as often as the vector says, pays. -/
def paidBy (xs : List Source) (ks : List Nat) : Nat := ((xs.zip ks).map fun q => q.2 * q.1.denom).sum

@[simp] theorem paidBy_cons (x : Source) (xs : List Source) (k : Nat) (ks : List Nat) :
    paidBy (x :: xs) (k :: ks) = k * x.denom + paidBy xs ks := by simp [paidBy]

/-- The vector `p.1` pays the amount `r` but for `p.2`, with no more than `c` coins and within the counts. -/
structure Gives (xs : List Source) (r c : Nat) (p : List Nat × Nat) : Prop where
  length : p.1.length = xs.length
  pays : paidBy xs p.1 + p.2 = r
  limit : p.1.sum ≤ c
  counts : ∀ q ∈ xs.zip p.1, q.2 ≤ q.1.count

/-- A tube may give what the greedy pass would take of it, or less. -/
theorem Gives.cons {p : List Nat × Nat} (le : k ≤ takeFrom x r c)
    (tail : Gives rest (r - k * x.denom) (c - k) p) : Gives (x :: rest) r c (k :: p.1, p.2) := by
  obtain ⟨length, pays, limit, counts⟩ := tail
  simp only [takeFrom, le_min_iff] at le
  obtain ⟨⟨fits, held⟩, allowed⟩ := le
  have within : k * x.denom ≤ r := (Nat.mul_le_mul_right _ fits).trans (Nat.div_mul_le_self _ _)
  refine ⟨by simp [length], ?_, ?_, ?_⟩
  · rw [paidBy_cons]; omega
  · rw [List.sum_cons]; omega
  · intro q hq
    rcases List.mem_cons.1 hq with rfl | hq
    · exact held
    · exact counts q hq

theorem greedy_gives (xs : List Source) (r c : Nat) : Gives xs r c (greedy xs r c) := by
  induction xs generalizing r c with
  | nil => exact ⟨rfl, by simp [greedy, paidBy], Nat.zero_le _, by simp⟩
  | cons x rest ih => exact .cons le_rfl (ih _ _)

/-! ### The back-off, candidate by candidate (R93) -/

/-- The candidate of the tube at place `j`: one coin less of it than in the first pass, the tubes after it giving anew;
none of a tube that gave no coin. -/
def candidateAt : List Source → Nat → Nat → Nat → Option (List Nat × Nat)
  | [], _, _, _ => none
  | x :: rest, r, c, 0 =>
    match takeFrom x r c with
    | 0 => none
    | k + 1 =>
      let tail := greedy rest (r - k * x.denom) (c - k)
      some (k :: tail.1, tail.2)
  | x :: rest, r, c, j + 1 =>
    let k := takeFrom x r c
    (candidateAt rest (r - k * x.denom) (c - k) j).map fun tail => (k :: tail.1, tail.2)

theorem candidateAt_zero (h : takeFrom x r c = k + 1) : candidateAt (x :: rest) r c 0 =
    some (k :: (greedy rest (r - k * x.denom) (c - k)).1, (greedy rest (r - k * x.denom) (c - k)).2) := by
  simp only [candidateAt, h]

theorem candidateAt_zero_none (h : takeFrom x r c = 0) : candidateAt (x :: rest) r c 0 = none := by
  simp only [candidateAt, h]

theorem candidateAt_gives {j : Nat} {p : List Nat × Nat} (h : candidateAt xs r c j = some p) : Gives xs r c p := by
  induction xs generalizing r c j p with
  | nil => cases h
  | cons x rest ih =>
    cases j with
    | zero =>
      cases gave : takeFrom x r c with
      | zero => rw [candidateAt_zero_none gave] at h; cases h
      | succ k =>
        rw [candidateAt_zero gave] at h
        cases h
        exact .cons (by omega) (greedy_gives rest _ _)
    | succ j =>
      obtain ⟨tail, later, rfl⟩ := Option.map_eq_some_iff.1 h
      exact .cons le_rfl (ih later)

/-- The back-off tries the head tube's candidate, and then those of the tubes after it. -/
theorem backOff_cons (x : Source) (rest : List Source) (r c : Nat) :
    (∃ ks, candidateAt (x :: rest) r c 0 = some (ks, 0) ∧ backOff (x :: rest) r c = some ks) ∨
    ((∀ ks, candidateAt (x :: rest) r c 0 ≠ some (ks, 0)) ∧ backOff (x :: rest) r c =
      (backOff rest (r - takeFrom x r c * x.denom) (c - takeFrom x r c)).map (takeFrom x r c :: ·)) := by
  cases gave : takeFrom x r c with
  | zero => exact .inr ⟨by simp [candidateAt_zero_none gave], by simp only [backOff, gave, if_true]⟩
  | succ k =>
    rw [candidateAt_zero gave]
    simp only [backOff, gave, Nat.add_one_sub_one, Nat.add_eq_zero_iff, one_ne_zero, and_false, if_false]
    split
    · next whole => exact .inl ⟨_, by rw [whole], rfl⟩
    · next short => exact .inr ⟨fun ks h => short (congrArg Prod.snd (Option.some.inj h)), rfl⟩

/-- The back-off gives the first candidate that leaves nothing (R93). -/
theorem backOff_some {ks : List Nat} (h : backOff xs r c = some ks) : ∃ j, candidateAt xs r c j = some (ks, 0) ∧
    ∀ i < j, ∀ ks', candidateAt xs r c i ≠ some (ks', 0) := by
  induction xs generalizing r c ks with
  | nil => cases h
  | cons x rest ih =>
    rcases backOff_cons x rest r c with ⟨ks', found, e⟩ | ⟨short, e⟩
    · obtain rfl : ks' = ks := Option.some.inj (e.symm.trans h)
      exact ⟨0, found, fun i lt => absurd lt (Nat.not_lt_zero i)⟩
    · obtain ⟨tail, later, rfl⟩ := Option.map_eq_some_iff.1 (e.symm.trans h)
      obtain ⟨j, found, first⟩ := ih later
      refine ⟨j + 1, by simp [candidateAt, found], fun i lt ks' hit => ?_⟩
      cases i with
      | zero => exact short ks' hit
      | succ i =>
        obtain ⟨p, here, e⟩ := Option.map_eq_some_iff.1 hit
        obtain ⟨-, none⟩ := Prod.mk.inj e
        exact first i (by omega) p.1 (by rw [here, ← none])

/-- Without a back-off no candidate leaves nothing (R93). -/
theorem backOff_none (h : backOff xs r c = none) (j : Nat) (ks : List Nat) : candidateAt xs r c j ≠ some (ks, 0) := by
  induction xs generalizing r c j ks with
  | nil => exact fun hit => by cases hit
  | cons x rest ih =>
    rcases backOff_cons x rest r c with ⟨ks', -, e⟩ | ⟨short, e⟩
    · rw [h] at e; cases e
    · have later := Option.map_eq_none_iff.1 (e.symm.trans h)
      cases j with
      | zero => exact short ks
      | succ j =>
        intro hit
        obtain ⟨p, here, e⟩ := Option.map_eq_some_iff.1 hit
        obtain ⟨-, none⟩ := Prod.mk.inj e
        exact ih later j p.1 (by rw [here, ← none])

/-- The first candidate that leaves nothing is the back-off's. -/
theorem backOff_of_first {j : Nat} {ks : List Nat} (hit : candidateAt xs r c j = some (ks, 0))
    (first : ∀ i < j, ∀ ks', candidateAt xs r c i ≠ some (ks', 0)) : backOff xs r c = some ks := by
  cases h : backOff xs r c with
  | none => exact absurd hit (backOff_none h j ks)
  | some ks' =>
    obtain ⟨i, found, earliest⟩ := backOff_some h
    obtain rfl : i = j := by
      rcases Nat.lt_trichotomy i j with lt | same | gt
      · exact absurd found (first i lt ks')
      · exact same
      · exact absurd hit (earliest j gt ks)
    rw [found] at hit
    cases hit
    rfl

theorem planCounts_gives (xs : List Source) (d m : Nat) : Gives xs d m (planCounts xs d m) := by
  simp only [planCounts]
  split
  · exact greedy_gives xs d m
  · split
    · next ks back =>
      obtain ⟨j, found, -⟩ := backOff_some back
      exact candidateAt_gives found
    · exact greedy_gives xs d m

/-! ### The passes place by place -/

/-- The tube at place `j` gives as many coins as fit the rest of the amount, its count and the rest of the limit
(R92). -/
def GreedyAt (xs : List Source) (r c : Nat) (ks : List Nat) (j : Nat) : Prop := ∀ x, xs[j]? = some x →
  ks[j]? = some (min (min ((r - paidBy (xs.take j) ks) / x.denom) x.count) (c - (ks.take j).sum))

theorem greedyAt_zero (ks : List Nat) : GreedyAt (x :: rest) r c (k :: ks) 0 ↔ k = takeFrom x r c := by
  simp [GreedyAt, takeFrom, paidBy]

theorem greedyAt_succ (ks : List Nat) (j : Nat) : GreedyAt (x :: rest) r c (k :: ks) (j + 1) ↔
    GreedyAt rest (r - k * x.denom) (c - k) ks j := by
  simp [GreedyAt, Nat.sub_sub]

/-- The vector of the greedy pass is the one that is greedy at every place (R92). -/
theorem greedy_iff (xs : List Source) (r c : Nat) (ks : List Nat) :
    ks = (greedy xs r c).1 ↔ ks.length = xs.length ∧ ∀ j, GreedyAt xs r c ks j := by
  induction xs generalizing r c ks with
  | nil => simp [greedy, GreedyAt]
  | cons x rest ih =>
    cases ks with
    | nil => simp [greedy]
    | cons k ks =>
      have places : (∀ j, GreedyAt (x :: rest) r c (k :: ks) j) ↔
          k = takeFrom x r c ∧ ∀ j, GreedyAt rest (r - k * x.denom) (c - k) ks j := by
        refine ⟨fun h => ⟨(greedyAt_zero ks).1 (h 0), fun j => (greedyAt_succ ks j).1 (h (j + 1))⟩,
          fun ⟨head, tail⟩ j => ?_⟩
        cases j with
        | zero => exact (greedyAt_zero ks).2 head
        | succ j => exact (greedyAt_succ ks j).2 (tail j)
      rw [places]
      simp only [greedy, List.cons.injEq, List.length_cons, Nat.add_right_cancel_iff]
      constructor
      · rintro ⟨rfl, same⟩
        obtain ⟨length, tail⟩ := (ih _ _ _).1 same
        exact ⟨length, rfl, tail⟩
      · rintro ⟨length, rfl, tail⟩
        exact ⟨rfl, (ih _ _ _).2 ⟨length, tail⟩⟩

/-- `ks` is the candidate at place `j` of the first pass `first`: as the first pass before the place, one coin less at
it, greedy after it (R93). -/
def Candidate (xs : List Source) (r c : Nat) (first : List Nat) (j : Nat) (ks : List Nat) : Prop :=
  ks.length = xs.length ∧ (∀ i, i < j → ks[i]? = first[i]?) ∧ (∃ k, first[j]? = some (k + 1) ∧ ks[j]? = some k) ∧
    ∀ i, j < i → GreedyAt xs r c ks i

theorem candidate_zero (first ks : List Nat) {f : Nat} : Candidate (x :: rest) r c (f :: first) 0 (k :: ks) ↔
    f = k + 1 ∧ ks = (greedy rest (r - k * x.denom) (c - k)).1 := by
  rw [greedy_iff]
  constructor
  · rintro ⟨length, -, ⟨n, gave, less⟩, after⟩
    obtain rfl : k = n := Option.some.inj less
    exact ⟨Option.some.inj gave, Nat.succ.inj length, fun j => (greedyAt_succ ks j).1 (after (j + 1) j.succ_pos)⟩
  · rintro ⟨rfl, length, tail⟩
    refine ⟨congrArg Nat.succ length, fun i lt => absurd lt (Nat.not_lt_zero i), ⟨k, rfl, rfl⟩, fun i pos => ?_⟩
    cases i with
    | zero => exact absurd pos (Nat.lt_irrefl 0)
    | succ i => exact (greedyAt_succ ks i).2 (tail i)

theorem candidate_succ (first ks : List Nat) {f j : Nat} : Candidate (x :: rest) r c (f :: first) (j + 1) (k :: ks) ↔
    k = f ∧ Candidate rest (r - k * x.denom) (c - k) first j ks := by
  constructor
  · rintro ⟨length, before, less, after⟩
    exact ⟨Option.some.inj (before 0 j.succ_pos), Nat.succ.inj length,
      fun i lt => before (i + 1) (Nat.succ_lt_succ lt), less,
      fun i gt => (greedyAt_succ ks i).1 (after (i + 1) (Nat.succ_lt_succ gt))⟩
  · rintro ⟨rfl, length, before, less, after⟩
    refine ⟨congrArg Nat.succ length, fun i lt => ?_, less, fun i gt => ?_⟩
    · cases i with
      | zero => rfl
      | succ i => exact before i (Nat.lt_of_succ_lt_succ lt)
    · cases i with
      | zero => exact absurd gt (Nat.not_lt_zero _)
      | succ i => exact (greedyAt_succ ks i).2 (after i (Nat.lt_of_succ_lt_succ gt))

/-- The candidates place by place are those the back-off tries. -/
theorem candidate_iff (xs : List Source) (r c j : Nat) (ks : List Nat) :
    Candidate xs r c (greedy xs r c).1 j ks ↔ ∃ left, candidateAt xs r c j = some (ks, left) := by
  induction xs generalizing r c j ks with
  | nil => simp [Candidate, greedy, candidateAt]
  | cons x rest ih =>
    cases ks with
    | nil =>
      refine ⟨fun h => absurd h.1 (by simp), fun ⟨left, h⟩ => ?_⟩
      exact absurd (candidateAt_gives h).length (by simp)
    | cons k ks =>
      change Candidate (x :: rest) r c (takeFrom x r c :: (greedy rest _ _).1) j (k :: ks) ↔ _
      cases j with
      | zero =>
        rw [candidate_zero]
        cases gave : takeFrom x r c with
        | zero => simp [candidateAt_zero_none gave]
        | succ n =>
          simp only [candidateAt_zero gave, Option.some.injEq, Prod.mk.injEq, List.cons.injEq, exists_and_left,
            exists_eq', and_true, Nat.add_right_cancel_iff]
          constructor <;> rintro ⟨rfl, same⟩ <;> exact ⟨rfl, same.symm⟩
      | succ j =>
        rw [candidate_succ]
        constructor
        · rintro ⟨rfl, later⟩
          obtain ⟨left, h⟩ := (ih _ _ _ _).1 later
          exact ⟨left, by simp [candidateAt, h]⟩
        · rintro ⟨left, h⟩
          obtain ⟨tail, later, e⟩ := Option.map_eq_some_iff.1 h
          obtain ⟨same, -⟩ := Prod.mk.inj e
          obtain ⟨rfl, rfl⟩ := List.cons.inj same
          exact ⟨rfl, (ih _ _ _ _).2 ⟨tail.2, later⟩⟩

/-! ### The entries of a plan -/

theorem planEntries_eq (xs : List Source) (ks : List Nat) : planEntries xs ks = (xs.zip ks).filterMap fun q =>
    if q.2 = 0 then none else some ⟨q.1.tube, q.1.denom, q.2⟩ := by
  induction xs generalizing ks with
  | nil => simp [planEntries]
  | cons x rest ih =>
    cases ks with
    | nil => simp [planEntries]
    | cons k ks => by_cases none : k = 0 <;> simp [planEntries, none, ih]

theorem mem_planEntries {e : PlanEntry} {ks : List Nat} (h : e ∈ planEntries xs ks) :
    ∃ x k, (x, k) ∈ xs.zip ks ∧ 0 < k ∧ e = ⟨x.tube, x.denom, k⟩ := by
  rw [planEntries_eq] at h
  obtain ⟨⟨x, k⟩, listed, entry⟩ := List.mem_filterMap.1 h
  by_cases none : k = 0
  · simp [none] at entry
  · rw [if_neg none] at entry
    exact ⟨x, k, listed, Nat.pos_of_ne_zero none, (Option.some.inj entry).symm⟩

theorem planValue_planEntries (xs : List Source) (ks : List Nat) : planValue (planEntries xs ks) = paidBy xs ks := by
  induction xs generalizing ks with
  | nil => simp [planEntries, planValue, paidBy]
  | cons x rest ih =>
    cases ks with
    | nil => simp [planEntries, planValue, paidBy]
    | cons k ks => by_cases none : k = 0 <;> simp [planEntries, planValue, none, ih]

theorem planEntries_coins (xs : List Source) (ks : List Nat) :
    ((planEntries xs ks).map PlanEntry.remaining).sum ≤ ks.sum := by
  induction xs generalizing ks with
  | nil => simp [planEntries]
  | cons x rest ih =>
    cases ks with
    | nil => simp [planEntries]
    | cons k ks =>
      have tail := ih ks
      by_cases none : k = 0 <;> simp [planEntries, none] <;> omega

/-- The tubes of a plan stand as the sources do. -/
theorem planEntries_tubes (xs : List Source) (ks : List Nat) :
    ((planEntries xs ks).map PlanEntry.tube).Sublist (xs.map Source.tube) := by
  induction xs generalizing ks with
  | nil => simp [planEntries]
  | cons x rest ih =>
    cases ks with
    | nil => simp [planEntries]
    | cons k ks =>
      by_cases none : k = 0
      · simpa [planEntries, none] using (ih ks).cons x.tube
      · simpa [planEntries, none] using ih ks

/-- A plan of the planner is sound: it pays the amount but for the shortfall, within tubes, counts and limit (R91). -/
theorem planFor_sound (tubes : List Tube) (excluded : List Nat) (d m : Nat) :
    let plan := planFor tubes excluded d m
    planValue plan.1 + plan.2 = d ∧ (plan.1.map PlanEntry.remaining).sum ≤ m ∧
      (plan.1.map PlanEntry.tube).Nodup ∧
      ∀ e ∈ plan.1, 0 < e.remaining ∧ e.tube ∉ excluded ∧
        ∃ t a, tubes[e.tube]? = some t ∧ t.assign = some a ∧ t.state = .ok ∧ a.denom = e.denom ∧
          e.remaining ≤ t.count := by
  obtain ⟨-, pays, limit, counts⟩ := planCounts_gives (sourcesOf tubes excluded) d m
  refine ⟨(congrArg (· + _) (planValue_planEntries _ _)).trans pays, (planEntries_coins _ _).trans limit,
    (planEntries_tubes _ _).nodup (sourcesFrom_ordered excluded 0 tubes).2, fun e he => ?_⟩
  obtain ⟨x, k, listed, some, rfl⟩ := mem_planEntries he
  obtain ⟨t, a, place, assign, ok, -, kept, denom, count⟩ :=
    (mem_sourcesOf tubes excluded x).1 (List.of_mem_zip listed).1
  exact ⟨some, kept, t, a, place, assign, ok, denom.symm, (counts _ listed).trans count.le⟩

/-! ### Which plan it is (R92, R93) -/

theorem planFor_of_greedy (tubes : List Tube) (excluded : List Nat) (d m : Nat)
    (whole : (greedy (sourcesOf tubes excluded) d m).2 = 0) : planFor tubes excluded d m =
      (planEntries (sourcesOf tubes excluded) (greedy (sourcesOf tubes excluded) d m).1, 0) := by
  simp only [planFor, planCounts, whole, if_true]

theorem planFor_of_backOff {tubes : List Tube} {excluded : List Nat} {d m : Nat} {ks : List Nat}
    (short : (greedy (sourcesOf tubes excluded) d m).2 ≠ 0)
    (back : backOff (sourcesOf tubes excluded) d m = some ks) :
    planFor tubes excluded d m = (planEntries (sourcesOf tubes excluded) ks, 0) := by
  simp only [planFor, planCounts, short, back, if_false]

theorem planFor_of_short {tubes : List Tube} {excluded : List Nat} {d m : Nat}
    (short : (greedy (sourcesOf tubes excluded) d m).2 ≠ 0)
    (none : backOff (sourcesOf tubes excluded) d m = none) : planFor tubes excluded d m =
      (planEntries (sourcesOf tubes excluded) (greedy (sourcesOf tubes excluded) d m).1,
        (greedy (sourcesOf tubes excluded) d m).2) := by
  simp only [planFor, planCounts, short, none, if_false]

/-- Settles O33: a plan is sound whichever vector it is (`planFor_sound`); the vector is the one greedy at every place
(`greedy_iff`), or the first candidate that leaves nothing (`candidate_iff`, `backOff_of_first`). -/
theorem plansAreSound : Obligations.PlansAreSound := by
  intro tubes excluded d m _ plan
  refine ⟨planFor_sound tubes excluded d m, ?_⟩
  intro xs paid greedyAt entries
  have all (ks : List Nat) (length : ks.length = xs.length) : paid ks xs.length = paidBy xs ks :=
    congrArg (fun l => paidBy l ks) List.take_length
  have listed (ks : List Nat) : planEntries xs ks = entries ks := planEntries_eq xs ks
  have pass := greedy_gives xs d m
  obtain ⟨length, places⟩ := (greedy_iff xs d m _).1 rfl
  refine ⟨(sourcesFrom_ordered excluded 0 tubes).1, mem_sourcesOf tubes excluded, (greedy xs d m).1, length, places,
    fun whole => ?_, fun short => ?_⟩
  · rw [all _ length] at whole
    have left : (greedy xs d m).2 = 0 := by have := pass.pays; omega
    exact (planFor_of_greedy tubes excluded d m left).trans (by rw [listed])
  · intro candidate
    rw [all _ length] at short
    have left : (greedy xs d m).2 ≠ 0 := fun none => short (by have := pass.pays; omega)
    have tries (j : Nat) (ks : List Nat) : candidate j ks ↔ ∃ left, candidateAt xs d m j = some (ks, left) :=
      candidate_iff xs d m j ks
    have pays (j : Nat) (ks : List Nat) (hit : candidateAt xs d m j = some (ks, 0)) : paid ks xs.length = d := by
      have given := candidateAt_gives hit
      rw [all ks given.length]
      exact given.pays
    refine ⟨fun j ks is whole first => ?_, fun never => ?_⟩
    · obtain ⟨n, hit⟩ := (tries j ks).1 is
      have given := candidateAt_gives hit
      rw [all ks given.length] at whole
      obtain rfl : n = 0 := by have := given.pays; simp only at this; omega
      have back := backOff_of_first hit fun i lt ks' h => first i ks' lt ((tries i ks').2 ⟨0, h⟩) (pays i ks' h)
      exact (planFor_of_backOff left back).trans (by rw [listed])
    · cases back : backOff xs d m with
      | some ks =>
        obtain ⟨j, hit, -⟩ := backOff_some back
        exact absurd (pays j ks hit) (never j ks ((tries j ks).2 ⟨0, hit⟩))
      | none =>
        have rest : (greedy xs d m).2 = d - paid (greedy xs d m).1 xs.length := by
          rw [all _ length]; have := pass.pays; omega
        exact (planFor_of_short left back).trans (by rw [listed, ← rest])

end Sys2Proof.Machine
end

section
/-! SUPPORT. PAYOUT.TEST and PROBE.SET: the refusals, the SERVICE payout that starts or ends at once, and the probes
written (R95, R96, R99). -/

namespace Sys2Proof.Machine

-- One proof at a time: the whole text is one process, under a memory limit that counts every thread of Lean.
set_option Elab.async false

variable {s : State} {i n : Byte} {x : Tube} {a : TubeAssign}

/-! ### The SERVICE payout (R99) -/

/-- A load that has asked for a weight waits for it or holds a grant (R136). -/
theorem State.request_load_ne_none (s : State) {l : Load} (w : Nat) (hd : l ≠ .defrost) (hc : l ≠ .compressor) :
    (s.request l w).load l ≠ .none := by
  have asked (t : Nat) (p : Bool) : (s.setLoad l (.waiting w t p)).grantPass.load l ≠ .none := by
    rcases (s.setLoad l (.waiting w t p)).grantPass_load hd hc with h | ⟨w', -, -, -, -, h⟩
    · rw [h, State.load_setLoad_self]
      exact LoadRec.noConfusion
    · rw [h]
      exact LoadRec.noConfusion
  cases h : s.load l with
  | none => simpa only [State.request, h] using asked 0 false
  | waiting v t p => simpa only [State.request, h] using asked t p
  | granted v =>
    simp only [State.request, h]
    exact LoadRec.noConfusion

/-- The executor's record at the start of a SERVICE payout of `n` coins of `d`, `k` of which it can pay (R99). -/
def State.serviceRecord (s : State) (i d n k : Nat) : Payout :=
  { s.chu.payout with
    state := .awaitPower, kind := .service, amount := n * d, plan := if k = 0 then [] else [⟨i, d, k⟩],
    limit := s.settings.coinLimit, confirmed := 0, paid := 0, overpaid := 0, excluded := [], pulseNumber := 1,
    window := none, counted := false, pulse := none, endMark := false }

/-- With a coin to pay a SERVICE payout asks for its load. -/
theorem State.startService_of_coins {i d n count k : Nat} (coins : min (min n count) s.settings.coinLimit = k)
    (some : k ≠ 0) : s.startService i d n count =
      (s.setPayout (s.serviceRecord i d n k)).request .payout s.settings.payoutWeight := by
  subst coins
  exact if_neg some

/-- With none it ends at once. -/
theorem State.startService_of_nothing {i d n count : Nat} (none : min (min n count) s.settings.coinLimit = 0) :
    s.startService i d n count = (s.setPayout (s.serviceRecord i d n 0)).endPayout false := by
  have ends : s.startService i d n count =
      (s.setPayout (s.serviceRecord i d n (min (min n count) s.settings.coinLimit))).endPayout false := if_pos none
  rw [ends, none]

/-- The start of a SERVICE payout leaves the tubes and the totals. -/
theorem State.startService_money (s : State) (i d n count : Nat) :
    (s.startService i d n count).chu.tubes = s.chu.tubes ∧
    (s.startService i d n count).chu.totals = s.chu.totals := by
  by_cases none : min (min n count) s.settings.coinLimit = 0
  · rw [State.startService_of_nothing none]; simp
  · rw [State.startService_of_coins rfl none]; simp

/-! ### PAYOUT.TEST (R99) -/

theorem State.payoutTest_beyond
    (h : (s.tube i.toNat).bind Tube.assign = none ∨ n.toNat = 0 ∨ 99 < n.toNat) :
    s.payoutTest i n = s.reply .range [] := by
  by_cases unassigned : (s.tube i.toNat).bind Tube.assign = none
  · exact State.withTube_of_unassigned unassigned _
  · obtain ⟨x, a, tube, assign⟩ := State.assigned_tube unassigned
    have beyond : inRange 1 99 n.toNat = false := by
      have outside := h.resolve_left unassigned
      rw [Bool.eq_false_iff, ne_eq, inRange_iff]
      omega
    rw [State.payoutTest, State.withTube_of_assign tube assign, if_pos beyond]

theorem coins_inRange (least : 1 ≤ n.toNat) (most : n.toNat ≤ 99) : ¬ inRange 1 99 n.toNat = false := by
  rw [Bool.not_eq_false, inRange_iff]
  omega

theorem State.payoutTest_doorClosed (tube : s.tube i.toNat = some x) (assign : x.assign = some a)
    (least : 1 ≤ n.toNat) (most : n.toNat ≤ 99) (closed : s.hli.doorOpen = false) :
    s.payoutTest i n = s.reply .doorClosed [] := by
  rw [State.payoutTest, State.withTube_of_assign tube assign, if_neg (coins_inRange least most), if_pos closed]

theorem State.payoutTest_busy (tube : s.tube i.toNat = some x) (assign : x.assign = some a)
    (least : 1 ≤ n.toNat) (most : n.toNat ≤ 99) (isOpen : s.hli.doorOpen = true)
    (runs : s.chu.payout.state ≠ .idle) : s.payoutTest i n = s.reply .busy [] := by
  rw [State.payoutTest, State.withTube_of_assign tube assign, if_neg (coins_inRange least most),
    if_neg (by simp [isOpen]), if_pos (State.payoutRunning_iff.2 runs)]

theorem State.payoutTest_starts (tube : s.tube i.toNat = some x) (assign : x.assign = some a)
    (least : 1 ≤ n.toNat) (most : n.toNat ≤ 99) (isOpen : s.hli.doorOpen = true)
    (idle : s.chu.payout.state = .idle) :
    s.payoutTest i n = ⟨s.startService i.toNat a.denom n.toNat x.count, .accepted, []⟩ := by
  rw [State.payoutTest, State.withTube_of_assign tube assign, if_neg (coins_inRange least most),
    if_neg (by simp [isOpen]), if_neg (by simp [State.payoutRunning_of_idle idle])]

/-! ### PROBE.SET (R95) -/

/-- The probes as a request writes them (R95). -/
def clampedProbes (p1 p2 p3 p4 : Half) : Probes :=
  ⟨min p1.toNat 60000, min p2.toNat 60000, min p3.toNat 60000, min p4.toNat 60000⟩

/-- The state with its probes written and the exact-change flag evaluated (R95, R96). -/
def State.probed (s : State) (p : Probes) : State := ({ s with chu := { s.chu with probes := p } }).evalExact

theorem State.setProbes_writes (s : State) (p1 p2 p3 p4 : Half) : s.setProbes p1 p2 p3 p4 =
    ⟨s.probed (clampedProbes p1 p2 p3 p4),
      if p1.toNat ≤ 60000 ∧ p2.toNat ≤ 60000 ∧ p3.toNat ≤ 60000 ∧ p4.toNat ≤ 60000 then .ok else .clamped,
      (clampedProbes p1 p2 p3 p4).fields ++
        [.flag (s.probed (clampedProbes p1 p2 p3 p4)).chu.exactChange]⟩ := by
  have fits : ([p1, p2, p3, p4].all fun x => decide (x.toNat ≤ 60000)) = true ↔
      p1.toNat ≤ 60000 ∧ p2.toNat ≤ 60000 ∧ p3.toNat ≤ 60000 ∧ p4.toNat ≤ 60000 := by simp
  simp only [State.setProbes, fits]
  rfl

/-- PROBE.SET writes the probes, the flag and the notices. -/
theorem State.probed_frame (s : State) (p : Probes) : (s.probed p).chu.probes = p ∧
    (s.probed p).sesc = s.sesc ∧ ∃ f ns, s.probed p = { s with
      chu := { s.chu with probes := p, exactChange := f }, hli := { s.hli with notices := ns } } := by
  obtain ⟨f, ns, h⟩ := ({ s with chu := { s.chu with probes := p } } : State).evalExact_frame
  rw [State.probed, h]
  exact ⟨rfl, rfl, f, ns, rfl⟩

/-! ### The requests -/

/-- Settles O34: PAYOUT.TEST refuses in the order of its checks, or starts a SERVICE payout, which asks for its load
(`startService_of_coins`) or ends (`startService_of_nothing`); PROBE.SET writes `clampedProbes`. -/
theorem serviceAndProbes : Obligations.ServiceAndProbes := by
  refine ⟨fun s i n ready => ⟨fun beyond => State.host_replies ready (State.payoutTest_beyond beyond), ?_⟩,
    fun s ready idle => ⟨?_, fun p1 p2 p3 p4 => ?_⟩⟩
  · intro assigned least most
    obtain ⟨x, a, tube, assign⟩ := State.assigned_tube assigned
    exact ⟨fun closed => State.host_replies ready (State.payoutTest_doorClosed tube assign least most closed),
      fun isOpen runs => State.host_replies ready (State.payoutTest_busy tube assign least most isOpen runs)⟩
  · intro i n x a tube assign least most isOpen k
    obtain ⟨-, sesc⟩ := s.startService_unchanged i.toNat a.denom n.toNat x.count
    obtain ⟨tubes, totals⟩ := s.startService_money i.toNat a.denom n.toNat x.count
    refine ⟨_, State.host_answers ready (State.payoutTest_starts tube assign least most isOpen idle)
      (congrArg Session.view sesc), rfl, sesc, tubes, totals, fun some => ?_, fun none => ?_⟩
    · have coins : k ≠ 0 := Nat.ne_of_gt some
      rw [State.startService_of_coins (k := k) rfl coins]
      refine ⟨?_, State.request_load_ne_none _ _ (by decide) (by decide)⟩
      simp [State.serviceRecord, coins]
    · rw [State.startService_of_nothing none]
      exact ⟨by simp [Payout.ended], State.endPayout_notes _ false⟩
  · have writes := s.setProbes_writes p1 p2 p3 p4
    obtain ⟨probes, sesc, f, ns, frame⟩ := s.probed_frame (clampedProbes p1 p2 p3 p4)
    refine ⟨_, State.host_answers ready writes (congrArg Session.view sesc), probes, ?_, ?_, ?_⟩
    · have flag : (s.probed (clampedProbes p1 p2 p3 p4)).chu.exactChange = _ := State.evalExact_flag idle
      rw [State.answer_chu, probes]
      exact flag
    · rw [State.answer_chu, probes]
      rfl
    · rw [frame]
      rfl

end Sys2Proof.Machine
end

section
/-! SUPPORT. The payout executor from pulse to pulse: the grant taken, the exit window's end, the jam with its replan,
the end of a payout, and the handover of a SERVICE payout's grant (R100 to R107). -/

namespace Sys2Proof.Machine

-- One proof at a time: the whole text is one process, under a memory limit that counts every thread of Lean.
set_option Elab.async false

variable {s t : State} {e : PlanEntry} {rest : List PlanEntry} {p : Payout} {w : ExitWindow}

/-! ### Pulses (R100, R101) -/

/-- The executor's record with a pulse of the entry's tube and its exit window open (R101). -/
def Payout.pulsed (p : Payout) (e : PlanEntry) : Payout :=
  { p with window := some ⟨e.tube, 400⟩, counted := false, pulse := some 40, lastPulsed := some e.tube }

theorem State.setPayout_pulse (plan : p.plan = e :: rest) : (s.setPayout p).pulse = s.setPayout (p.pulsed e) := by
  have held : (s.setPayout p).chu.payout.plan = e :: rest := plan
  unfold State.pulse
  split
  · next f _ h =>
    cases held.symm.trans h
    rfl
  · next h => cases held.symm.trans h

theorem State.startEjecting_of_head (plan : s.chu.payout.plan = e :: rest) : s.startEjecting =
    s.setPayout (({ s.chu.payout with state := .ejecting, pulseNumber := 1 } : Payout).pulsed e) :=
  State.setPayout_pulse plan

/-- The grant of PAYOUT taken in its turn starts the pulses (R100). -/
theorem State.takePayout_ejects (granted : (s.load .payout).isGranted = true) (turn : s.inTurn .payout = true)
    (waits : s.chu.payout.state = .awaitPower) : s.takePayout = (s.tookGrant .payout).startEjecting := by
  have still : (s.tookGrant .payout).chu.payout.state = .awaitPower := waits
  simp only [State.takePayout, State.takeGrant, granted, turn, Bool.and_self, if_true, still]

/-! ### The exit window's end (R101, R107) -/

theorem exec_exitWindowExpiry (on : s.power ≠ .off) (window : s.chu.payout.window = some w) :
    exec .exitWindowExpiry s = .next (((s.elapse w.left).windowEnds w.tube).closeEvent s.sesc) :=
  exec_of_event rfl on (by simp only [window])

/-- A window end that leaves the session as time has left it is no change of the session (R28). -/
theorem exec_exitWindowExpiry_quiet (on : s.power ≠ .off) (window : s.chu.payout.window = some w)
    (acts : (s.elapse w.left).windowEnds w.tube = t) (sesc : t.sesc = (s.elapse w.left).sesc) :
    exec .exitWindowExpiry s = .next t :=
  exec_of_quiet_event rfl on (by simp only [window, acts]) (by rw [sesc]; rfl)

/-- A coin not counted is tried again, up to its third pulse (R101). -/
theorem State.windowEnds_again (uncounted : s.chu.payout.counted = false) (tries : s.chu.payout.pulseNumber < 3)
    (unmarked : s.chu.payout.endMark = false) (plan : s.chu.payout.plan = e :: rest) (i : Nat) : s.windowEnds i =
      s.setPayout (({ s.chu.payout with pulseNumber := s.chu.payout.pulseNumber + 1 } : Payout).pulsed e) := by
  simp only [State.windowEnds, uncounted, unmarked, tries, if_true, Bool.false_eq_true, if_false]
  exact State.setPayout_pulse plan

/-- A coin counted is followed by the next coin of the plan (R101). -/
theorem State.windowEnds_goesOn (counted : s.chu.payout.counted = true) (unmarked : s.chu.payout.endMark = false)
    (plan : dropPaid s.chu.payout.plan = e :: rest) (i : Nat) : s.windowEnds i =
      s.setPayout (({ s.chu.payout with plan := e :: rest, pulseNumber := 1 } : Payout).pulsed e) := by
  simp only [State.windowEnds, counted, if_true, plan, State.setPayout_chu, unmarked, Bool.false_eq_true,
    reduceCtorEq, or_self, if_false]
  exact State.setPayout_pulse rfl

/-- With the last coin counted the payout ends (R105). -/
theorem State.windowEnds_paid (counted : s.chu.payout.counted = true) (plan : dropPaid s.chu.payout.plan = [])
    (i : Nat) : s.windowEnds i =
      (s.setPayout { s.chu.payout with plan := [], pulseNumber := 1 }).finishPayout := by
  simp only [State.windowEnds, counted, if_true, plan, State.setPayout_chu, or_true]

/-- A marked payout ends at its window's end, unless the window was the third without a count (R107). -/
theorem State.windowEnds_marked (ends : s.chu.payout.counted = true ∨ s.chu.payout.pulseNumber < 3)
    (marked : s.chu.payout.endMark = true) (i : Nat) :
    ∃ l n, s.windowEnds i = (s.setPayout { s.chu.payout with plan := l, pulseNumber := n }).finishPayout := by
  cases counted : s.chu.payout.counted with
  | true =>
    refine ⟨dropPaid s.chu.payout.plan, 1, ?_⟩
    simp only [State.windowEnds, counted, if_true, State.setPayout_chu, marked, true_or]
  | false =>
    have tries : s.chu.payout.pulseNumber < 3 := ends.resolve_left (by simp [counted])
    exact ⟨s.chu.payout.plan, s.chu.payout.pulseNumber,
      (if_neg (by simp [counted])).trans ((if_pos tries).trans (if_pos marked))⟩

/-- The third window without a count jams the tube (R103). -/
theorem State.windowEnds_jams (uncounted : s.chu.payout.counted = false) (third : s.chu.payout.pulseNumber = 3)
    (i : Nat) : s.windowEnds i = s.jamTube i := by
  simp only [State.windowEnds, uncounted, third, Nat.lt_irrefl, Bool.false_eq_true, if_false]

/-! ### The end of a payout (R105) -/

/-- In `t` the payout of record `p` has ended: IDLE with window and actuator off, its load without request or grant, the
exact-change flag evaluated, and PAYOUT updated (R105). -/
def Payout.OverIn (p : Payout) (t : State) : Prop :=
  t.chu.payout.state = .idle ∧ t.chu.payout.window = none ∧ t.chu.payout.pulse = none ∧
  t.chu.payout.lastPulsed = p.lastPulsed ∧ t.load .payout = .none ∧
  t.chu.exactChange = exactFlag t.chu.tubes t.chu.probes t.settings.coinLimit ∧
  t.notes (.payout p.paid (p.amount - p.paid) p.overpaid)

/-- A step that writes neither the executor, the tubes and the flag nor the PAYOUT notice. -/
theorem Payout.OverIn.of_same (h : p.OverIn s) (payout : t.chu.payout = s.chu.payout) (lba : t.lba = s.lba)
    (flag : t.chu.exactChange = s.chu.exactChange) (tubes : t.chu.tubes = s.chu.tubes)
    (probes : t.chu.probes = s.chu.probes) (settings : t.settings = s.settings)
    (notes : s.notes (.payout p.paid (p.amount - p.paid) p.overpaid) →
      t.notes (.payout p.paid (p.amount - p.paid) p.overpaid)) : p.OverIn t := by
  have load : t.load .payout = s.load .payout := congrArg (fun l : Lba => l.loads.get .payout) lba
  obtain ⟨state, window, pulse, last, given, flag', noted⟩ := h
  unfold Payout.OverIn
  rw [payout, load, flag, tubes, probes, settings]
  exact ⟨state, window, pulse, last, given, flag', notes noted⟩

theorem State.endPayout_flag (s : State) (keep : Bool) : (s.endPayout keep).chu.exactChange =
    exactFlag (s.endPayout keep).chu.tubes (s.endPayout keep).chu.probes (s.endPayout keep).settings.coinLimit := by
  obtain ⟨b, idle, e⟩ : ∃ b : State, b.chu.payout.state = .idle ∧ s.endPayout keep = b.evalExact := by
    refine ⟨_, ?_, rfl⟩
    cases keep <;> simp
  obtain ⟨f, ns, frame⟩ := b.evalExact_frame
  rw [e, State.evalExact_flag idle, frame]

theorem State.endPayout_over (s : State) : s.chu.payout.OverIn (s.endPayout false) := by
  obtain ⟨-, -, -, -, payout, -⟩ := s.endPayout_unchanged false
  unfold Payout.OverIn
  rw [payout]
  exact ⟨rfl, rfl, rfl, rfl, s.endPayout_load, s.endPayout_flag false, s.endPayout_notes false⟩

theorem Payout.OverIn.creditOrIdle (h : p.OverIn s) : p.OverIn s.creditOrIdle := by
  obtain ⟨settings, -, chu, lba, -, -, hli, -⟩ := s.creditOrIdle_unchanged
  exact h.of_same (by rw [chu]) lba (by rw [chu]) (by rw [chu]) (by rw [chu]) settings
    fun noted => State.notes_congr noted (by rw [hli])

theorem State.endChange_over (s : State) : s.chu.payout.OverIn s.endChange := s.endPayout_over.creditOrIdle

theorem Payout.OverIn.closeEvent (h : p.OverIn s) (before : Session) : p.OverIn (s.closeEvent before) := by
  obtain ⟨_, _, _, _, frame⟩ := s.closeEvent_frame before
  refine h.of_same ?_ ?_ ?_ ?_ ?_ ?_ fun noted => noted.closeEvent before (by simp [Notice.kindNo])
  all_goals rw [frame]

/-- From `s` to `t` a session has left PAYING for CASH_CREDIT, or for IDLE without credit (R105). -/
def State.Moved (s t : State) : Prop :=
  t.sesc.phase = (if s.sesc.credit = 0 then .idle else .cashCredit) ∧ t.sesc.credit = s.sesc.credit

theorem State.endChange_moved (s : State) : s.Moved s.endChange := by
  obtain ⟨-, sesc, -⟩ := s.endPayout_unchanged false
  have phase (b : State) : b.creditOrIdle.sesc.phase = if b.sesc.credit = 0 then .idle else .cashCredit := by
    unfold State.creditOrIdle
    split <;> rfl
  exact ⟨(phase _).trans (by rw [sesc]), by simp [State.endChange]⟩

/-- A session that has left PAYING has left it from any state with that credit. -/
theorem State.Moved.congr {b u : State} (h : b.Moved t) (sesc : u.sesc = t.sesc)
    (credit : b.sesc.credit = s.sesc.credit := by rfl) : s.Moved u := by
  unfold State.Moved at *
  rw [sesc, ← credit]
  exact h

/-- The end of a change payout writes no tube and no total. -/
theorem State.endChange_money (s : State) : s.endChange.chu.tubes = s.chu.tubes ∧
    s.endChange.chu.totals = s.chu.totals := by simp [State.endChange]

theorem State.finishPayout_of_change (change : s.chu.payout.kind = .change) : s.finishPayout = s.endChange := by
  simp only [State.finishPayout, change]

theorem State.finishPayout_of_service (serves : s.chu.payout.Serves) : s.finishPayout = s.endPayout false := by
  simp only [State.finishPayout, serves.kind, serves.mark, Bool.false_eq_true, if_false]

/-- An unmarked payout ends with its load given back; a change payout moves the session (R105). -/
theorem State.finishPayout_ends (unmarked : s.chu.payout.endMark = false) :
    s.chu.payout.OverIn s.finishPayout ∧ s.finishPayout.chu.tubes = s.chu.tubes ∧
    s.finishPayout.chu.totals = s.chu.totals ∧ (s.chu.payout.kind = .change → s.Moved s.finishPayout) ∧
    (s.chu.payout.kind = .service → s.finishPayout.sesc = s.sesc) := by
  cases kind : s.chu.payout.kind with
  | change =>
    rw [State.finishPayout_of_change kind]
    exact ⟨s.endChange_over, s.endChange_money.1, s.endChange_money.2, fun _ => s.endChange_moved,
      fun h => (by cases h)⟩
  | service =>
    obtain ⟨-, sesc, -, tubes, -, totals, -⟩ := s.endPayout_unchanged false
    rw [State.finishPayout_of_service ⟨kind, unmarked⟩]
    exact ⟨s.endPayout_over, tubes, totals, fun h => (by cases h), fun _ => sesc⟩

/-! ### The jam and the replan (R103, R104) -/

/-- The tubes with one marked JAMMED (R103). -/
def jammedTubes (i : Nat) (tubes : List Tube) : List Tube := modifyAt (fun x => { x with state := .jammed }) i tubes

/-- The executor's record with a tube excluded (R103). -/
def Payout.excluding (p : Payout) (i : Nat) : Payout :=
  { p with excluded := if p.excluded.contains i then p.excluded else p.excluded ++ [i] }

/-- What a jam writes (R103). -/
theorem State.markJammed_frame (s : State) (i : Nat) : ∃ m c ns, s.markJammed i = { s with
    chu := { s.chu with
      tubes := jammedTubes i s.chu.tubes, payout := s.chu.payout.excluding i, lastMap := m }
    cbm := c
    hli := { s.hli with notices := ns } } := by
  have noted (b : State) : ∃ ns, b.raiseTube i .jammed none = { b with hli := { b.hli with notices := ns } } := by
    unfold State.raiseTube
    split <;> exact ⟨_, rfl⟩
  obtain ⟨ns, raised⟩ := noted ((s.setTubes (jammedTubes i s.chu.tubes)).setPayout (s.chu.payout.excluding i))
  obtain ⟨m, c, routed⟩ := (((s.setTubes (jammedTubes i s.chu.tubes)).setPayout
    (s.chu.payout.excluding i)).raiseTube i .jammed none).updateRoute_frame
  rw [raised] at routed
  exact ⟨m, c, ns, (congrArg State.updateRoute raised).trans routed⟩

/-- The plan of a replan (R104). -/
def State.newPlan (s : State) : List PlanEntry :=
  (planFor s.chu.tubes s.chu.payout.excluded (planValue s.chu.payout.plan)
    (s.chu.payout.limit - s.chu.payout.confirmed)).1

theorem State.replan_of_nothing (none : s.newPlan = []) :
    s.replan = (s.setPayout { s.chu.payout with plan := [], pulseNumber := 1 }).endChange :=
  (if_pos none).trans (congrArg (fun l =>
    (s.setPayout { s.chu.payout with plan := l, pulseNumber := 1 }).endChange) none)

theorem State.replan_of_coins (some : s.newPlan = e :: rest) : s.replan =
    s.setPayout (({ s.chu.payout with plan := s.newPlan, pulseNumber := 1 } : Payout).pulsed e) :=
  (if_neg (by rw [show (planFor _ _ _ _).1 = e :: rest from some]; exact List.cons_ne_nil _ _)).trans
    (State.setPayout_pulse some)

/-- A jam of a CHANGE payout: the plan is made anew, and the payout goes on or ends (R104, R105). -/
theorem State.jamTube_replans (change : s.chu.payout.kind = .change) (i : Nat) :
    let plan := (planFor (jammedTubes i s.chu.tubes) (s.chu.payout.excluding i).excluded
      (planValue s.chu.payout.plan) (s.chu.payout.limit - s.chu.payout.confirmed)).1
    (s.jamTube i).chu.tubes = jammedTubes i s.chu.tubes ∧ (s.jamTube i).chu.totals = s.chu.totals ∧
    (∀ f more, plan = f :: more → (s.jamTube i).sesc = s.sesc ∧ (s.jamTube i).chu.payout =
      ({ s.chu.payout.excluding i with plan := plan, pulseNumber := 1 } : Payout).pulsed f) ∧
    (plan = [] → s.chu.payout.OverIn (s.jamTube i) ∧ s.Moved (s.jamTube i)) := by
  obtain ⟨m, c, ns, frame⟩ := s.markJammed_frame i
  obtain ⟨b, marked⟩ : ∃ b, b = s.markJammed i := ⟨_, rfl⟩
  have jams : s.jamTube i = b.replan := by
    have kind : b.chu.payout.kind = .change := by rw [marked, frame]; exact change
    rw [State.jamTube, ← marked]
    simp only [kind]
  rw [jams]
  rw [frame] at marked
  intro plan
  have same : b.newPlan = plan := by rw [marked]; rfl
  cases h : plan with
  | nil =>
    obtain ⟨tubes, totals⟩ :=
      (b.setPayout { b.chu.payout with plan := [], pulseNumber := 1 }).endChange_money
    have gone := (b.setPayout { b.chu.payout with plan := [], pulseNumber := 1 }).endChange_over
    have moved := (b.setPayout { b.chu.payout with plan := [], pulseNumber := 1 }).endChange_moved
    rw [State.replan_of_nothing (same.trans h)]
    subst marked
    exact ⟨tubes, totals, fun f more h => (by cases h), fun _ => ⟨gone, moved⟩⟩
  | cons f more =>
    rw [State.replan_of_coins (same.trans h), same, h]
    subst marked
    refine ⟨rfl, rfl, fun f' more' e => ?_, fun e => (by cases e)⟩
    cases e
    exact ⟨rfl, rfl⟩

/-- A jam of a SERVICE payout ends it (R103, R105). -/
theorem State.jamTube_ends (serves : s.chu.payout.Serves) (i : Nat) :
    s.chu.payout.OverIn (s.jamTube i) ∧ (s.jamTube i).chu.tubes = jammedTubes i s.chu.tubes ∧
    (s.jamTube i).chu.totals = s.chu.totals := by
  obtain ⟨m, c, ns, frame⟩ := s.markJammed_frame i
  obtain ⟨b, marked⟩ : ∃ b, b = s.markJammed i := ⟨_, rfl⟩
  have payout : b.chu.payout = s.chu.payout.excluding i := by rw [marked, frame]
  have jams : s.jamTube i = b.endPayout false := by
    have kind : b.chu.payout.kind = .service := by rw [payout]; exact serves.kind
    rw [State.jamTube, ← marked]
    simp only [kind]
    exact State.finishPayout_of_service ⟨kind, by rw [payout]; exact serves.mark⟩
  obtain ⟨-, -, -, tubes, -, totals, -⟩ := b.endPayout_unchanged false
  have gone := b.endPayout_over
  rw [payout] at gone
  rw [jams, tubes, totals, marked, frame] at *
  exact ⟨gone, rfl, rfl⟩

/-! ### The handover (R107) -/

/-- A marked SERVICE payout ends, its grant kept, and the change payout of the amount due ejects at once. -/
theorem State.finishPayout_handsOver (service : s.chu.payout.kind = .service) (marked : s.chu.payout.endMark = true)
    (plan : s.changePlan s.chu.payout.due = e :: rest) : s.finishPayout = (s.endPayout true).setPayout
      (({ s.changeRecord s.chu.payout.due with state := .ejecting } : Payout).pulsed e) := by
  obtain ⟨settings, -, -, tubes, payout, -, -⟩ := s.endPayout_unchanged true
  have same : (s.endPayout true).changePlan s.chu.payout.due = s.changePlan s.chu.payout.due := by
    rw [State.changePlan, tubes, settings]; rfl
  have record : (s.endPayout true).changeRecord s.chu.payout.due = s.changeRecord s.chu.payout.due := by
    rw [State.changeRecord, same, settings, payout]; rfl
  have finish : s.finishPayout = (s.endPayout true).startChange s.chu.payout.due true := by
    simp only [State.finishPayout, service, marked, if_true]
  have ejects := State.startEjecting_of_head
    (s := (s.endPayout true).setPayout (s.changeRecord s.chu.payout.due)) plan
  rw [finish, State.startChange_of_grant (by rw [same, plan]; exact List.cons_ne_nil _ _), record, ejects]
  rfl

/-! ### The events -/

section Events

variable (on : s.power ≠ .off) (window : s.chu.payout.window = some w)
include on window

/-- The end of the window as an event: the session's note leaves what the executor wrote (R28). -/
theorem exec_exitWindowExpiry_leaves : ∃ t, exec .exitWindowExpiry s = .next t ∧
    t.chu.tubes = ((s.elapse w.left).windowEnds w.tube).chu.tubes ∧
    t.chu.totals = ((s.elapse w.left).windowEnds w.tube).chu.totals ∧
    t.chu.payout = ((s.elapse w.left).windowEnds w.tube).chu.payout ∧
    t.sesc = ((s.elapse w.left).windowEnds w.tube).sesc ∧
    ∀ p : Payout, p.OverIn ((s.elapse w.left).windowEnds w.tube) → p.OverIn t :=
  ⟨_, exec_exitWindowExpiry on window, State.closeEvent_tubes _ _, by simp, by simp, by simp,
    fun _ gone => gone.closeEvent s.sesc⟩

/-- The third window of a coin of an unmarked SERVICE payout (R103, R105). -/
theorem exec_exitWindowExpiry_jams_service (uncounted : s.chu.payout.counted = false)
    (third : s.chu.payout.pulseNumber = 3) (serves : s.chu.payout.Serves) : ∃ t, exec .exitWindowExpiry s = .next t ∧
      s.chu.payout.OverIn t ∧ t.chu.tubes = jammedTubes w.tube s.chu.tubes ∧ t.chu.totals = s.chu.totals := by
  obtain ⟨gone, tubes, totals⟩ := State.jamTube_ends (s := s.elapse w.left) ⟨serves.kind, serves.mark⟩ w.tube
  obtain ⟨t, ends, tubes', totals', -, -, stays⟩ := exec_exitWindowExpiry_leaves on window
  rw [State.windowEnds_jams (s := s.elapse w.left) uncounted third] at tubes' totals' stays
  exact ⟨t, ends, stays _ gone, tubes'.trans tubes, totals'.trans totals⟩

/-- The third window of a coin of a CHANGE payout (R103, R104). -/
theorem exec_exitWindowExpiry_jams_change (uncounted : s.chu.payout.counted = false)
    (third : s.chu.payout.pulseNumber = 3) (change : s.chu.payout.kind = .change) :
    let plan := (planFor (jammedTubes w.tube s.chu.tubes) (s.chu.payout.excluding w.tube).excluded
      (planValue s.chu.payout.plan) (s.chu.payout.limit - s.chu.payout.confirmed)).1
    ∃ t, exec .exitWindowExpiry s = .next t ∧ t.chu.tubes = jammedTubes w.tube s.chu.tubes ∧
      t.chu.totals = s.chu.totals ∧
      (∀ f more, plan = f :: more → t.sesc = (s.elapse w.left).sesc ∧ t.chu.payout =
        ({ s.chu.payout.excluding w.tube with plan := plan, pulseNumber := 1 } : Payout).pulsed f) ∧
      (plan = [] → s.chu.payout.OverIn t ∧ s.Moved t) := by
  obtain ⟨tubes, totals, goesOn, stops⟩ := State.jamTube_replans (s := s.elapse w.left) change w.tube
  obtain ⟨t, ends, tubes', totals', payout', sesc', stays⟩ := exec_exitWindowExpiry_leaves on window
  rw [State.windowEnds_jams (s := s.elapse w.left) uncounted third] at tubes' totals' payout' sesc' stays
  refine ⟨t, ends, tubes'.trans tubes, totals'.trans totals, fun f more coins => ?_, fun none => ?_⟩
  · obtain ⟨sesc, payout⟩ := goesOn f more coins
    exact ⟨sesc'.trans sesc, payout'.trans payout⟩
  · obtain ⟨gone, moved⟩ := stops none
    exact ⟨stays _ gone, moved.congr sesc'⟩

/-- The window in which the last coin of an unmarked payout was counted (R105). -/
theorem exec_exitWindowExpiry_paid (counted : s.chu.payout.counted = true) (unmarked : s.chu.payout.endMark = false)
    (last : dropPaid s.chu.payout.plan = []) : ∃ t, exec .exitWindowExpiry s = .next t ∧
      s.chu.payout.OverIn t ∧ t.chu.tubes = s.chu.tubes ∧ t.chu.totals = s.chu.totals ∧
      (s.chu.payout.kind = .change → s.Moved t) ∧
      (s.chu.payout.kind = .service → t.sesc = (s.elapse w.left).sesc) := by
  obtain ⟨gone, tubes, totals, moves, still⟩ := State.finishPayout_ends
    (s := (s.elapse w.left).setPayout { (s.elapse w.left).chu.payout with plan := [], pulseNumber := 1 }) unmarked
  obtain ⟨t, ends, tubes', totals', -, sesc', stays⟩ := exec_exitWindowExpiry_leaves on window
  rw [State.windowEnds_paid (s := s.elapse w.left) counted last] at tubes' totals' sesc' stays
  exact ⟨t, ends, stays _ gone, tubes'.trans tubes, totals'.trans totals,
    fun change => (moves change).congr sesc', fun service => sesc'.trans (still service)⟩

/-- The window at whose end a marked SERVICE payout hands its grant over (R107). -/
theorem exec_exitWindowExpiry_handsOver {h : Nat}
    (ends : s.chu.payout.counted = true ∨ s.chu.payout.pulseNumber < 3) (service : s.chu.payout.kind = .service)
    (marked : s.chu.payout.endMark = true) (granted : s.load .payout = .granted h)
    (plan : s.changePlan s.chu.payout.due = e :: rest) :
    ∃ t, exec .exitWindowExpiry s = .next t ∧ t.load .payout = .granted h ∧
      t.sesc = (s.elapse w.left).sesc ∧ t.chu.tubes = s.chu.tubes ∧ t.chu.totals = s.chu.totals ∧
      t.notes (.payout s.chu.payout.paid (s.chu.payout.amount - s.chu.payout.paid) s.chu.payout.overpaid) ∧
      t.chu.payout = ({ s.changeRecord s.chu.payout.due with state := .ejecting } : Payout).pulsed e := by
  obtain ⟨l, n, finishes⟩ := State.windowEnds_marked (s := s.elapse w.left) ends marked w.tube
  generalize record : (s.elapse w.left).setPayout { (s.elapse w.left).chu.payout with plan := l, pulseNumber := n } = b
    at finishes
  have handsOver : b.finishPayout = (b.endPayout true).setPayout
      (({ s.changeRecord s.chu.payout.due with state := .ejecting } : Payout).pulsed e) := by
    subst record
    exact State.finishPayout_handsOver (s := (s.elapse w.left).setPayout _) service marked plan
  have load : b.load .payout = .granted h := by
    subst record
    exact congrArg (LoadRec.elapse · w.left) granted
  have kept : b.sesc = (s.elapse w.left).sesc ∧ b.chu.tubes = s.chu.tubes ∧ b.chu.totals = s.chu.totals := by
    subst record
    exact ⟨rfl, rfl, rfl⟩
  have noted : (b.endPayout true).notes
      (.payout s.chu.payout.paid (s.chu.payout.amount - s.chu.payout.paid) s.chu.payout.overpaid) := by
    subst record
    exact State.endPayout_notes _ true
  obtain ⟨-, sesc, -, tubes, -, totals, -⟩ := b.endPayout_unchanged true
  obtain ⟨sesc', tubes', totals'⟩ := kept
  exact ⟨_, exec_exitWindowExpiry_quiet on window (finishes.trans handsOver) (sesc.trans sesc'),
    b.endPayout_keeps_load.trans load, sesc.trans sesc', tubes.trans tubes', totals.trans totals', noted, rfl⟩

end Events

/-- Settles O35, clause by clause: the grant, the pulse's end, the windows by count and pulse number
(`windowEnds_again`, `windowEnds_goesOn`), the jam (`jamTube_ends`, `jamTube_replans`), the end
(`finishPayout_ends`) and the handover (`finishPayout_handsOver`). -/
theorem payoutPulses : Obligations.PayoutPulses := by
  intro s e rest on plan
  refine ⟨fun waits granted turn => ?_, fun d runs => ?_, fun w window uncounted =>
    ⟨fun tries unmarked => ?_, fun third service unmarked => ?_⟩, fun w window counted due unmarked => ?_,
    fun w window uncounted third change => exec_exitWindowExpiry_jams_change on window uncounted third change,
    fun w window counted paid unmarked => ⟨fun last => ?_, fun f more next => ?_⟩,
    fun w h f more window ends service marked granted coins => ?_⟩
  · exact exec_of_quiet_event rfl on ((State.takePayout_ejects granted turn waits).trans
      (State.startEjecting_of_head (s := s.tookGrant .payout) plan)) rfl
  · exact exec_of_quiet_event rfl on (by simp only [State.expire, runs]; rfl) rfl
  · exact exec_exitWindowExpiry_quiet on window
      (State.windowEnds_again (s := s.elapse w.left) uncounted tries unmarked plan _) rfl
  · obtain ⟨t, ends, gone, tubes, totals⟩ :=
      exec_exitWindowExpiry_jams_service on window uncounted third ⟨service, unmarked⟩
    obtain ⟨state, closed, -, -, given, -, noted⟩ := gone
    exact ⟨t, ends, state, closed, given, tubes, noted, totals⟩
  · have same : dropPaid (s.elapse w.left).chu.payout.plan = e :: rest :=
      (congrArg dropPaid plan).trans (if_neg (Nat.ne_of_gt due))
    refine (exec_exitWindowExpiry_quiet on window
      (State.windowEnds_goesOn (s := s.elapse w.left) counted unmarked same _) rfl).trans ?_
    rw [← plan]
    rfl
  · exact exec_exitWindowExpiry_paid on window counted unmarked
      ((congrArg dropPaid plan).trans ((if_pos paid).trans last))
  · have same : dropPaid (s.elapse w.left).chu.payout.plan = f :: more :=
      (congrArg dropPaid plan).trans ((if_pos paid).trans next)
    rw [next]
    exact exec_exitWindowExpiry_quiet on window
      (State.windowEnds_goesOn (s := s.elapse w.left) counted unmarked same _) rfl
  · obtain ⟨t, acts, load, sesc, tubes, totals, noted, payout⟩ :=
      exec_exitWindowExpiry_handsOver on window ends service marked granted coins
    refine ⟨t, acts, load, sesc, tubes, totals, noted, payout.trans ?_⟩
    rw [← coins]
    rfl

end Sys2Proof.Machine
end

section
/-! SUPPORT. What keeps the laws of the Cash Bus records and of the notice set: writes elsewhere, raises, records
rewritten and commands handed (R122 to R124, R198). -/

namespace Sys2Proof.Machine

-- One proof at a time: the whole text is one process, under a memory limit that counts every thread of Lean.
set_option Elab.async false

variable {s t u : State} {o : Option Peripheral} {p : Peripheral}

/-! ### The notice set (R198) -/

/-- A raise keeps at most one notice of each kind, in order. -/
theorem insertNotice_ordered (n : Notice) {ns : List (Notice × Bool)}
    (law : (ns.map fun x => x.1.kindNo).Pairwise (· < ·)) :
    ((insertNotice n ns).map fun x => x.1.kindNo).Pairwise (· < ·) := by
  induction ns with
  | nil => simp [insertNotice]
  | cons m ns ih =>
    obtain ⟨m, r⟩ := m
    obtain ⟨above, rest⟩ := List.pairwise_cons.1 law
    simp only [List.forall_mem_map] at above
    simp only [insertNotice]
    split
    · next same => exact List.pairwise_cons.2 ⟨List.forall_mem_map.2 fun x hx => same.trans_lt (above x hx), rest⟩
    · split
      · next below =>
        refine List.pairwise_cons.2 ⟨List.forall_mem_map.2 fun x hx => ?_, law⟩
        rcases List.mem_cons.1 hx with rfl | hx
        · exact below
        · exact below.trans (above x hx)
      · next other notBelow =>
        refine List.pairwise_cons.2 ⟨List.forall_mem_map.2 fun x hx => ?_, ih rest⟩
        rcases mem_insertNotice_kind hx with kind | hx
        · rw [kind]
          exact lt_of_le_of_ne (not_lt.1 notBelow) (Ne.symm other)
        · exact above x hx

theorem State.raise_noticeLaw (n : Notice) (law : NoticeLaw s) : NoticeLaw (s.raise n) :=
  insertNotice_ordered n law

/-! ### The laws, and the steps that keep them -/

/-- The records of the Cash Bus within their law, with `o` ONLINE where one is named (R122, R124). -/
structure State.Recorded (s : State) (o : Option Peripheral) : Prop where
  records : ∀ p, PeripheralLaw (s.periph p)
  coin : (s.periph .coin).pending.escrow = none
  online : ∀ p, o = some p → (s.periph p).link = .online

theorem busLaw_iff : BusLaw s ↔ s.Recorded none ∧ (s.cbm.bus = .idle → s.cbm.late = []) :=
  ⟨fun ⟨records, coin, late⟩ => ⟨⟨records, coin, fun _ h => by cases h⟩, late⟩,
    fun ⟨⟨records, coin, _⟩, late⟩ => ⟨records, coin, late⟩⟩

theorem State.Recorded.of_some (h : s.Recorded o) : s.Recorded none :=
  ⟨h.records, h.coin, fun _ h => by cases h⟩

theorem State.Recorded.with_online (h : s.Recorded o) (online : (s.periph p).link = .online) :
    s.Recorded (some p) :=
  ⟨h.records, h.coin, fun _ h => by cases h; exact online⟩

/-- A frame outstanding is of a peripheral that is ONLINE (R124). -/
theorem State.Recorded.online_of_outstanding (h : s.Recorded o) (out : (s.periph p).outstanding ≠ none) :
    (s.periph p).link = .online := by
  by_contra link
  obtain ⟨-, none, -⟩ := (h.records p).offline link
  exact out none

/-- From `s` to `t` the laws of the Cash Bus and of the notice set are kept, and so does `o`, where one is named,
stay ONLINE. -/
structure State.Tidy (s : State) (o : Option Peripheral) (t : State) : Prop where
  recorded : s.Recorded o → t.Recorded o
  late : (s.cbm.bus = .idle → s.cbm.late = []) → t.cbm.bus = .idle → t.cbm.late = []
  notices : NoticeLaw s → NoticeLaw t

theorem State.Tidy.refl (s : State) : s.Tidy o s := ⟨id, id, id⟩

theorem State.Tidy.trans (h : s.Tidy o t) (k : t.Tidy o u) : s.Tidy o u :=
  ⟨fun law => k.recorded (h.recorded law), fun law => k.late (h.late law), fun law => k.notices (h.notices law)⟩

/-- A step that leaves the Cash Bus, and keeps the law of the notices. -/
theorem State.Tidy.of_cbm (cbm : t.cbm = s.cbm) (notices : NoticeLaw s → NoticeLaw t) : s.Tidy o t := by
  have record (p : Peripheral) : t.periph p = s.periph p := by simp only [State.periph, cbm]
  exact ⟨fun ⟨records, coin, online⟩ => ⟨fun p => by rw [record]; exact records p, by rw [record]; exact coin,
    fun p named => by rw [record]; exact online p named⟩, by rw [cbm]; exact id, notices⟩

/-- A step that leaves the Cash Bus and the notices. -/
theorem State.Tidy.of_same (cbm : t.cbm = s.cbm := by rfl) (notices : t.hli.notices = s.hli.notices := by rfl) :
    s.Tidy o t := .of_cbm cbm (by unfold NoticeLaw; rw [notices]; exact id)

/-- A step whose frame leaves the Cash Bus and the notices. -/
theorem State.Tidy.of_frame (frame : t = u) (cbm : u.cbm = s.cbm := by rfl)
    (notices : u.hli.notices = s.hli.notices := by rfl) : s.Tidy o t := frame ▸ .of_same cbm notices

/-- A write off the Cash Bus and the notices, and then a step. -/
theorem State.Tidy.after (k : t.Tidy o u) (cbm : t.cbm = s.cbm := by rfl)
    (notices : t.hli.notices = s.hli.notices := by rfl) : s.Tidy o u :=
  State.Tidy.trans (.of_same cbm notices) k

/-- A step, and then a write off the Cash Bus and the notices. -/
theorem State.Tidy.then (h : s.Tidy o t) (cbm : u.cbm = t.cbm := by rfl)
    (notices : u.hli.notices = t.hli.notices := by rfl) : s.Tidy o u :=
  h.trans (.of_same cbm notices)

/-- A peripheral known to be ONLINE need not be named. -/
theorem State.Tidy.of_online (h : s.Tidy (some p) t) (online : s.Recorded none → (s.periph p).link = .online) :
    s.Tidy none t :=
  ⟨fun law => (h.recorded (law.with_online (online law))).of_some, h.late, h.notices⟩

theorem State.raise_tidy (s : State) (n : Notice) : s.Tidy o (s.raise n) := .of_cbm rfl (State.raise_noticeLaw n)

theorem State.elapse_tidy (s : State) (d : Nat) : s.Tidy o (s.elapse d) := by
  refine ⟨fun ⟨records, coin, online⟩ => ⟨fun p => ?_, coin, fun p named => ?_⟩, fun law idle => law ?_, id⟩
  · rw [State.elapse_periph]
    refine ⟨fun link => ?_, (records p).attempts⟩
    obtain ⟨pending, outstanding, watch⟩ := (records p).offline link
    exact ⟨pending, outstanding, by simp [PeriphRec.elapse, watch, runDown]⟩
  · rw [State.elapse_periph]
    exact online p named
  · have after : s.cbm.bus.elapse d = .idle := idle
    cases bus : s.cbm.bus <;> simp [bus, Bus.elapse] at after ⊢

/-! ### Records rewritten (R122) -/

/-- A record rewritten within its law, a coin validator's without an ESCROW command, a named peripheral's ONLINE. -/
theorem State.setPeriph_tidy (s : State) (p : Peripheral) {r : PeriphRec}
    (record : s.Recorded o → PeripheralLaw r)
    (escrow : s.Recorded o → p = .coin → r.pending.escrow = none)
    (online : s.Recorded o → o = some p → r.link = .online) : s.Tidy o (s.setPeriph p r) := by
  refine ⟨fun law => ⟨fun q => ?_, ?_, fun q named => ?_⟩, ?_, id⟩
  · by_cases same : q = p
    · subst same
      rw [State.periph_setPeriph_self]
      exact record law
    · rw [State.periph_setPeriph_ne s r same]
      exact law.records q
  · by_cases same : Peripheral.coin = p
    · subst same
      rw [State.periph_setPeriph_self]
      exact escrow law rfl
    · rw [State.periph_setPeriph_ne s r same]
      exact law.coin
  · by_cases same : q = p
    · subst same
      rw [State.periph_setPeriph_self]
      exact online law named
    · rw [State.periph_setPeriph_ne s r same]
      exact law.online q named
  · rw [State.setPeriph_cbm, Cbm.set_bus, Cbm.set_late]
    exact id

/-- A change of a record off what its law speaks of; a frame outstanding or a watch may end. -/
theorem State.editPeriph_tidy (s : State) (p : Peripheral) {f : PeriphRec → PeriphRec}
    (link : ∀ r, (f r).link = r.link := by intro; rfl)
    (pending : ∀ r, (f r).pending = r.pending := by intro; rfl)
    (outstanding : ∀ r, (f r).outstanding = r.outstanding ∨ (f r).outstanding = none := by intro; simp)
    (watch : ∀ r, (f r).stackWatch = r.stackWatch ∨ (f r).stackWatch = none := by intro; simp) :
    s.Tidy o (s.editPeriph p f) := by
  refine s.setPeriph_tidy p (fun law => ⟨fun off => ?_, fun a sent => ?_⟩) (fun law coin => ?_) (fun law named => ?_)
  · rw [link] at off
    obtain ⟨empty, none, unwatched⟩ := (law.records p).offline off
    refine ⟨(pending _).trans empty, ?_, ?_⟩
    · rcases outstanding (s.periph p) with h | h <;> simp [h, none]
    · rcases watch (s.periph p) with h | h <;> simp [h, unwatched]
  · rcases outstanding (s.periph p) with h | h <;> rw [h] at sent
    · exact (law.records p).attempts a sent
    · cases sent
  · subst coin
    rw [pending]
    exact law.coin
  · rw [link]
    exact law.online p named

/-- A change of the pending set of a peripheral that is ONLINE. -/
theorem State.editPending_tidy (s : State) (p : Peripheral) {f : PendingSet → PendingSet}
    (online : s.Recorded o → (s.periph p).link = .online)
    (escrow : p = .coin → ∀ q, q.escrow = none → (f q).escrow = none) : s.Tidy o (s.editPending p f) := by
  refine s.setPeriph_tidy p (fun law => ⟨fun off => absurd (online law) off, (law.records p).attempts⟩)
    (fun law coin => ?_) (fun law _ => online law)
  refine escrow coin _ ?_
  subst coin
  exact law.coin

theorem State.hand_tidy (s : State) (p : Peripheral) {f : PendingSet → PendingSet}
    (escrow : p = .coin → ∀ q, q.escrow = none → (f q).escrow = none) : s.Tidy o (s.hand p f) := by
  unfold State.hand
  split
  · next online => exact s.editPending_tidy p (fun _ => online) escrow
  · exact .refl s

theorem State.handEscrowStack_tidy (s : State) : s.Tidy o s.handEscrowStack :=
  s.hand_tidy .bill fun h => by cases h

theorem State.handEscrowReturn_tidy (s : State) : s.Tidy o s.handEscrowReturn :=
  s.hand_tidy .bill fun h => by cases h

theorem State.updateRoute_tidy (s : State) : s.Tidy o s.updateRoute := by
  unfold State.updateRoute
  dsimp only
  split
  · exact .refl s
  · exact (State.hand_tidy (s.noteMap s.routeMap) .coin (f := fun q => { q with routeMap := some s.routeMap })
      fun _ _ none => none).after

theorem State.updateMask_tidy (s : State) (p : Peripheral) : s.Tidy o (s.updateMask p) := by
  unfold State.updateMask
  dsimp only
  split
  · exact .refl s
  · have handed := State.hand_tidy (o := o) (s.noteMask p (s.maskOf p)) p
      (f := fun q => { q with acceptMask := some (s.maskOf p) }) fun _ _ none => none
    cases p <;> exact handed.after

theorem State.updateMasks_tidy (s : State) : s.Tidy o s.updateMasks :=
  (s.updateMask_tidy .coin).trans (State.updateMask_tidy _ .bill)

theorem State.noteSession_tidy (s : State) : s.Tidy o s.noteSession :=
  (s.raise_tidy _).trans (State.updateMasks_tidy _)

theorem State.closeEvent_tidy (s : State) (before : Session) : s.Tidy o (s.closeEvent before) := by
  unfold State.closeEvent
  split
  · exact .refl s
  · exact s.noteSession_tidy

end Sys2Proof.Machine
end

section
/-! SUPPORT. The power and climate blocks leave the Cash Bus; the notices they raise take their places (R133 to R190,
R198). -/

namespace Sys2Proof.Machine

-- One proof at a time: the whole text is one process, under a memory limit that counts every thread of Lean.
set_option Elab.async false

variable {s : State} {o : Option Peripheral}

/-! ### LBA -/

theorem State.grantPass_tidy (s : State) : s.Tidy o s.grantPass := by
  obtain ⟨_, _, _, h⟩ := s.grantPass_frame
  exact .of_frame h

theorem State.request_tidy (s : State) (l : Load) (w : Nat) : s.Tidy o (s.request l w) := by
  obtain ⟨_, _, _, h⟩ := s.request_frame l w
  exact .of_frame h

theorem State.release_tidy (s : State) (l : Load) : s.Tidy o (s.release l) := by
  obtain ⟨_, _, _, h⟩ := s.release_frame l
  exact .of_frame h

theorem State.reduceWeight_tidy (s : State) (l : Load) (w : Nat) : s.Tidy o (s.reduceWeight l w) := by
  obtain ⟨_, _, _, h⟩ := s.reduceWeight_frame l w
  exact .of_frame h

theorem State.setBand_tidy (s : State) (b : Band) : s.Tidy o (s.setBand b) := by
  unfold State.setBand
  split
  · exact .refl s
  · exact (State.raise_tidy _ _).after

theorem State.promote_tidy (s : State) (l : Load) : s.Tidy o (s.promote l) := by
  unfold State.promote
  split
  · exact (State.grantPass_tidy _).after
  · exact .refl s

theorem State.promoteAllDue_tidy (s : State) : s.Tidy o s.promoteAllDue := .of_same

theorem State.promoteIfDue_tidy (s : State) (l : Load) : s.Tidy o (s.promoteIfDue l) := .of_same

/-- A grant taken by an effect that keeps the laws. -/
theorem State.takeGrant_tidy (s : State) (l : Load) {f : State → State} (h : ∀ x : State, x.Tidy o (f x)) :
    s.Tidy o (s.takeGrant l f) := by
  rcases s.takeGrant_cases l f with ⟨-, -, e⟩ | ⟨-, e⟩
  · rw [e]; exact (h _).after
  · rw [e]; exact .refl s

theorem State.vdriveTakes_tidy (s : State) : s.Tidy o s.vdriveTakes := by
  unfold State.vdriveTakes
  split
  · exact .refl s
  · next mv _ =>
    have taken : s.Tidy o { s with
        msc := { s.msc with handedVdrive := none }, lba := { s.lba with vdrive := some mv } } := .of_same
    dsimp only
    split
    · exact taken
    · unfold State.setBandAndPass
      split
      · exact taken
      · exact (taken.trans (State.setBand_tidy _ _)).trans (State.grantPass_tidy _)

theorem State.deassertWarning_tidy (s : State) : s.Tidy o s.deassertWarning := by
  unfold State.deassertWarning
  split
  · dsimp only
    have calm : s.Tidy o { s with lba := { s.lba with pfw := false } } := .of_same
    split
    · exact (calm.trans (State.setBand_tidy _ _)).trans (State.grantPass_tidy _)
    · exact calm.trans (State.grantPass_tidy _)
  · exact .refl s

/-! ### RFC -/

theorem State.stopCompressor_tidy (s : State) : s.Tidy o s.stopCompressor := by
  obtain ⟨_, _, _, h⟩ := s.stopCompressor_frame
  exact .of_frame h

theorem State.enterDefrost_tidy (s : State) : s.Tidy o s.enterDefrost := by
  obtain ⟨_, _, _, h⟩ := s.enterDefrost_frame
  exact .of_frame h

theorem State.enterWaitPower_tidy (s : State) : s.Tidy o s.enterWaitPower := by
  obtain ⟨_, _, _, h⟩ := s.enterWaitPower_frame
  exact .of_frame h

theorem State.leaveWaitPower_tidy (s : State) (x : RfcState) : s.Tidy o (s.leaveWaitPower x) := by
  obtain ⟨_, _, _, h⟩ := s.leaveWaitPower_frame x
  exact .of_frame h

theorem State.readyCheck_tidy (s : State) : s.Tidy o s.readyCheck := by
  obtain ⟨_, _, _, h⟩ := s.readyCheck_frame
  exact .of_frame h

theorem State.defrostDue_tidy (s : State) : s.Tidy o s.defrostDue := by
  unfold State.defrostDue
  split
  case h_1 | h_2 => exact s.stopCompressor_tidy.trans (State.enterDefrost_tidy _)
  case h_3 => exact s.enterDefrost_tidy
  case h_4 => exact (s.leaveWaitPower_tidy _).trans (State.enterDefrost_tidy _)
  all_goals exact .of_same

theorem State.lockoutEnds_tidy (s : State) : s.Tidy o s.lockoutEnds := by
  unfold State.lockoutEnds
  split
  · exact s.enterDefrost_tidy
  · split
    · exact s.enterWaitPower_tidy
    · exact .of_same

theorem State.dripEnds_tidy (s : State) : s.Tidy o s.dripEnds := by
  unfold State.dripEnds
  dsimp only
  split
  · exact .of_same
  · exact (State.readyCheck_tidy _).after

theorem State.endDefrost_tidy (s : State) : s.Tidy o s.endDefrost := by
  have drips : s.Tidy o { s with rfc := { s.rfc with
      state := .drip, heaterOn := false, dripTime := 0 } } := .of_same
  unfold State.endDefrost
  dsimp only
  split
  · exact (drips.trans (State.release_tidy _ _)).trans (State.dripEnds_tidy _)
  · exact drips.trans (State.release_tidy _ _)

theorem State.takeEvap_tidy (s : State) (v : Option Int) : s.Tidy o (s.takeEvap v) := by
  have taken : s.Tidy o { s with rfc := { s.rfc with evap := v } } := .of_same
  unfold State.takeEvap
  dsimp only
  split
  · exact taken.trans (State.readyCheck_tidy _)
  · split
    · exact taken.trans (State.leaveWaitPower_tidy _ _)
    · exact taken
  · split
    · exact taken.trans (State.stopCompressor_tidy _)
    · exact taken
  · split
    · exact taken.trans (State.stopCompressor_tidy _)
    · exact taken
  · split
    · split
      · exact taken.trans (State.endDefrost_tidy _)
      · exact taken
    · exact taken
  · exact taken

theorem State.evapTakes_tidy (s : State) : s.Tidy o s.evapTakes := by
  unfold State.evapTakes
  split
  · exact .refl s
  · dsimp only
    split <;> exact (State.takeEvap_tidy _ _).after

theorem State.rfcSettingWritten_tidy (s : State) (num : Nat) : s.Tidy o (s.rfcSettingWritten num) := by
  unfold State.rfcSettingWritten
  split
  · split
    · split
      · exact s.lockoutEnds_tidy
      · exact .refl s
    · split <;> exact .of_same
    · split
      · exact s.leaveWaitPower_tidy _
      · exact .refl s
    · exact .refl s
  · split
    · exact s.stopCompressor_tidy
    · exact .refl s
  · split
    · exact s.defrostDue_tidy
    · exact .refl s
  · split
    · exact s.defrostDue_tidy
    · exact .refl s
  · split
    · exact s.endDefrost_tidy
    · exact .refl s
  · split
    · exact s.dripEnds_tidy
    · exact .refl s
  · exact .refl s

theorem State.takeCompressor_tidy (s : State) : s.Tidy o s.takeCompressor := by
  refine s.takeGrant_tidy .compressor fun x => ?_
  split
  · exact .of_same
  · split
    · exact .refl x
    · exact x.release_tidy _

theorem State.takeDefrost_tidy (s : State) : s.Tidy o s.takeDefrost := by
  refine s.takeGrant_tidy .defrost fun x => ?_
  split
  · exact .of_same
  · exact x.release_tidy _

theorem State.startWindowEnds_tidy (s : State) : s.Tidy o s.startWindowEnds :=
  (State.reduceWeight_tidy _ _ _).after

theorem State.recoveryEnds_tidy (s : State) : s.Tidy o s.recoveryEnds := .of_same

/-! ### ZTC -/

theorem State.askDamper_tidy (s : State) : s.Tidy o s.askDamper := by
  obtain ⟨_, _, _, h⟩ := s.askDamper_frame
  exact .of_frame h

theorem State.updateDemand_tidy (s : State) : s.Tidy o s.updateDemand := by
  obtain ⟨_, _, _, _, h⟩ := s.updateDemand_frame
  exact .of_frame h

theorem State.queueCheck_tidy (s : State) (z : ZoneNo) : s.Tidy o (s.queueCheck z) := by
  obtain ⟨_, _, _, _, _, h⟩ := s.queueCheck_frame z
  exact .of_frame h

theorem State.stopMove_tidy (s : State) : s.Tidy o s.stopMove := by
  obtain ⟨_, _, _, _, h⟩ := s.stopMove_frame
  exact .of_frame h

theorem State.setTarget_tidy (s : State) (z : ZoneNo) (t : Target) : s.Tidy o (s.setTarget z t) :=
  (State.queueCheck_tidy _ z).after

theorem State.holdZone_tidy (s : State) (z : ZoneNo) (c : HoldCause) : s.Tidy o (s.holdZone z c) := by
  unfold State.holdZone
  split
  · exact .refl s
  · exact (State.raise_tidy _ _).after

theorem State.restoreCheck_tidy (s : State) (z : ZoneNo) (t : Int) : s.Tidy o (s.restoreCheck z t) := by
  unfold State.restoreCheck
  dsimp only
  split
  · split
    · exact (State.holdZone_tidy _ z _).after
    · exact .of_same
  · exact .refl s

theorem State.takeTemperature_tidy (s : State) (z : ZoneNo) (h : Handed) :
    s.Tidy o (s.takeTemperature z h) := by
  cases h with
  | value t =>
    unfold State.takeTemperature
    dsimp only
    split
    · exact ((State.restoreCheck_tidy _ z t).after).trans (State.setTarget_tidy _ z _)
    · exact .of_same
  | fault =>
    unfold State.takeTemperature
    dsimp only
    split
    · exact ((State.holdZone_tidy _ z _).after).trans (State.setTarget_tidy _ z _)
    · exact .of_same

theorem State.zoneTakes_tidy (s : State) (z : Fin 4) : s.Tidy o (s.zoneTakes z) := by
  unfold State.zoneTakes
  split
  · exact .refl s
  · dsimp only
    split
    · exact (State.takeTemperature_tidy _ _ _).after
    · exact .of_same

theorem State.markZone_tidy (s : State) (z : ZoneNo) : s.Tidy o (s.markZone z) := by
  unfold State.markZone
  dsimp only
  split
  · split
    · exact (State.holdZone_tidy _ z _).after
    · exact .of_same
  · exact .refl s

theorem State.zoneToChilled_tidy (s : State) (z : ZoneNo) : s.Tidy o (s.zoneToChilled z) := by
  unfold State.zoneToChilled
  dsimp only
  split
  · exact ((State.holdZone_tidy _ z _).after).trans (State.setTarget_tidy _ z _)
  · exact (State.setTarget_tidy _ z _).after
  · exact (State.queueCheck_tidy _ z).after

theorem State.zoneRetarget_tidy (s : State) (z : ZoneNo) (c : ZoneSettings) :
    s.Tidy o (s.zoneRetarget z c) := by
  unfold State.zoneRetarget
  split
  · split
    · exact .refl s
    · exact s.setTarget_tidy z _
  · exact .refl s

theorem State.thresholdCheck_tidy (s : State) (z : ZoneNo) : s.Tidy o (s.thresholdCheck z) := by
  unfold State.thresholdCheck
  split
  · exact s.holdZone_tidy z _
  · exact .refl s

theorem State.writeZone_tidy (s : State) (z : ZoneNo) (c : ZoneSettings) : s.Tidy o (s.writeZone z c) := by
  have written : s.Tidy o (s.setZone z { s.zone z with cfg := c }) := .of_same
  unfold State.writeZone
  dsimp only
  split
  · exact (written.trans (State.zoneToChilled_tidy _ z)).trans (State.thresholdCheck_tidy _ z)
  · exact (written.then.trans (State.setTarget_tidy _ z _)).trans (State.thresholdCheck_tidy _ z)
  · exact (written.trans (State.zoneRetarget_tidy _ z _)).trans (State.thresholdCheck_tidy _ z)
  · exact written.trans (State.thresholdCheck_tidy _ z)

theorem State.takeDamper_tidy (s : State) : s.Tidy o s.takeDamper := by
  refine s.takeGrant_tidy .damper fun x => ?_
  split
  · unfold State.startMove
    split
    · exact x.release_tidy _
    · exact (State.updateDemand_tidy _).after
  · exact .refl x

theorem State.endMove_tidy (s : State) : s.Tidy o s.endMove := by
  unfold State.endMove
  split
  · exact .refl s
  · next m _ =>
    have stopped : s.Tidy o ({ s.setZone m.zone { s.zone m.zone with damper := m.target.position } with
      ztc := { (s.setZone m.zone { s.zone m.zone with damper := m.target.position }).ztc with
        running := none } }) := .of_same
    exact ((stopped.trans (State.release_tidy _ _)).trans (State.askDamper_tidy _)).trans
      (State.updateDemand_tidy _)

theorem State.clearHold_tidy (s : State) (z : ZoneNo) : s.Tidy o (s.clearHold z) := by
  unfold State.clearHold
  dsimp only
  split
  · exact (State.raise_tidy _ _).after
  · exact .of_same

/-! ### MSC -/

theorem State.setChannels_tidy (s : State) (cs : Five Channel) : s.Tidy o (s.setChannels cs) := by
  unfold State.setChannels State.evapNotice
  dsimp only
  split
  · exact (State.raise_tidy _ _).after
  · split
    · exact (State.raise_tidy _ _).after
    · exact .of_same

theorem State.passFails_tidy (s : State) : s.Tidy o s.passFails := by
  unfold State.passFails
  dsimp only
  have failed : s.Tidy o (if s.msc.refFault then
      s.setMsc { s.msc with refFault := true, failCount := min 120 (s.msc.failCount + 1) }
      else (s.setMsc { s.msc with refFault := true, failCount := min 120 (s.msc.failCount + 1) }).raise
        (.refrig .measFault none)) := by
    split
    · exact .of_same
    · exact (State.raise_tidy _ _).after
  generalize (if s.msc.refFault then _ else _ : State) = x at failed ⊢
  split
  · exact failed.trans (State.setChannels_tidy _ _)
  · exact failed

theorem State.passUsed_tidy (s : State) (p : SlowCodes) : s.Tidy o (s.passUsed p) := by
  unfold State.passUsed
  dsimp only
  have used : s.Tidy o (if s.msc.refFault then
      (s.setMsc { s.msc with refFault := false, failCount := 0 }).raise (.refrig .measClear none)
      else s.setMsc { s.msc with refFault := false, failCount := 0 }) := by
    split
    · exact (State.raise_tidy _ _).after
    · exact .of_same
  generalize (if s.msc.refFault then _ else _ : State) = x at used ⊢
  exact used.then.trans (State.setChannels_tidy _ _)

theorem State.endPass_tidy (s : State) (p : PassCodes) : s.Tidy o (s.endPass p) := by
  have judged (x : State) : x.Tidy o x.judgePass := by
    unfold State.judgePass
    split
    · split
      · exact x.passUsed_tidy _
      · exact x.passFails_tidy
    · exact .refl x
  exact (judged (s.setMsc { s.msc with
    buffer := some p.toSlowCodes, vrefCode := p.vref, passLeft := passMs })).after.then

end Sys2Proof.Machine
end

section
/-! SUPPORT. Tubes, classes, the session, payouts and drive work: what they hand goes to a peripheral that is ONLINE,
and the notices they raise take their places (R29 to R107, R122, R198). -/

namespace Sys2Proof.Machine

-- One proof at a time: the whole text is one process, under a memory limit that counts every thread of Lean.
set_option Elab.async false

variable {s : State} {o : Option Peripheral}

/-! ### Tubes and classes (R73 to R90) -/

theorem State.evalExact_tidy (s : State) : s.Tidy o s.evalExact := by
  unfold State.evalExact
  dsimp only
  split
  · split
    · exact .refl s
    · exact (State.raise_tidy _ _).after
  · exact .refl s

theorem State.tubesChanged_tidy (s : State) : s.Tidy o s.tubesChanged :=
  s.updateRoute_tidy.trans (State.evalExact_tidy _)

theorem State.raiseTube_tidy (s : State) (i : Nat) (r : TubeReason) (cls : Option Nat) :
    s.Tidy o (s.raiseTube i r cls) := by
  unfold State.raiseTube
  split
  · exact s.raise_tidy _
  · exact .refl s

/-- A tube rewritten, with what follows a change of its count or state (R73). -/
theorem State.editTube_tubesChanged_tidy (s : State) (i : Nat) (f : Tube → Tube) :
    s.Tidy o (s.editTube i f).tubesChanged := (State.tubesChanged_tidy _).after

theorem State.countCoin_tidy (s : State) (c : CoinClass) (toTube : Bool) : s.Tidy o (s.countCoin c toTube) := by
  unfold State.countCoin
  split
  · split
    · split
      · exact s.editTube_tubesChanged_tidy _ _
      · exact .refl s
    · exact .refl s
  · exact .refl s

theorem State.correctCount_tidy (s : State) (i : Nat) (n : Option Nat) : s.Tidy o (s.correctCount i n) := by
  unfold State.correctCount
  split
  · exact (State.raiseTube_tidy _ _ _ _).after
  · exact .refl s

theorem State.switchRead_tidy (s : State) (i : Nat) (f : Tube → Tube) (n : Option Nat) :
    s.Tidy o (s.switchRead i f n) := by
  have corrected : s.Tidy o ((s.editTube i f).correctCount i n) := (State.correctCount_tidy _ _ _).after
  unfold State.switchRead
  split
  · exact corrected.trans (State.tubesChanged_tidy _)
  · exact corrected.trans (State.updateRoute_tidy _)

theorem State.fullReads_tidy (s : State) (i : Nat) (active : Bool) : s.Tidy o (s.fullReads i active) := by
  cases tube : s.tube i with
  | none =>
    simp only [State.fullReads, tube]
    exact .refl s
  | some x =>
    by_cases same : x.full = if active then .active else .clear
    · rw [State.fullReads_of_same tube same]
      exact .refl s
    · rw [State.fullReads_of_change tube same]
      exact s.switchRead_tidy _ _ _

theorem State.lowReads_tidy (s : State) (i : Nat) (low : Bool) : s.Tidy o (s.lowReads i low) := by
  cases tube : s.tube i with
  | none =>
    simp only [State.lowReads, tube]
    exact .refl s
  | some x =>
    by_cases same : x.low = if low then .low else .notLow
    · rw [State.lowReads_of_same tube same]
      exact .refl s
    · rw [State.lowReads_of_change tube same]
      exact s.switchRead_tidy _ _ _

theorem State.withTube_tidy (s : State) (i : Byte) {f : Tube → TubeAssign → Reply}
    (h : ∀ x a, s.Tidy o (f x a).state) : s.Tidy o (s.withTube i f).state := by
  unfold State.withTube
  split
  · split
    · exact h _ _
    · exact .refl s
  · exact .refl s

theorem State.setCount_tidy (s : State) (i : Byte) (n : Half) : s.Tidy o (s.setCount i n).state := by
  refine s.withTube_tidy i fun _ _ => ?_
  split
  · exact .refl s
  · split
    · exact .refl s
    · split
      · exact .refl s
      · exact s.editTube_tubesChanged_tidy _ _

theorem State.setTubeState_tidy (s : State) (i : Byte) (x : TubeState) : s.Tidy o (s.setTubeState i x).state := by
  refine s.withTube_tidy i fun _ _ => ?_
  split
  · exact .refl s
  · exact s.editTube_tubesChanged_tidy _ _

/-- Each mapping dropped raises its notice (R74, R80). -/
theorem dropMappings_tidy (only : Option Nat) (k : Nat) (cs : List CoinClass) (s : State) :
    s.Tidy o (dropMappings only k cs s) := by
  induction cs generalizing k s with
  | nil => exact .refl s
  | cons c rest ih =>
    rcases dropMappings_cons_matched only k c rest s with ⟨-, step⟩ | ⟨i, -, step⟩ <;> rw [step]
    · exact ih _ s
    · have unmapped : s.Tidy o (s.unmapped k i) := (State.raiseTube_tidy _ _ _ _).after
      exact unmapped.trans (ih _ _)

theorem State.defineTube_tidy (s : State) (i : Byte) (d : Half) (c l : Byte) :
    s.Tidy o (s.defineTube i d c l).state := by
  unfold State.defineTube
  split
  · exact .refl s
  · dsimp only
    split
    · exact .refl s
    · split
      · exact .refl s
      · split
        · exact .refl s
        · exact (dropMappings_tidy _ _ _ _).after.trans (State.tubesChanged_tidy _)

theorem State.takeSetup_tidy (s : State) (p : Peripheral) (vs : List Nat) : s.Tidy o (s.takeSetup p vs) := by
  have written : s.Tidy o (s.setupWritten p vs) := by
    cases p with
    | coin => exact (dropMappings_tidy _ _ _ _).after
    | bill => exact .of_same
  rw [State.takeSetup_eq]
  exact (written.trans (State.updateRoute_tidy _)).trans (State.updateMasks_tidy _)

theorem State.setClass_tidy (s : State) (cls : Byte) (enabled : Bool) (tube : Option Byte) :
    s.Tidy o (s.setClass cls enabled tube).state := by
  unfold State.setClass
  split
  · exact .refl s
  · dsimp only
    split
    · exact .refl s
    · exact (State.updateRoute_tidy _).after.trans (State.updateMasks_tidy _)

theorem State.setBill_tidy (s : State) (cls : Byte) (enabled : Bool) : s.Tidy o (s.setBill cls enabled).state := by
  unfold State.setBill
  split
  · exact .refl s
  · exact (State.updateMasks_tidy _).after

theorem State.setProbes_tidy (s : State) (p1 p2 p3 p4 : Half) : s.Tidy o (s.setProbes p1 p2 p3 p4).state :=
  (State.evalExact_tidy _).after

theorem State.changeDoor_tidy (s : State) (isOpen : Bool) : s.Tidy o (s.changeDoor isOpen) := by
  by_cases change : s.hli.doorOpen = isOpen
  · rw [State.changeDoor, if_pos change]
    exact .refl s
  · rw [State.changeDoor_of_change change]
    have read : s.Tidy o (s.doorRead isOpen) := .of_cbm rfl (State.raise_noticeLaw _)
    exact read.trans (State.updateMasks_tidy _)

theorem State.clearTotals_tidy (s : State) : s.Tidy o s.clearTotals.state := by
  unfold State.clearTotals
  split <;> exact .of_same

/-! ### Payouts (R97 to R107) -/

theorem State.creditOrIdle_tidy (s : State) : s.Tidy o s.creditOrIdle := by
  obtain ⟨_, h⟩ := s.creditOrIdle_frame
  exact .of_frame h

theorem State.pulse_tidy (s : State) : s.Tidy o s.pulse := by
  obtain ⟨_, h⟩ := s.pulse_frame
  exact .of_frame h

theorem State.endPayout_tidy (s : State) (keep : Bool) : s.Tidy o (s.endPayout keep) := by
  unfold State.endPayout
  dsimp only
  split
  · exact ((State.raise_tidy _ _).trans (State.evalExact_tidy _)).after
  · exact (((State.release_tidy _ _).trans (State.raise_tidy _ _)).trans (State.evalExact_tidy _)).after

theorem State.endChange_tidy (s : State) : s.Tidy o s.endChange :=
  (s.endPayout_tidy false).trans (State.creditOrIdle_tidy _)

theorem State.startChange_tidy (s : State) (n : Nat) (granted : Bool) : s.Tidy o (s.startChange n granted) := by
  unfold State.startChange
  dsimp only
  split
  · exact (State.endChange_tidy _).after
  · split
    · exact (State.pulse_tidy _).after
    · exact (State.request_tidy _ _ _).after

theorem State.startService_tidy (s : State) (i d n count : Nat) : s.Tidy o (s.startService i d n count) := by
  unfold State.startService
  dsimp only
  split
  · exact (State.endPayout_tidy _ false).after
  · exact (State.request_tidy _ _ _).after

theorem State.payoutTest_tidy (s : State) (i n : Byte) : s.Tidy o (s.payoutTest i n).state := by
  refine s.withTube_tidy i fun _ _ => ?_
  split
  · exact .refl s
  · split
    · exact .refl s
    · split
      · exact .refl s
      · exact s.startService_tidy _ _ _ _

theorem State.finishPayout_tidy (s : State) : s.Tidy o s.finishPayout := by
  unfold State.finishPayout
  split
  · exact s.endChange_tidy
  · split
    · exact (s.endPayout_tidy true).trans (State.startChange_tidy _ _ _)
    · exact s.endPayout_tidy false

theorem State.markJammed_tidy (s : State) (i : Nat) : s.Tidy o (s.markJammed i) :=
  (State.raiseTube_tidy _ i .jammed none).after.trans (State.updateRoute_tidy _)

theorem State.replan_tidy (s : State) : s.Tidy o s.replan := by
  unfold State.replan
  dsimp only
  split
  · exact (State.endChange_tidy _).after
  · exact (State.pulse_tidy _).after

theorem State.windowEnds_tidy (s : State) (i : Nat) : s.Tidy o (s.windowEnds i) := by
  unfold State.windowEnds
  dsimp only
  split
  · split
    · exact (State.finishPayout_tidy _).after
    · exact (State.pulse_tidy _).after
  · split
    · split
      · exact s.finishPayout_tidy
      · exact (State.pulse_tidy _).after
    · unfold State.jamTube
      dsimp only
      split
      · exact (s.markJammed_tidy i).trans (State.replan_tidy _)
      · exact (s.markJammed_tidy i).trans (State.finishPayout_tidy _)

theorem State.stopPayout_tidy (s : State) : s.Tidy o s.stopPayout := by
  unfold State.stopPayout
  split
  · exact .refl s
  · split
    · exact s.endChange_tidy
    · split
      · exact s.endChange_tidy
      · exact s.endPayout_tidy false

theorem State.takePayout_tidy (s : State) : s.Tidy o s.takePayout := by
  refine s.takeGrant_tidy .payout fun x => ?_
  split
  · exact (State.pulse_tidy _).after
  · exact .refl x
  · exact x.release_tidy _

theorem State.exitCount_tidy (s : State) : s.Tidy o s.exitCount := by
  unfold State.exitCount
  split
  · unfold State.countInWindow State.confirmCoin
    dsimp only
    split
    · split
      · split <;> exact (State.updateRoute_tidy _).after
      · exact (State.updateRoute_tidy _).after
    · exact (State.updateRoute_tidy _).after
  · unfold State.lateCount
    split
    · split
      · split
        · exact (State.tubesChanged_tidy _).after
        · exact .refl s
      · exact .refl s
    · exact .refl s

/-! ### The session (R32 to R47) -/

theorem State.restartInactivity_tidy (s : State) : s.Tidy o s.restartInactivity := by
  unfold State.restartInactivity
  split
  · exact .of_same
  · exact .refl s

theorem State.inactivityWritten_tidy (s : State) : s.Tidy o s.inactivityWritten := by
  unfold State.inactivityWritten
  split
  · exact .of_same
  · exact .refl s

theorem State.payCredit_tidy (s : State) : s.Tidy o s.payCredit := by
  unfold State.payCredit
  dsimp only
  split
  · exact s.startChange_tidy _ false
  · exact (s.endPayout_tidy false).trans (State.startChange_tidy _ _ false)
  · exact .of_same

theorem State.payOrIdle_tidy (s : State) : s.Tidy o s.payOrIdle := by
  unfold State.payOrIdle
  split
  · exact .of_same
  · exact (State.payCredit_tidy _).after

theorem State.settle_tidy (s : State) (charged : Nat) : s.Tidy o (s.settle charged) :=
  (s.raise_tidy _).then.trans (State.payOrIdle_tidy _)

theorem State.escrowGivenUp_tidy (s : State) (r : BillReason) : s.Tidy o (s.escrowGivenUp r) := by
  unfold State.escrowGivenUp
  split
  · exact s.handEscrowReturn_tidy.then.trans (State.raise_tidy _ _)
  · exact .refl s

theorem State.cancelSession_tidy (s : State) (r : BillReason) : s.Tidy o (s.cancelSession r) := by
  have paid : s.Tidy o (s.escrowGivenUp r).payOrIdle := (s.escrowGivenUp_tidy r).trans (State.payOrIdle_tidy _)
  have cancelled : s.cancelSession r =
      if (s.escrowGivenUp r).payOrIdle.sesc.view = s.sesc.view then (s.escrowGivenUp r).payOrIdle.noteSession
      else (s.escrowGivenUp r).payOrIdle := rfl
  rw [cancelled]
  split
  · exact paid.trans (State.noteSession_tidy _)
  · exact paid

theorem State.timeOut_tidy (s : State) : s.Tidy o s.timeOut := by
  unfold State.timeOut
  split
  · exact s.cancelSession_tidy _
  · exact s.settle_tidy 0
  · exact .refl s

theorem State.cancelRequest_tidy (s : State) : s.Tidy o s.cancelRequest.state := by
  unfold State.cancelRequest
  split
  · exact .refl s
  · exact s.restartInactivity_tidy
  · exact s.cancelSession_tidy _
  · exact .refl s

theorem State.cashlessOpenRequest_tidy (s : State) (n : Half) : s.Tidy o (s.cashlessOpenRequest n).state := by
  unfold State.cashlessOpenRequest
  split
  · exact .refl s
  · split <;> exact .of_same

theorem State.cashlessCloseRequest_tidy (s : State) : s.Tidy o s.cashlessCloseRequest.state := by
  unfold State.cashlessCloseRequest
  split
  · exact s.settle_tidy 0
  · split <;> exact .refl s

theorem State.takeHead_tidy (s : State) : s.Tidy o s.takeHead := by
  obtain ⟨_, _, _, _, h⟩ := s.takeHead_frame
  exact .of_frame h

theorem State.acceptVend_tidy (s : State) (v : PendingVend) : s.Tidy o (s.acceptVend v) := by
  unfold State.acceptVend
  dsimp only
  split
  · exact (State.handEscrowStack_tidy _).after
  · exact (State.takeHead_tidy _).after

theorem State.refuseVend_tidy (s : State) (st : Status) (body : List Field) :
    s.Tidy o (s.refuseVend st body).state := by
  unfold State.refuseVend
  dsimp only
  split
  · exact s.restartInactivity_tidy
  · exact .refl s

theorem State.vendFrom_tidy (s : State) (r : Selection) : s.Tidy o (s.vendFrom r).state := by
  unfold State.vendFrom
  dsimp only
  split
  · exact s.refuseVend_tidy _ _
  · split
    · exact s.refuseVend_tidy _ _
    · split
      · exact s.refuseVend_tidy _ _
      · split
        · exact s.acceptVend_tidy _
        · exact s.refuseVend_tidy _ _

theorem State.vendRequest_tidy (s : State) (code : Half) : s.Tidy o (s.vendRequest code).state := by
  unfold State.vendRequest
  split
  · exact s.refuseVend_tidy _ _
  · split
    · exact s.refuseVend_tidy _ _
    · split
      · exact s.refuseVend_tidy _ _
      · exact s.vendFrom_tidy _
      · exact s.vendFrom_tidy _
      · exact s.refuseVend_tidy _ _

/-! ### The outcome of a vend (R39 to R42) -/

theorem State.reportVend_tidy (s : State) (v : PendingVend) (out : VendOutcome) (charged : Nat) :
    s.Tidy o (s.reportVend v out charged) := (State.raise_tidy _ _).after

theorem State.vendDelivered_tidy (s : State) (v : PendingVend) : s.Tidy o (s.vendDelivered v) := by
  unfold State.vendDelivered
  split
  · have charged : s.Tidy o (s.charged v) := (State.reportVend_tidy _ _ _ _).after
    dsimp only
    split
    · exact charged.trans (State.creditOrIdle_tidy _)
    · exact charged.trans (State.payOrIdle_tidy _)
  · exact (State.reportVend_tidy _ _ _ _).after.trans (State.settle_tidy _ _)

theorem State.vendFailed_tidy (s : State) (v : PendingVend) (out : DriveOutcome) : s.Tidy o (s.vendFailed v out) := by
  have reported : s.Tidy o (s.reportVend v (.drive out) 0) := s.reportVend_tidy _ _ _
  unfold State.vendFailed
  dsimp only
  split
  · exact reported.then
  · exact reported.trans (State.settle_tidy _ 0)

theorem State.vendJammed_tidy (s : State) (v : PendingVend) (out : DriveOutcome) : s.Tidy o (s.vendJammed v out) := by
  unfold State.vendJammed
  split
  · exact .of_same
  · exact s.vendFailed_tidy v out

theorem State.takeVendOutcome_tidy (s : State) (out : DriveOutcome) : s.Tidy o (s.takeVendOutcome out) := by
  cases pending : s.sesc.pendingVend with
  | none =>
    simp only [State.takeVendOutcome, pending]
    exact .refl s
  | some v =>
    cases out <;> simp only [State.takeVendOutcome, pending]
    case delivered => exact (State.vendDelivered_tidy _ v).after
    case jammed | openMotor | noDrop => exact (State.vendJammed_tidy _ v _).after
    case noPower | interrupted => exact (State.vendFailed_tidy _ v _).after

theorem State.handOutcome_tidy (s : State) (e : DriveEntry) (out : DriveOutcome) : s.Tidy o (s.handOutcome e out) := by
  unfold State.handOutcome
  split
  · exact s.takeVendOutcome_tidy out
  · rw [State.seltTest_frame]
    exact (State.raise_tidy _ _).after

/-! ### Drive work (R52 to R71) -/

theorem State.enterAwaitPower_tidy (s : State) (u : DriveUnit) : s.Tidy o (s.enterAwaitPower u) := by
  obtain ⟨_, _, _, _, h⟩ := s.enterAwaitPower_frame u
  exact .of_frame h

theorem State.deenergize_tidy (s : State) : s.Tidy o s.deenergize := by
  obtain ⟨_, _, _, _, _, h⟩ := s.deenergize_frame
  exact .of_frame h

theorem State.enterSettling_tidy (s : State) : s.Tidy o s.enterSettling := s.deenergize_tidy.then

theorem State.entryGone_tidy (s : State) (rest : List DriveEntry) : s.Tidy o (s.entryGone rest) :=
  s.deenergize_tidy.then

theorem State.endEntry_tidy (s : State) (out : DriveOutcome) : s.Tidy o (s.endEntry out) := by
  cases list : s.sdc.list with
  | nil =>
    simp only [State.endEntry, list]
    exact .refl s
  | cons e rest =>
    rw [State.endEntry_of_list out list]
    exact ((s.entryGone_tidy rest).trans (State.handOutcome_tidy _ e out)).then.trans (State.takeHead_tidy _)

theorem State.dropEvent_tidy (s : State) : s.Tidy o s.dropEvent := by
  unfold State.dropEvent
  split
  case h_1 | h_2 => exact .of_same
  case h_3 => exact s.endEntry_tidy _
  case h_4 | h_5 => exact s.raise_tidy _

theorem State.revolution_tidy (s : State) : s.Tidy o s.revolution := by
  unfold State.revolution
  split
  · exact .refl s
  · dsimp only
    split
    · exact (State.endEntry_tidy _ _).after
    · split
      · exact .of_same
      · exact (State.enterSettling_tidy _).after

theorem State.settleEnds_tidy (s : State) : s.Tidy o s.settleEnds := by
  unfold State.settleEnds
  split
  · exact .refl s
  · dsimp only
    split
    · exact (State.enterAwaitPower_tidy _ _).after
    · exact s.endEntry_tidy _

theorem State.takeSample_tidy (s : State) (u : DriveUnit) (i : Nat) : s.Tidy o (s.takeSample u i) := by
  rw [State.takeSample_eq]
  split
  · exact (State.endEntry_tidy _ _).after
  · split
    · exact (State.endEntry_tidy _ _).after
    · exact .of_same

theorem dropPendingEntries_tidy (es : List DriveEntry) (s : State) : s.Tidy o (dropPendingEntries es s) := by
  induction es generalizing s with
  | nil => exact .refl s
  | cons e es ih => exact (s.handOutcome_tidy e .noPower).trans (ih _)

theorem State.stopDrive_tidy (s : State) : s.Tidy o s.stopDrive := by
  unfold State.stopDrive
  split
  · exact .refl s
  · next e rest _ =>
    have gone := s.entryGone_tidy (o := o) []
    dsimp only
    split
    · exact ((gone.trans (State.handOutcome_tidy _ e _)).trans (dropPendingEntries_tidy rest _)).then
    · exact (gone.trans (dropPendingEntries_tidy (e :: rest) _)).then

theorem State.curtainBegins_tidy (s : State) : s.Tidy o s.curtainBegins := by
  unfold State.curtainBegins
  split
  · exact (State.dropEvent_tidy _).after
  · exact .refl s

theorem State.takeSpiral_tidy (s : State) (homeOpen : Bool) : s.Tidy o (s.takeSpiral homeOpen) := by
  refine s.takeGrant_tidy .spiral fun x => ?_
  split
  · exact .of_same
  · exact .refl x
  · exact .refl x
  · exact x.release_tidy _

theorem State.testRequest_tidy (s : State) (row col : Nat) : s.Tidy o (s.testRequest row col).state := by
  unfold State.testRequest
  split
  · exact .refl s
  · split
    · exact .refl s
    · split
      · exact .refl s
      · exact (State.takeHead_tidy _).after

theorem State.warnBlocks_tidy (s : State) : s.Tidy o s.warnBlocks := by
  have warned : s.Tidy o s.warned := (State.setBand_tidy _ _).after.trans (State.grantPass_tidy _)
  exact ((warned.trans (State.stopDrive_tidy _)).trans (State.stopPayout_tidy _)).trans (State.stopMove_tidy _)

/-! ### Escrow and coins (R29 to R37, R86, R87) -/

theorem State.loseEscrow_tidy (s : State) (r : BillReason) : s.Tidy o (s.loseEscrow r) := by
  unfold State.loseEscrow
  dsimp only
  split
  · exact (State.raise_tidy _ _).after.then
  · exact (State.raise_tidy _ _).after

theorem State.stackFails_tidy (s : State) (r : BillReason) : s.Tidy o (s.stackFails r) := by
  have escrow : s.Tidy o (s.escrowGone r) := (State.raise_tidy _ _).after
  have gone : s.Tidy o (s.stackGone r) := by
    unfold State.stackGone
    split
    · exact escrow.trans (State.reportVend_tidy _ _ _ _)
    · exact escrow
  exact gone.trans (State.creditOrIdle_tidy _)

theorem State.billLost_tidy (s : State) : s.Tidy o s.billLost := by
  unfold State.billLost
  split
  · exact s.stackFails_tidy _
  · split
    · exact s.loseEscrow_tidy _
    · exact .refl s

theorem State.billReturned_tidy (s : State) : s.Tidy o s.billReturned := by
  unfold State.billReturned
  split
  · exact s.stackFails_tidy _
  · split
    · exact s.loseEscrow_tidy _
    · exact .refl s

theorem State.billEscrowed_tidy (s : State) (cls : Nat) : s.Tidy o (s.billEscrowed cls) := by
  unfold State.billEscrowed
  split
  · exact .refl s
  · split
    · next r _ =>
      have returned : s.Tidy o (s.handEscrowReturn.raise (.bill r)) :=
        s.handEscrowReturn_tidy.trans (State.raise_tidy _ _)
      unfold State.sendBack
      dsimp only
      split
      · exact returned.trans (State.restartInactivity_tidy _)
      · exact returned
    · unfold State.keepBill
      dsimp only
      split
      · exact .of_same
      · exact (State.restartInactivity_tidy _).after

theorem State.billStacked_tidy (s : State) : s.Tidy o s.billStacked := by
  unfold State.billStacked
  split
  · dsimp only
    split
    · exact (State.takeHead_tidy _).after
    · exact .of_same
  · exact s.raise_tidy _

theorem State.coinPhase_tidy (s : State) : s.Tidy o s.coinPhase := by
  unfold State.coinPhase
  split
  · exact .of_same
  · exact s.restartInactivity_tidy
  · exact s.restartInactivity_tidy
  · exact .refl s

theorem State.coinAccepted_tidy (s : State) (cls : Nat) (toTube : Bool) : s.Tidy o (s.coinAccepted cls toTube) := by
  unfold State.coinAccepted
  split
  · exact .refl s
  · split
    · exact .refl s
    · exact (s.countCoin_tidy _ toTube).then.trans (State.coinPhase_tidy _)

end Sys2Proof.Machine
end

section
/-! SUPPORT. The exchanges of the Cash Bus keep the law of its records: what writes a pending set, an outstanding frame
or the stack watch is of a peripheral that is ONLINE, and an idle bus is left with no late slot (R113 to R128). -/

namespace Sys2Proof.Machine

-- One proof at a time: the whole text is one process, under a memory limit that counts every thread of Lean.
set_option Elab.async false

variable {s t : State} {o : Option Peripheral} {p : Peripheral}

/-! ### The bus and its slots (R113, R123) -/

/-- A step that leaves the records and the notices. -/
theorem State.Tidy.of_records (periph : ∀ p, t.periph p = s.periph p)
    (late : (s.cbm.bus = .idle → s.cbm.late = []) → t.cbm.bus = .idle → t.cbm.late = [])
    (notices : t.hli.notices = s.hli.notices := by rfl) : s.Tidy o t :=
  ⟨fun law => ⟨fun p => periph p ▸ law.records p, periph .coin ▸ law.coin,
    fun p named => periph p ▸ law.online p named⟩, late, by unfold NoticeLaw; rw [notices]; exact id⟩

theorem State.setBus_tidy (s : State) {b : Bus} (busy : b ≠ .idle) : s.Tidy o (s.setBus b) :=
  .of_records (fun _ => rfl) fun _ idle => absurd idle busy

/-- A command sent anew goes from its slot to the outstanding frame, at attempt 1 (R122, R123). -/
theorem State.sendNew_tidy (s : State) (m : Message) {f : PendingSet → PendingSet}
    (online : (s.periph p).link = .online) (escrow : ∀ q, q.escrow = none → (f q).escrow = none) :
    s.Tidy o (s.sendNew p m f) := by
  have sent : s.Tidy o (s.setPeriph p { s.periph p with
      pending := f (s.periph p).pending, outstanding := some ⟨m, 1⟩ }) := by
    refine s.setPeriph_tidy p (fun law => ⟨fun off => absurd online off, fun a sent => ?_⟩) (fun law coin => ?_)
      fun law _ => online
    · cases sent
      exact ⟨le_rfl, Nat.le_add_left 1 2⟩
    · subst coin
      exact escrow _ law.coin
  exact sent.trans (State.setBus_tidy _ Bus.noConfusion)

theorem State.serveNew_tidy (s : State) (online : (s.periph p).link = .online) : s.Tidy o (s.serveNew p) := by
  unfold State.serveNew
  dsimp only
  split
  · exact s.sendNew_tidy _ online fun _ none => none
  · split
    · exact s.sendNew_tidy _ online fun _ _ => rfl
    · exact s.sendNew_tidy _ online fun _ _ => rfl
    · split
      · exact s.sendNew_tidy _ online fun _ none => none
      · split <;> exact s.sendNew_tidy _ online fun _ none => none

theorem State.serve_tidy (s : State) (p : Peripheral) : s.Tidy o (s.serve p) := by
  unfold State.serve
  split
  · next online =>
    split
    · exact s.setBus_tidy Bus.noConfusion
    · exact s.serveNew_tidy online
  · split
    · exact s.setBus_tidy Bus.noConfusion
    · exact .refl s

/-- The late slots are served until one starts an exchange, or none is left. -/
theorem serveLate_late (ps : List Peripheral) (s : State) (idle : (serveLate ps s).cbm.bus = .idle) :
    (serveLate ps s).cbm.late = [] := by
  induction ps generalizing s with
  | nil => rfl
  | cons p ps ih =>
    simp only [serveLate] at idle ⊢
    split at idle
    · next free =>
      rw [if_pos free]
      exact ih _ idle
    · next busy => exact absurd idle busy

theorem serveLate_tidy (ps : List Peripheral) (s : State) : s.Tidy o (serveLate ps s) := by
  induction ps generalizing s with
  | nil => exact .of_records (fun _ => rfl) fun _ _ => rfl
  | cons p ps ih =>
    simp only [serveLate]
    split
    · exact (s.serve_tidy p).trans (ih _)
    · next busy => exact (s.serve_tidy p).trans (.of_records (fun _ => rfl) fun _ idle => absurd idle busy)

theorem State.endExchange_tidy (s : State) : s.Tidy o s.endExchange := by
  have served := serveLate_tidy (o := o) (s.setBus .idle).cbm.late (s.setBus .idle)
  exact ⟨fun law => served.recorded ⟨law.records, law.coin, law.online⟩, fun _ => serveLate_late _ _, served.notices⟩

theorem State.openSlot_tidy (s : State) : s.Tidy o s.openSlot := by
  unfold State.openSlot
  dsimp only
  split
  · have moved : s.Tidy o { s with cbm := { s.cbm with
        slotLeft := slotMs, nextSlot := otherPeriph s.cbm.nextSlot } } := .of_records (fun _ => rfl) id
    exact moved.trans (State.serve_tidy _ _)
  · next busy => exact .of_records (fun _ => rfl) fun _ idle => absurd idle busy

theorem State.frameSent_tidy (s : State) : s.Tidy o s.frameSent := by
  unfold State.frameSent
  split
  · exact s.setBus_tidy Bus.noConfusion
  · exact .refl s

theorem State.confirmed_tidy (s : State) : s.Tidy o s.confirmed := by
  unfold State.confirmed
  split
  · exact s.endExchange_tidy
  · exact .refl s

theorem State.busReset_tidy (s : State) (address : Byte) : s.Tidy o (s.busReset address).state := by
  unfold State.busReset
  split
  · exact .refl s
  · split
    · next p _ online =>
      exact s.editPending_tidy p (f := fun q => { q with reset := true }) (fun _ => online) fun _ _ none => none
    · next p _ _ => exact s.editPeriph_tidy p (f := fun r => { r with probeTime := 0 })

/-! ### A failed attempt (R124, R126) -/

theorem State.validatorGone_tidy (s : State) (p : Peripheral) : s.Tidy o (s.validatorGone p) := by
  cases p with
  | coin => exact .refl s
  | bill => exact s.billLost_tidy

theorem State.goOffline_tidy (s : State) (p : Peripheral) : s.Tidy none (s.goOffline p) := by
  have gone : s.Tidy none (s.editPeriph p PeriphRec.gone) :=
    s.setPeriph_tidy p (fun _ => ⟨fun _ => ⟨rfl, rfl, rfl⟩, fun _ sent => by cases sent⟩) (fun _ _ => rfl)
      fun _ named => by cases named
  rw [State.goOffline_eq]
  exact (gone.trans (State.raise_tidy _ _)).trans (State.validatorGone_tidy _ p)

theorem State.attemptFails_tidy (s : State) (p : Peripheral) : s.Tidy none (s.attemptFails p) := by
  cases out : (s.periph p).outstanding with
  | none =>
    simp only [State.attemptFails, out]
    exact .refl s
  | some a =>
    by_cases more : a.attempt < 3
    · rw [State.attemptFails_again out more]
      refine s.setPeriph_tidy p (fun law => ⟨fun off => ?_, fun b sent => ?_⟩) (fun law coin => ?_) fun _ named => ?_
      · obtain ⟨-, none, -⟩ := (law.records p).offline off
        rw [out] at none
        cases none
      · cases sent
        exact ⟨Nat.le_add_left 1 _, more⟩
      · subst coin
        exact law.coin
      · cases named
    · rw [State.attemptFails_last out (not_lt.1 more)]
      exact s.goOffline_tidy p

theorem State.probeFails_tidy (s : State) (p : Peripheral) : s.Tidy none (s.probeFails p) := by
  by_cases unknown : (s.periph p).link = .unknown
  · rw [State.probeFails_of_unknown unknown]
    have offline : s.Tidy none (s.setPeriph p { s.periph p with link := .offline, probeTime := 2000 }) := by
      refine s.setPeriph_tidy p (fun law => ⟨fun _ => ?_, (law.records p).attempts⟩) (fun law coin => ?_)
        fun _ named => by cases named
      · exact (law.records p).offline (by rw [unknown]; exact LinkState.noConfusion)
      · subst coin
        exact law.coin
    exact offline.trans (State.raise_tidy _ _)
  · rw [State.probeFails, if_neg unknown]
    exact s.editPeriph_tidy p

theorem State.exchangeFails_tidy (s : State) (p : Peripheral) (probe : Bool) :
    s.Tidy none (s.exchangeFails p probe) := by
  unfold State.exchangeFails
  split
  · exact s.probeFails_tidy p
  · exact s.attemptFails_tidy p

/-! ### ACK (R117, R125, R126) -/

theorem State.queueSetup_tidy (s : State) (p : Peripheral) : s.Tidy (some p) (s.queueSetup p) := by
  cases p with
  | coin =>
    exact (State.editPending_tidy ((s.noteMap s.routeMap).noteMask .coin (s.maskOf .coin)) .coin
      (f := fun q => { q with
        setup := true, routeMap := some s.routeMap, acceptMask := some (s.maskOf .coin) })
      (fun law => law.online _ rfl) fun _ _ none => none).after
  | bill =>
    exact (State.editPending_tidy (s.noteMask .bill (s.maskOf .bill)) .bill
      (f := fun q => { q with setup := true, acceptMask := some (s.maskOf .bill) })
      (fun law => law.online _ rfl) fun h => by cases h).after

/-- The ACK of a probe makes the peripheral ONLINE, and then queues its set-up (R126). -/
theorem State.comeOnline_tidy (s : State) (p : Peripheral) : s.Tidy none (s.comeOnline p) := by
  have online : s.Tidy none (s.editPeriph p fun r => { r with link := .online }) := by
    refine s.setPeriph_tidy p (fun law => ⟨fun off => absurd rfl off, (law.records p).attempts⟩) (fun law coin => ?_)
      fun _ named => by cases named
    subst coin
    exact law.coin
  have queued := ((State.queueSetup_tidy (s.editPeriph p fun r => { r with link := .online }) p).trans
    (State.editPeriph_tidy _ p (f := fun r => { r with resetExpected := true }))).trans
      (State.raise_tidy _ (.peripheral p true 0))
  exact online.trans (queued.of_online fun _ => by rw [State.editPeriph, State.periph_setPeriph_self])

theorem State.resetAcked_tidy (s : State) (p : Peripheral) : s.Tidy (some p) (s.resetAcked p) := by
  have emptied : s.Tidy (some p) (s.editPeriph p fun r => { r with pending := PendingSet.empty }) :=
    s.setPeriph_tidy p (fun law => ⟨fun off => absurd (law.online p rfl) off, (law.records p).attempts⟩)
      (fun _ _ => rfl) fun law named => law.online p named
  exact ((emptied.trans (State.queueSetup_tidy _ p)).trans (State.editPeriph_tidy _ p)).trans
    (State.validatorGone_tidy _ p)

theorem State.commandAcked_tidy (s : State) (m : Message) (out : (s.periph p).outstanding ≠ none) :
    s.Tidy none (s.commandAcked p m) := by
  have ended : s.Tidy (some p) (s.editPeriph p fun r => { r with outstanding := none }) := s.editPeriph_tidy p
  refine State.Tidy.of_online (p := p) ?_ fun law => law.online_of_outstanding out
  cases m
  case reset => exact ended.trans (State.resetAcked_tidy _ p)
  case escrowStack =>
    refine ended.trans (State.setPeriph_tidy _ p (fun law => ⟨fun off => absurd (law.online p rfl) off,
      (law.records p).attempts⟩) (fun law coin => ?_) fun law named => law.online p named)
    subst coin
    exact law.coin
  all_goals exact ended

/-! ### The events of a POLL reply (R120, R127, R128) -/

theorem State.deviceFault_tidy (s : State) (p : Peripheral) (code : Nat) : s.Tidy o (s.deviceFault p code) := by
  have noted : s.Tidy o ((s.editPeriph p fun r => { r with lastFault := code, stackWatch := none }).raise
    (.peripheral p true code)) := (s.editPeriph_tidy p).trans (State.raise_tidy _ _)
  unfold State.deviceFault
  dsimp only
  split
  · exact noted
  · split
    · exact noted.trans (State.stackFails_tidy _ _)
    · exact noted

theorem State.justReset_tidy (s : State) (p : Peripheral) : s.Tidy (some p) (s.justReset p) := by
  unfold State.justReset
  split
  · exact .refl s
  · have emptied : s.Tidy (some p) (s.editPending p fun q => { q with escrow := none }) :=
      s.editPending_tidy p (fun law => law.online p rfl) fun _ _ _ => rfl
    exact (((emptied.trans (State.queueSetup_tidy _ p)).trans (State.editPeriph_tidy _ p)).trans
      (State.raise_tidy _ _)).trans (State.validatorGone_tidy _ p)

theorem State.busEvent_tidy (s : State) (p : Peripheral) (e : BusEvent) : s.Tidy (some p) (s.busEvent p e) := by
  have watch (o : Option Peripheral) : s.Tidy o s.stopWatch := s.editPeriph_tidy .bill
  cases e with
  | deviceFault code =>
    have fault := s.deviceFault_tidy (o := some p) p code
    cases p <;> exact fault
  | justReset =>
    have restart := s.justReset_tidy p
    cases p <;> exact restart
  | coinRejected => cases p <;> exact .refl s
  | coinAccepted cls toTube =>
    cases p
    · exact s.coinAccepted_tidy cls toTube
    · exact .refl s
  | billEscrowed cls =>
    cases p
    · exact .refl s
    · exact s.billEscrowed_tidy cls
  | billStacked =>
    cases p
    · exact .refl s
    · exact (watch _).trans (State.billStacked_tidy _)
  | billReturned =>
    cases p
    · exact .refl s
    · exact (watch _).trans (State.billReturned_tidy _)

theorem busEvents_tidy (p : Peripheral) (es : List BusEvent) (s : State) : s.Tidy (some p) (busEvents p es s) := by
  induction es generalizing s with
  | nil => exact .refl s
  | cons e es ih => exact ((s.busEvent_tidy p e).trans (State.closeEvent_tidy _ _)).trans (ih _)

/-- A data reply is taken while its frame is outstanding, so its peripheral is ONLINE (R118, R119). -/
theorem State.pollBegun_tidy (s : State) (p : Peripheral) : s.Tidy o (s.pollBegun p) :=
  (s.editPeriph_tidy p).trans (State.setBus_tidy _ Bus.noConfusion)

theorem State.pollTaken_tidy (s : State) (es : List BusEvent) (out : (s.periph p).outstanding ≠ none) :
    s.Tidy none (s.pollTaken p es) :=
  State.Tidy.of_online (p := p) (((s.pollBegun_tidy p).trans (busEvents_tidy p es _)).trans
    (State.editPeriph_tidy _ p (f := fun r => { r with resetExpected := false })))
      fun law => law.online_of_outstanding out

theorem State.setupTaken_tidy (s : State) (p : Peripheral) (vs : List Nat) : s.Tidy none (s.setupTaken p vs) :=
  (s.pollBegun_tidy p).trans (State.takeSetup_tidy _ p vs)

/-! ### The end of an exchange -/

theorem State.closeExchange_tidy {f : State → State} (h : s.Tidy none (f s)) : s.Tidy none (s.closeExchange f) :=
  (h.trans (State.closeEvent_tidy _ _)).trans (State.endExchange_tidy _)

theorem State.replyFails_tidy (s : State) : s.Tidy none s.replyFails := by
  unfold State.replyFails
  split
  · exact State.closeExchange_tidy (s.exchangeFails_tidy _ _)
  · exact .refl s

theorem State.replyAck_tidy (s : State) : s.Tidy none s.replyAck := by
  unfold State.replyAck
  split
  · refine State.closeExchange_tidy ?_
    split
    · exact s.comeOnline_tidy _
    · split
      · exact .refl s
      · next out =>
        split
        · exact s.commandAcked_tidy _ out
        · exact s.attemptFails_tidy _
  · exact .refl s

theorem State.replySetup_tidy (s : State) (chars : List Byte) : s.Tidy none (s.replySetup chars) := by
  unfold State.replySetup
  split
  · split
    · split
      · exact s.setupTaken_tidy _ _
      · exact s.replyFails_tidy
    · exact s.replyFails_tidy
  · exact .refl s

theorem State.replyPoll_tidy (s : State) (chars : List Byte) : s.Tidy none (s.replyPoll chars) := by
  unfold State.replyPoll
  split
  · split
    · next asked =>
      obtain ⟨-, -, out⟩ := asked
      split
      · exact s.pollTaken_tidy _ (Option.isSome_iff_ne_none.1 out)
      · exact s.replyFails_tidy
    · exact s.replyFails_tidy
  · exact .refl s

end Sys2Proof.Machine
end

section
/-! SUPPORT. Every command keeps the laws of the Cash Bus and of the notice set, or starts the part anew (R122 to R124,
R198, R206); the image while a save is under way (R202). -/

namespace Sys2Proof.Machine

-- One proof at a time: the whole text is one process, under a memory limit that counts every thread of Lean.
set_option Elab.async false

variable {s t : State}

/-! ### The requests of the other blocks -/

theorem State.withSel_tidy (s : State) (code : Half) {f : Selection → Reply}
    (h : ∀ r, s.Tidy none (f r).state) : s.Tidy none (s.withSel code f).state := by
  rcases s.withSel_cases code f with ⟨-, e⟩ | ⟨r, -, e⟩ <;> rw [e]
  · exact .refl s
  · exact h r

theorem State.withPosition_tidy (s : State) (code : Half) (index : Byte) (ok : Bool)
    {f : Position → Reply} (h : ∀ p, s.Tidy none (f p).state) :
    s.Tidy none (s.withPosition code index ok f).state := by
  rcases s.withPosition_cases code index ok f with ⟨st, e⟩ | ⟨r, p, -, -, e⟩ <;> rw [e]
  · exact .refl s
  · exact h p

theorem State.findSelection_tidy (s : State) (code : Half) : s.Tidy none (s.findSelection code).state := by
  unfold State.findSelection
  split
  · exact s.withSel_tidy code fun _ => .refl s
  · exact .refl s

theorem State.nextSelections_tidy (s : State) (after : Half) :
    s.Tidy none (s.nextSelections after).state := by
  unfold State.nextSelections
  split <;> exact .refl s

theorem State.defineSelection_tidy (s : State) (d : DefineReq) :
    s.Tidy none (s.defineSelection d).state := by
  unfold State.defineSelection
  split <;> exact .of_same

theorem State.retireSelection_tidy (s : State) (code : Half) :
    s.Tidy none (s.retireSelection code).state := by
  refine s.withSel_tidy code fun r => ?_
  split <;> exact .of_same

theorem State.setPrice_tidy (s : State) (code : Half) (set : Option PriceSet) (price : Half) :
    s.Tidy none (s.setPrice code set price).state := by
  refine s.withSel_tidy code fun r => ?_
  split
  · exact .refl s
  · split
    · exact .refl s
    · split <;> exact .of_same

theorem State.readSetting_tidy (s : State) (num : Nat) : s.Tidy none (s.readSetting num).state := by
  unfold State.readSetting
  split <;> exact .refl s

theorem State.setZoneRequest_tidy (s : State) (q : ZoneReq) : s.Tidy none (s.setZoneRequest q).state := by
  unfold State.setZoneRequest
  split
  · split
    · exact .refl s
    · exact s.writeZone_tidy _ _
  · exact .refl s

theorem State.clearHoldRequest_tidy (s : State) (zone : Byte) :
    s.Tidy none (s.clearHoldRequest zone).state := by
  unfold State.clearHoldRequest
  split
  · exact .refl s
  · split
    · exact .refl s
    · split
      · exact .refl s
      · split
        · exact .refl s
        · exact s.clearHold_tidy _

theorem State.defrostRequest_tidy (s : State) : s.Tidy none s.defrostRequest.state := by
  unfold State.defrostRequest
  split
  · exact .refl s
  · exact s.defrostDue_tidy

theorem State.settingWritten_tidy (s : State) (num : Nat) : s.Tidy none (s.settingWritten num) := by
  unfold State.settingWritten
  split
  · exact s.updateMasks_tidy
  · exact s.inactivityWritten_tidy
  · exact s.evalExact_tidy
  · exact s.promoteAllDue_tidy.trans (State.grantPass_tidy _)
  · split
    · exact (s.promoteIfDue_tidy _).trans (State.grantPass_tidy _)
    · split
      · exact s.grantPass_tidy
      · exact s.rfcSettingWritten_tidy _

theorem State.writeSetting_tidy (s : State) (num : Nat) (v : Int) :
    s.Tidy none (s.writeSetting num v).state := by
  unfold State.writeSetting
  split
  · exact .refl s
  · exact (State.settingWritten_tidy _ num).after

/-! ### What a command does -/

/-- What one command can make of the Cash Bus and the notices: within their laws, or anew from a power-on or a
supply loss. -/
inductive BusChange (s t : State) : Prop
  | kept (h : s.Tidy none t)
  | anew (cbm : t.cbm = Cbm.initial) (notices : NoticeLaw t)

/-- A command that writes neither the Cash Bus nor the notices. -/
theorem BusChange.of_same (cbm : t.cbm = s.cbm := by rfl) (notices : t.hli.notices = s.hli.notices := by rfl) :
    BusChange s t := .kept (.of_same cbm notices)

theorem BusChange.restarted (s : State) (straps : BitVec 2) : BusChange s (s.boot straps) :=
  .anew rfl (List.pairwise_singleton _ _)

theorem State.on_busChange {f : State → State} (h : BusChange s (f s)) : BusChange s (s.on f) := by
  unfold State.on
  split
  · exact .of_same
  · exact h

theorem State.on_tidy {f : State → State} (h : s.Tidy none (f s)) : BusChange s (s.on f) :=
  State.on_busChange (.kept h)

theorem State.event_tidy {f : State → State} (h : s.Tidy none (f s)) : BusChange s (s.event f) :=
  State.on_tidy (h.trans (State.closeEvent_tidy _ _))

theorem State.expire_tidy (s : State) (left : Option Nat) {f : State → State}
    (h : ∀ x : State, x.Tidy none (f x)) : s.Tidy none (s.expire left f) := by
  cases left with
  | none => exact .refl s
  | some d => exact (s.elapse_tidy d).trans (h _)

theorem State.host_tidy (s : State) (code want len : Nat) {f : State → Reply}
    (h : s.Tidy none (f s).state) : BusChange s (s.host code want len f) := by
  unfold State.host
  split
  · split
    · exact .kept (h.trans (State.closeEvent_tidy _ s.sesc)).then
    · exact .of_same
  · exact .of_same

theorem State.host_reads_busChange (s : State) (code want len : Nat) (st : Status) (body : State → List Field) :
    BusChange s (s.host code want len fun x => x.reply st (body x)) := s.host_tidy _ _ _ (.refl s)

theorem State.hostSave_busChange (s : State) (code len : Nat) (isRestart : Bool) :
    BusChange s (s.hostSave code len isRestart) := by
  unfold State.hostSave
  split
  · split <;> exact .of_same
  · exact .of_same

theorem State.onLink_busChange {f : State → State} (h : BusChange s (f s)) : BusChange s (s.onLink f) := by
  unfold State.onLink
  split
  · exact h
  · exact .of_same

/-- A command of the link that at most sets the receive slot. -/
theorem State.onLink_slot_busChange (s : State) (p : State → Prop) [DecidablePred p] (x : Slot) :
    BusChange s (s.onLink fun s => if p s then s.setSlot x else s) := by
  refine State.onLink_busChange ?_
  split <;> exact .of_same

theorem State.endResponse_busChange (s : State) (straps : BitVec 2) : BusChange s (s.endResponse straps) := by
  unfold State.endResponse
  split
  · exact .restarted s straps
  all_goals exact .of_same

theorem State.endSave_tidy (s : State) : s.Tidy none s.endSave := by
  unfold State.endSave
  split
  · exact .refl s
  · have saved (y : Rst) : s.Tidy none ((s.setRst y).raise (.store .saved)) := (State.raise_tidy _ _).after
    unfold State.answerSave
    split <;> exact (saved _).then

theorem State.assertWarning_tidy (s : State) : s.Tidy none s.assertWarning := by
  unfold State.assertWarning
  split
  · exact .refl s
  · exact (s.warnBlocks_tidy.trans (State.closeEvent_tidy _ s.sesc)).trans .of_same

/-- Every command in every state does to the Cash Bus and the notices one of the things of `BusChange`. -/
theorem exec_busChange (s : State) (c : Instr) : ∃ t, exec c s = .next t ∧ BusChange s t :=
  match c with
  | .powerOn straps => ⟨_, rfl, .restarted s straps⟩
  | .resetPin straps => ⟨_, rfl, State.on_busChange (.restarted s straps)⟩
  | .restoreEnd => ⟨_, rfl, by unfold State.endRestore; split <;> exact .of_same⟩
  | .pfwAssertion => ⟨_, rfl, State.on_tidy s.assertWarning_tidy⟩
  | .pfwDeassertion => ⟨_, rfl, State.event_tidy s.deassertWarning_tidy⟩
  | .saveEnd => ⟨_, rfl, State.on_tidy s.endSave_tidy⟩
  | .doorChange isOpen => ⟨_, rfl, State.event_tidy (s.changeDoor_tidy isOpen)⟩
  | .badFrame => ⟨_, rfl, by split <;> exact .of_same⟩
  | .unknownRequest _ => ⟨_, rfl, by split <;> exact .of_same⟩
  | .discardQuietTimeExpiry => ⟨_, rfl, s.onLink_slot_busChange (fun s => s.hli.slot = .discarding) _⟩
  | .frameGapExpiry => ⟨_, rfl, s.onLink_slot_busChange (fun s => s.hli.slot.collects) _⟩
  | .responseEnd straps => ⟨_, rfl, State.onLink_busChange (s.endResponse_busChange straps)⟩
  | .ident _ => ⟨_, rfl, s.host_reads_busChange _ _ _ _ _⟩
  | .noticesRead _ => ⟨_, rfl, s.host_tidy _ _ _ (.of_cbm rfl fun _ => .nil)⟩
  | .settingRead _ num => ⟨_, rfl, s.host_tidy _ _ _ (s.readSetting_tidy _)⟩
  | .settingWrite _ num value => ⟨_, rfl, s.host_tidy _ _ _ (s.writeSetting_tidy _ _)⟩
  | .storeSave _ => ⟨_, rfl, s.hostSave_busChange _ _ _⟩
  | .restart _ => ⟨_, rfl, s.hostSave_busChange _ _ _⟩
  | .selFind _ code => ⟨_, rfl, s.host_tidy _ _ _ (s.findSelection_tidy code)⟩
  | .selNext _ after => ⟨_, rfl, s.host_tidy _ _ _ (s.nextSelections_tidy after)⟩
  | .selDefine _ d => ⟨_, rfl, s.host_tidy _ _ _ (s.defineSelection_tidy d)⟩
  | .selStockSet _ code index known n =>
    ⟨_, rfl, s.host_tidy _ _ _ (s.withPosition_tidy code index _ fun _ => .of_same)⟩
  | .selStockAdd _ code index n =>
    ⟨_, rfl, s.host_tidy _ _ _ (s.withPosition_tidy code index _ fun _ => .of_same)⟩
  | .selSuspend _ code => ⟨_, rfl, s.host_tidy _ _ _ (s.withSel_tidy code fun _ => .of_same)⟩
  | .selResume _ code => ⟨_, rfl, s.host_tidy _ _ _ (s.withSel_tidy code fun _ => .of_same)⟩
  | .selClearFault _ code index =>
    ⟨_, rfl, s.host_tidy _ _ _ (s.withPosition_tidy code index _ fun _ => .of_same)⟩
  | .selRetire _ code => ⟨_, rfl, s.host_tidy _ _ _ (s.retireSelection_tidy code)⟩
  | .priceSet _ code set price => ⟨_, rfl, s.host_tidy _ _ _ (s.setPrice_tidy code set price)⟩
  | .priceSwap _ => ⟨_, rfl, s.host_tidy _ _ _ .of_same⟩
  | .vend _ code => ⟨_, rfl, s.host_tidy _ _ _ (s.vendRequest_tidy code)⟩
  | .cancel _ => ⟨_, rfl, s.host_tidy _ _ _ s.cancelRequest_tidy⟩
  | .cashlessOpen _ amount => ⟨_, rfl, s.host_tidy _ _ _ (s.cashlessOpenRequest_tidy amount)⟩
  | .cashlessClose _ => ⟨_, rfl, s.host_tidy _ _ _ s.cashlessCloseRequest_tidy⟩
  | .sessionRead _ => ⟨_, rfl, s.host_reads_busChange _ _ _ _ _⟩
  | .driveTest _ row col => ⟨_, rfl, s.host_tidy _ _ _ (s.testRequest_tidy _ _)⟩
  | .driveRead _ => ⟨_, rfl, s.host_reads_busChange _ _ _ _ _⟩
  | .tubeDefine _ tube denom capacity lowMark =>
    ⟨_, rfl, s.host_tidy _ _ _ (s.defineTube_tidy tube denom capacity lowMark)⟩
  | .tubeSetCount _ tube count => ⟨_, rfl, s.host_tidy _ _ _ (s.setCount_tidy tube count)⟩
  | .tubeEnable _ tube => ⟨_, rfl, s.host_tidy _ _ _ (s.setTubeState_tidy tube .ok)⟩
  | .tubeDisable _ tube => ⟨_, rfl, s.host_tidy _ _ _ (s.setTubeState_tidy tube .disabled)⟩
  | .tubeRead _ => ⟨_, rfl, s.host_reads_busChange _ _ _ _ _⟩
  | .classSet _ cls enabled tube => ⟨_, rfl, s.host_tidy _ _ _ (s.setClass_tidy cls enabled tube)⟩
  | .billSet _ cls enabled => ⟨_, rfl, s.host_tidy _ _ _ (s.setBill_tidy cls enabled)⟩
  | .classRead _ => ⟨_, rfl, s.host_reads_busChange _ _ _ _ _⟩
  | .totalsRead _ => ⟨_, rfl, s.host_reads_busChange _ _ _ _ _⟩
  | .totalsClear _ => ⟨_, rfl, s.host_tidy _ _ _ s.clearTotals_tidy⟩
  | .payoutTest _ tube n => ⟨_, rfl, s.host_tidy _ _ _ (s.payoutTest_tidy tube n)⟩
  | .probeSet _ p1 p2 p3 p4 => ⟨_, rfl, s.host_tidy _ _ _ (s.setProbes_tidy p1 p2 p3 p4)⟩
  | .payoutRead _ => ⟨_, rfl, s.host_reads_busChange _ _ _ _ _⟩
  | .cashbusReset _ address => ⟨_, rfl, s.host_tidy _ _ _ (s.busReset_tidy address)⟩
  | .cashbusRead _ => ⟨_, rfl, s.host_reads_busChange _ _ _ _ _⟩
  | .loadRead _ => ⟨_, rfl, s.host_reads_busChange _ _ _ _ _⟩
  | .measRead _ => ⟨_, rfl, s.host_reads_busChange _ _ _ _ _⟩
  | .zoneSet _ z => ⟨_, rfl, s.host_tidy _ _ _ (s.setZoneRequest_tidy z)⟩
  | .zoneRead _ => ⟨_, rfl, s.host_reads_busChange _ _ _ _ _⟩
  | .zoneClearHold _ zone => ⟨_, rfl, s.host_tidy _ _ _ (s.clearHoldRequest_tidy zone)⟩
  | .refrigDefrost _ => ⟨_, rfl, s.host_tidy _ _ _ s.defrostRequest_tidy⟩
  | .refrigRead _ => ⟨_, rfl, s.host_reads_busChange _ _ _ _ _⟩
  | .inactivityExpiry => ⟨_, rfl, State.event_tidy (s.expire_tidy _ State.timeOut_tidy)⟩
  | .serveSlot => ⟨_, rfl, State.on_tidy ((s.elapse_tidy _).trans (State.openSlot_tidy _))⟩
  | .masterFrameSent => ⟨_, rfl, State.on_tidy s.frameSent_tidy⟩
  | .replyWindowExpiry => ⟨_, rfl, State.on_tidy (s.expire_tidy _ State.replyFails_tidy)⟩
  | .replyGapExpiry => ⟨_, rfl, State.on_tidy s.replyFails_tidy⟩
  | .ack => ⟨_, rfl, State.on_tidy s.replyAck_tidy⟩
  | .nak => ⟨_, rfl, State.on_tidy s.replyFails_tidy⟩
  | .badReply => ⟨_, rfl, State.on_tidy s.replyFails_tidy⟩
  | .setupReply chars => ⟨_, rfl, State.on_tidy (s.replySetup_tidy chars)⟩
  | .pollReply chars => ⟨_, rfl, State.on_tidy (s.replyPoll_tidy chars)⟩
  | .confirmationSent => ⟨_, rfl, State.on_tidy s.confirmed_tidy⟩
  | .probeTimeExpiry p => ⟨_, rfl, State.on_tidy (by
      split
      · exact .refl s
      · exact s.elapse_tidy _)⟩
  | .stackWatchExpiry =>
    ⟨_, rfl, State.event_tidy (s.expire_tidy _ fun x => x.goOffline_tidy .bill)⟩
  | .fullSwitchChange tube active => ⟨_, rfl, State.event_tidy (s.fullReads_tidy _ active)⟩
  | .lowSwitchChange tube low => ⟨_, rfl, State.event_tidy (s.lowReads_tidy _ low)⟩
  | .payoutGrant => ⟨_, rfl, State.event_tidy s.takePayout_tidy⟩
  | .pulseEnd => ⟨_, rfl, State.event_tidy (s.expire_tidy _ fun _ => .of_same)⟩
  | .exitCount => ⟨_, rfl, State.event_tidy s.exitCount_tidy⟩
  | .exitWindowExpiry => ⟨_, rfl, State.event_tidy (by
      split
      · exact (s.elapse_tidy _).trans (State.windowEnds_tidy _ _)
      · exact .refl s)⟩
  | .spiralGrant homeOpen => ⟨_, rfl, State.event_tidy (s.takeSpiral_tidy homeOpen)⟩
  | .powerTimerExpiry =>
    ⟨_, rfl, State.event_tidy (s.expire_tidy _ fun x => x.endEntry_tidy .noPower)⟩
  | .homeSwitchOpens =>
    ⟨_, rfl, State.event_tidy (by unfold State.homeOpens; split <;> exact .of_same)⟩
  | .homeSwitchCloses => ⟨_, rfl, State.event_tidy (by
      split
      · exact s.revolution_tidy
      · exact .refl s)⟩
  | .leaveTimerExpiry =>
    ⟨_, rfl, State.event_tidy (s.expire_tidy _ fun x => x.endEntry_tidy _)⟩
  | .turnTimerExpiry =>
    ⟨_, rfl, State.event_tidy (s.expire_tidy _ fun x => x.endEntry_tidy _)⟩
  | .currentSample code => ⟨_, rfl, State.event_tidy (by
      split
      · exact (s.elapse_tidy _).trans (State.takeSample_tidy _ _ _)
      · exact .refl s)⟩
  | .settleWindowExpiry => ⟨_, rfl, State.event_tidy (s.expire_tidy _ State.settleEnds_tidy)⟩
  | .curtainInterruptionBegins => ⟨_, rfl, State.event_tidy s.curtainBegins_tidy⟩
  | .curtainInterruptionEnds => ⟨_, rfl, State.event_tidy (by split <;> exact .of_same)⟩
  | .blockTimerExpiry => ⟨_, rfl, State.event_tidy (s.expire_tidy _ fun _ => .of_same)⟩
  | .passEnd codes =>
    ⟨_, rfl, State.event_tidy ((s.elapse_tidy _).trans (State.endPass_tidy _ codes))⟩
  | .zoneTemperature zone => ⟨_, rfl, State.event_tidy (s.zoneTakes_tidy zone)⟩
  | .vdriveValue => ⟨_, rfl, State.event_tidy s.vdriveTakes_tidy⟩
  | .evaporatorValue => ⟨_, rfl, State.event_tidy s.evapTakes_tidy⟩
  | .promotion load =>
    ⟨_, rfl, State.event_tidy (s.expire_tidy _ fun x => x.promote_tidy load)⟩
  | .damperGrant => ⟨_, rfl, State.event_tidy s.takeDamper_tidy⟩
  | .damperMoveEnd => ⟨_, rfl, State.event_tidy (s.expire_tidy _ State.endMove_tidy)⟩
  | .minuteMark => ⟨_, rfl, State.event_tidy ((s.elapse_tidy _).trans
      (State.Tidy.trans .of_same (((State.markZone_tidy _ .z1).trans (State.markZone_tidy _ .z2)).trans
        (State.markZone_tidy _ .z3))))⟩
  | .compressorGrant => ⟨_, rfl, State.event_tidy s.takeCompressor_tidy⟩
  | .defrostGrant => ⟨_, rfl, State.event_tidy s.takeDefrost_tidy⟩
  | .lockoutExpiry => ⟨_, rfl, State.event_tidy (s.expire_tidy _ State.lockoutEnds_tidy)⟩
  | .startWindowEnd => ⟨_, rfl, State.event_tidy (s.expire_tidy _ State.startWindowEnds_tidy)⟩
  | .minRunExpiry => ⟨_, rfl, State.event_tidy (s.expire_tidy _ fun x => by
      split
      · exact x.stopCompressor_tidy
      · exact .refl x)⟩
  | .maxContinuousRunExpiry => ⟨_, rfl, State.event_tidy (s.expire_tidy _ State.defrostDue_tidy)⟩
  | .defrostIntervalExpiry => ⟨_, rfl, State.event_tidy (s.expire_tidy _ State.defrostDue_tidy)⟩
  | .heaterTimeLimitExpiry => ⟨_, rfl, State.event_tidy (s.expire_tidy _ State.endDefrost_tidy)⟩
  | .defrostWallTimeExpiry => ⟨_, rfl, State.event_tidy (s.expire_tidy _ State.endDefrost_tidy)⟩
  | .dripTimeExpiry => ⟨_, rfl, State.event_tidy (s.expire_tidy _ State.dripEnds_tidy)⟩
  | .recoveryWindowExpiry => ⟨_, rfl, State.event_tidy (s.expire_tidy _ State.recoveryEnds_tidy)⟩
  | .powerLoss => ⟨_, rfl, .anew rfl .nil⟩
  | .frameStart => ⟨_, rfl, s.onLink_slot_busChange (fun s => s.hli.slot = .idle) _⟩
  | .lenOutOfRange => ⟨_, rfl, s.onLink_slot_busChange (fun s => s.hli.slot.collects) _⟩
  | .curtainFirstReading interrupted => ⟨_, rfl, State.event_tidy (by
      split
      · exact .refl s
      · split <;> exact .of_same)⟩

/-- A step does to the Cash Bus and the notices what its command does; an idle step lets time pass. -/
theorem step_busChange (h : step s = .next t) : ∃ q, BusChange (s.withPending q) t := by
  unfold step at h
  split at h
  · cases h
    refine ⟨s.pending, ?_⟩
    unfold State.idle State.on
    split
    · exact .of_same
    · exact .kept (State.Tidy.after (State.elapse_tidy _ _))
  · next c rest _ =>
    obtain ⟨u, hu, change⟩ := exec_busChange (s.withPending rest) c
    rw [hu] at h
    cases h
    exact ⟨rest, change⟩

/-! ### The laws of every step -/

/-- At power-on the records and the late slots are empty (R206). -/
theorem busLaw_of_initial (cbm : t.cbm = Cbm.initial) : BusLaw t := by
  refine ⟨fun p => ?_, by rw [State.periph, cbm]; rfl, fun _ => by rw [cbm]; rfl⟩
  have record : t.periph p = Cbm.initial.get p := by rw [State.periph, cbm]
  rw [record]
  cases p <;> exact ⟨fun _ => ⟨rfl, rfl, rfl⟩, fun _ sent => by cases sent⟩

theorem step_noticeLaw (law : NoticeLaw s) (hstep : step s = .next t) : NoticeLaw t := by
  obtain ⟨q, change⟩ := step_busChange hstep
  cases change with
  | kept h => exact h.notices law
  | anew _ notices => exact notices

/-- A save under way has left the image INVALID; its end, a power-on and a supply loss leave no save (R202, R206). -/
theorem step_storeLaw (law : StoreLaw s) (hstep : step s = .next t) : StoreLaw t := by
  obtain ⟨q, change⟩ := step_tableChange hstep
  unfold StoreLaw
  cases change with
  | ran _ k => rw [k]; exact law
  | saveStarted _ k => rw [k]; exact fun _ => rfl
  | saveEnded _ _ _ k => rw [k]; exact fun saving => by cases saving
  | restarted straps h => subst h; exact fun saving => by cases saving
  | lost h => subst h; exact fun saving => by cases saving

/-- Settles O60: each change a step can make keeps the records' law and the notices' (`step_busChange`); the save's mark
follows from what a step does to the store (`step_tableChange`). -/
theorem busNoticesStoreKept : Obligations.BusNoticesStoreKept := by
  refine ⟨fun s t law hstep => ?_, fun s t notices store hstep =>
    ⟨step_noticeLaw notices hstep, step_storeLaw store hstep⟩⟩
  obtain ⟨q, change⟩ := step_busChange hstep
  cases change with
  | kept h =>
    obtain ⟨recorded, late⟩ := busLaw_iff.1 law
    exact busLaw_iff.2 ⟨h.recorded ⟨recorded.records, recorded.coin, recorded.online⟩, h.late late⟩
  | anew cbm _ => exact busLaw_of_initial cbm

end Sys2Proof.Machine
end

section
/-! SUPPORT. The slots of the Cash Bus: what a serve makes of a peripheral's record and of the bus, on an idle bus and
late (R122, R123, R126). -/

namespace Sys2Proof.Machine

-- One proof at a time: the whole text is one process, under a memory limit that counts every thread of Lean.
set_option Elab.async false

variable {s : State} {p : Peripheral} {r : PeriphRec}

/-! ### The first command of a pending set (R122) -/

/-- The command served first, or POLL (R122, R123). -/
def PendingSet.first (q : PendingSet) : Message :=
  if q.reset then .reset
  else if q.escrow = some .stack then .escrowStack
  else if q.escrow = some .giveBack then .escrowReturn
  else if q.setup then .setup
  else if q.routeMap.isSome then .routeMap (q.routeMap.getD 0)
  else if q.acceptMask.isSome then .acceptMask (q.acceptMask.getD 0)
  else .poll

/-- The pending set with the slot of a command emptied. -/
def PendingSet.without (q : PendingSet) : Message → PendingSet
  | .reset => { q with reset := false }
  | .escrowStack => { q with escrow := none }
  | .escrowReturn => { q with escrow := none }
  | .setup => { q with setup := false }
  | .routeMap _ => { q with routeMap := none }
  | .acceptMask _ => { q with acceptMask := none }
  | .poll => q

theorem State.serveNew_eq (s : State) (p : Peripheral) : s.serveNew p =
    s.sendNew p (s.periph p).pending.first fun q => q.without (s.periph p).pending.first := by
  unfold State.serveNew
  dsimp only
  generalize (s.periph p).pending = q
  unfold PendingSet.first
  split
  · rfl
  · rcases q.escrow with _ | _ | _
    · simp only [reduceCtorEq, if_false]
      split
      · rfl
      · rcases q.routeMap with _ | m
        · rcases q.acceptMask with _ | m <;> rfl
        · rfl
    · rfl
    · rfl

/-! ### A serve (R123, R126) -/

/-- The record of a peripheral that has been served: a command sent anew is its outstanding frame. -/
def PeriphRec.served (r : PeriphRec) : PeriphRec :=
  if r.link = .online ∧ r.outstanding = none then
    { r with pending := r.pending.without r.pending.first, outstanding := some ⟨r.pending.first, 1⟩ }
  else r

/-- The bus behind a serve that finds it at `b`. -/
def PeriphRec.servedBus (r : PeriphRec) (p : Peripheral) (b : Bus) : Bus :=
  if r.link = .online then .sending p ((r.outstanding.map Outstanding.message).getD r.pending.first) false
  else if r.probeTime = 0 then .sending p .reset true
  else b

theorem PeriphRec.served_of_off (off : r.link ≠ .online) : r.served = r := if_neg fun h => off h.1

theorem PeriphRec.served_of_outstanding {o : Outstanding} (out : r.outstanding = some o) : r.served = r :=
  if_neg fun h => by rw [out] at h; cases h.2

theorem PeriphRec.served_of_new (online : r.link = .online) (out : r.outstanding = none) : r.served =
    { r with pending := r.pending.without r.pending.first, outstanding := some ⟨r.pending.first, 1⟩ } :=
  if_pos ⟨online, out⟩

theorem PeriphRec.servedBus_of_off {d : Nat} (off : r.link ≠ .online) : (r.elapse d).servedBus p .idle =
    if r.probeTime ≤ d then .sending p .reset true else .idle := by
  have off' : (r.elapse d).link ≠ .online := off
  rw [PeriphRec.servedBus, if_neg off']
  simp only [PeriphRec.elapse, Nat.sub_eq_zero_iff_le]

theorem PeriphRec.servedBus_of_outstanding {o : Outstanding} {b : Bus} (online : r.link = .online)
    (out : r.outstanding = some o) : r.servedBus p b = .sending p o.message false := by
  rw [PeriphRec.servedBus, if_pos online, out]
  rfl

theorem PeriphRec.servedBus_of_new {b : Bus} (online : r.link = .online) (out : r.outstanding = none) :
    r.servedBus p b = .sending p r.pending.first false := by
  rw [PeriphRec.servedBus, if_pos online, out]
  rfl

theorem PeriphRec.servedBus_ne_idle (starts : r.link = .online ∨ r.probeTime = 0) (b : Bus) :
    r.servedBus p b ≠ .idle := by
  unfold PeriphRec.servedBus
  split
  · exact Bus.noConfusion
  · next off =>
    rw [if_pos (starts.resolve_left off)]
    exact Bus.noConfusion

/-- A command sent anew leaves its slot (R122). -/
theorem PendingSet.without_first (q : PendingSet) :
    (q.first = .poll → q.without q.first = q) ∧
    (q.first = .reset → q.without q.first = { q with reset := false }) ∧
    (q.first = .escrowStack → q.without q.first = { q with escrow := none }) ∧
    (q.first = .escrowReturn → q.without q.first = { q with escrow := none }) ∧
    (q.first = .setup → q.without q.first = { q with setup := false }) ∧
    (∀ k, q.first = .routeMap k → q.without q.first = { q with routeMap := none }) ∧
    (∀ k, q.first = .acceptMask k → q.without q.first = { q with acceptMask := none }) :=
  ⟨fun h => h ▸ rfl, fun h => h ▸ rfl, fun h => h ▸ rfl, fun h => h ▸ rfl, fun h => h ▸ rfl, fun _ h => h ▸ rfl,
    fun _ h => h ▸ rfl⟩

theorem State.setPeriph_periph (s : State) (p : Peripheral) : s.setPeriph p (s.periph p) = s := by
  cases p <;> rfl

/-- A serve writes the peripheral's record and the bus. -/
theorem State.serve_eq (s : State) (p : Peripheral) : s.serve p =
    (s.setPeriph p (s.periph p).served).setBus ((s.periph p).servedBus p s.cbm.bus) := by
  by_cases online : (s.periph p).link = .online
  · cases out : (s.periph p).outstanding with
    | some o =>
      rw [PeriphRec.served_of_outstanding out, State.setPeriph_periph]
      simp only [State.serve, PeriphRec.servedBus, online, out, if_true]
      rfl
    | none =>
      have new : s.serve p = s.serveNew p := by simp only [State.serve, online, out]
      rw [new, State.serveNew_eq, PeriphRec.served_of_new online out, PeriphRec.servedBus, if_pos online, out]
      rfl
  · rw [PeriphRec.served_of_off online, State.setPeriph_periph]
    have unserved : s.serve p = if (s.periph p).probeTime = 0 then s.setBus (.sending p .reset true) else s := by
      unfold State.serve
      split
      · next on => exact absurd on online
      · rfl
    rw [unserved, PeriphRec.servedBus, if_neg online]
    split <;> rfl

/-- The bus behind a serve. -/
theorem State.serve_bus (s : State) (p : Peripheral) :
    (s.serve p).cbm.bus = (s.periph p).servedBus p s.cbm.bus := by
  rw [State.serve_eq]
  rfl

/-- A peripheral not ONLINE whose probe is not due is passed over. -/
theorem State.serve_of_quiet (off : (s.periph p).link ≠ .online) (probe : (s.periph p).probeTime ≠ 0) :
    s.serve p = s := by
  rw [State.serve_eq, PeriphRec.served_of_off off, State.setPeriph_periph, PeriphRec.servedBus, if_neg off,
    if_neg probe]
  rfl

/-! ### Late slots (R123) -/

/-- The slots that are late written. -/
def State.setLate (s : State) (ps : List Peripheral) : State := { s with cbm := { s.cbm with late := ps } }

theorem State.serve_setLate (s : State) (p : Peripheral) (ps : List Peripheral) :
    (s.setLate ps).serve p = (s.serve p).setLate ps := by
  rw [State.serve_eq, State.serve_eq]
  cases p <;> rfl

/-- What is late is read before the late slots are served, and written behind them. -/
theorem serveLate_setLate (ps late : List Peripheral) (s : State) : serveLate ps (s.setLate late) = serveLate ps s := by
  induction ps generalizing s with
  | nil => rfl
  | cons p ps ih =>
    simp only [serveLate, State.serve_setLate]
    split
    · next free => exact (ih _).trans (if_pos free).symm
    · next busy => exact (if_neg busy).symm

theorem State.endExchange_of_late {late : List Peripheral} (h : s.cbm.late = late) :
    s.endExchange = serveLate late (s.setBus .idle) := by
  subst h
  rfl

/-- The first late slot that starts an exchange is served, and the slots behind it stay late. -/
theorem serveLate_of_start {ps : List Peripheral}
    (starts : (s.periph p).link = .online ∨ (s.periph p).probeTime = 0) :
    serveLate (p :: ps) s = (s.serve p).setLate ps := by
  have busy : (s.serve p).cbm.bus ≠ .idle := by
    rw [State.serve_bus]
    exact PeriphRec.servedBus_ne_idle starts _
  simp only [serveLate, if_neg busy]
  rfl

theorem serveLate_of_quiet {ps : List Peripheral} (idle : s.cbm.bus = .idle) (off : (s.periph p).link ≠ .online)
    (probe : (s.periph p).probeTime ≠ 0) : serveLate (p :: ps) s = serveLate ps s := by
  simp only [serveLate, State.serve_of_quiet off probe, if_pos idle]

/-- No time leaves the Cash Bus as it is. -/
theorem Cbm.elapse_zero (c : Cbm) : c.elapse 0 = c := by
  have record (r : PeriphRec) : r.elapse 0 = r := by
    simp [PeriphRec.elapse, runDown]
  have bus (b : Bus) : b.elapse 0 = b := by cases b <;> rfl
  rw [Cbm.elapse, record, record, bus]
  rfl

/-! ### A slot opens (R123) -/

/-- The slot after the one that opens (R123). -/
def State.slotOpened (s : State) : State :=
  { s with cbm := { s.cbm with slotLeft := slotMs, nextSlot := otherPeriph s.cbm.nextSlot } }

theorem State.openSlot_of_idle (idle : s.cbm.bus = .idle) : s.openSlot = s.slotOpened.serve s.cbm.nextSlot :=
  if_pos idle

theorem State.openSlot_of_busy (busy : s.cbm.bus ≠ .idle) :
    s.openSlot = s.slotOpened.setLate (s.cbm.late ++ [s.cbm.nextSlot]) := if_neg busy

theorem Bus.elapse_eq_idle {b : Bus} {d : Nat} : b.elapse d = .idle ↔ b = .idle := by
  cases b <;> simp [Bus.elapse]

/-- A serve leaves all but the bus and the peripheral's record. -/
theorem State.serve_leaves (s : State) (p : Peripheral) : s.serve p = { s with cbm := (s.serve p).cbm } ∧
    (s.serve p).cbm.slotLeft = s.cbm.slotLeft ∧ (s.serve p).cbm.nextSlot = s.cbm.nextSlot ∧
    (s.serve p).cbm.late = s.cbm.late ∧ (s.serve p).periph (otherPeriph p) = s.periph (otherPeriph p) ∧
    (s.serve p).periph p = (s.periph p).served := by
  rw [State.serve_eq]
  cases p <;> exact ⟨rfl, rfl, rfl, rfl, rfl, rfl⟩

theorem exec_serveSlot (on : s.power ≠ .off) : exec .serveSlot s = .next (s.elapse s.cbm.slotLeft).openSlot :=
  exec_of_on (f := fun s => (s.elapse s.cbm.slotLeft).openSlot) rfl on

theorem exec_confirmationSent (on : s.power ≠ .off) (bus : s.cbm.bus = .confirming p) :
    exec .confirmationSent s = .next s.endExchange := by
  rw [exec_of_on (f := State.confirmed) rfl on, State.confirmed, bus]

theorem peripheralAt_addressOf (p : Peripheral) : peripheralAt (BitVec.ofNat 8 (addressOf p)) = some p := by
  cases p <;> rfl

theorem State.busReset_of_online (online : (s.periph p).link = .online) :
    s.busReset (BitVec.ofNat 8 (addressOf p)) = ⟨s.setPeriph p { s.periph p with
      pending := { (s.periph p).pending with reset := true } }, .ok, []⟩ := by
  simp only [State.busReset, peripheralAt_addressOf, if_pos online]
  rfl

theorem State.busReset_of_off (off : (s.periph p).link ≠ .online) :
    s.busReset (BitVec.ofNat 8 (addressOf p)) =
      ⟨s.setPeriph p { s.periph p with probeTime := 0 }, .ok, []⟩ := by
  simp only [State.busReset, peripheralAt_addressOf, if_neg off]
  rfl

theorem peripheralAt_of_ne {a : Byte} (coin : a.toNat ≠ 3) (bill : a.toNat ≠ 5) : peripheralAt a = none := by
  unfold peripheralAt
  split
  · next h => exact absurd h coin
  · next h => exact absurd h bill
  · rfl

/-- A late slot is served as a slot on an idle bus is (R123). -/
theorem exec_confirmationSent_late {q : Peripheral} {rest : List Peripheral} (on : s.power ≠ .off)
    (bus : s.cbm.bus = .confirming q) (late : s.cbm.late = p :: rest)
    (starts : (s.periph p).link = .online ∨ (s.periph p).probeTime = 0) :
    ∃ t v, exec .confirmationSent s = .next t ∧
      exec .serveSlot { s with cbm := { s.cbm with
        bus := .idle, late := [], nextSlot := p, slotLeft := 0 } } = .next v ∧
      t.cbm = { v.cbm with late := rest, nextSlot := s.cbm.nextSlot, slotLeft := s.cbm.slotLeft } ∧
      t = { s with cbm := t.cbm } := by
  refine ⟨((s.setBus .idle).serve p).setLate rest, _, ?_, exec_serveSlot on, ?_, ?_⟩
  · rw [exec_confirmationSent on bus, State.endExchange_of_late late, serveLate_of_start (s := s.setBus .idle) starts]
  · have still (x : State) (none_left : x.cbm.slotLeft = 0) : (x.elapse x.cbm.slotLeft).cbm = x.cbm := by
      rw [none_left]
      exact x.cbm.elapse_zero
    have waited := still { s with cbm := { s.cbm with bus := .idle, late := [], nextSlot := p, slotLeft := 0 } } rfl
    rw [State.openSlot_of_idle (by rw [waited]), State.serve_eq, State.serve_eq]
    simp only [waited, State.slotOpened, State.periph]
    cases p <;> rfl
  · rw [State.serve_eq]
    rfl

/-! ### The obligation -/

/-- What a slot makes of the peripheral whose it is (R122, R123, R126). -/
theorem slotServed (on : s.power ≠ .off) (slot : s.cbm.nextSlot = p) :
    let b := s.elapse s.cbm.slotLeft
    exec .serveSlot s = .next b.openSlot ∧ b.openSlot = { b with cbm := b.openSlot.cbm } ∧
    b.openSlot.cbm.slotLeft = 50 ∧ b.openSlot.cbm.nextSlot = otherPeriph p ∧
    b.openSlot.periph (otherPeriph p) = b.periph (otherPeriph p) ∧
    (s.cbm.bus ≠ .idle → b.openSlot.cbm.bus = b.cbm.bus ∧ b.openSlot.cbm.late = s.cbm.late ++ [p] ∧
      b.openSlot.periph p = b.periph p) ∧
    (s.cbm.bus = .idle → b.openSlot.cbm.late = s.cbm.late ∧ b.openSlot.periph p = (b.periph p).served ∧
      b.openSlot.cbm.bus = (b.periph p).servedBus p .idle) := by
  intro b
  subst slot
  refine ⟨exec_serveSlot on, ?_⟩
  by_cases idle : s.cbm.bus = .idle
  · have free : b.cbm.bus = .idle := Bus.elapse_eq_idle.2 idle
    obtain ⟨leaves, left, next, late, other, record⟩ := b.slotOpened.serve_leaves s.cbm.nextSlot
    have bus := b.slotOpened.serve_bus s.cbm.nextSlot
    rw [show b.slotOpened.cbm.bus = .idle from free] at bus
    rw [State.openSlot_of_idle free]
    exact ⟨leaves, left, next, other, fun busy => absurd idle busy, fun _ => ⟨late, record, bus⟩⟩
  · have busy : b.cbm.bus ≠ .idle := fun h => idle (Bus.elapse_eq_idle.1 h)
    rw [State.openSlot_of_busy busy]
    exact ⟨rfl, rfl, rfl, rfl, fun _ => ⟨rfl, rfl, rfl⟩, fun free => absurd free idle⟩

/-- Settles O37: a slot writes the record and the bus that `PeriphRec.served` and `servedBus` give (`State.serve_eq`),
late or not; the rest are single writes. -/
theorem slotsServed : Obligations.SlotsServed := by
  refine ⟨fun s p on slot => ?_, fun s => ⟨fun p m probe on bus => ?_, fun p ready online => ?_, fun p ready off => ?_,
    fun a ready coin bill => ?_, fun p on off => ⟨_, ?_, rfl, ?_⟩, fun p on bus none_late => ?_,
    fun p q rest on bus late => ⟨exec_confirmationSent_late on bus late, fun off probe => ?_⟩⟩⟩
  · obtain ⟨run, only, left, next, other, busy, idle⟩ := slotServed on slot
    refine ⟨_, run, only, left, next, other, busy, fun free => ?_⟩
    obtain ⟨late, record, bus⟩ := idle free
    rw [State.elapse_periph] at record bus
    rw [State.elapse_periph, record, bus]
    refine ⟨late, fun off => ⟨PeriphRec.served_of_off off, PeriphRec.servedBus_of_off off⟩, fun online =>
      ⟨fun o out => ⟨PeriphRec.served_of_outstanding out, PeriphRec.servedBus_of_outstanding online out⟩,
        fun new => ?_⟩⟩
    · rw [PeriphRec.served_of_new (r := (s.periph p).elapse s.cbm.slotLeft) online new]
      exact ⟨PeriphRec.servedBus_of_new online new, rfl, (s.periph p).pending.without_first⟩
  · rw [exec_of_on (f := State.frameSent) rfl on, State.frameSent, bus]
    rfl
  · exact State.host_answers (f := fun s => s.busReset _) ready (State.busReset_of_online online)
  · exact State.host_answers (f := fun s => s.busReset _) ready (State.busReset_of_off off)
  · refine State.host_replies ready ?_
    simp only [State.busReset, peripheralAt_of_ne coin bill]
  · rw [exec_of_on (f := fun s => if (s.periph p).link = .online then s else s.elapse (s.periph p).probeTime) rfl on,
      if_neg off]
  · rw [State.elapse_periph]
    exact Nat.sub_self _
  · rw [exec_confirmationSent on bus, State.endExchange_of_none_late none_late]
    rfl
  · have skipped : s.endExchange = (s.setLate rest).endExchange := by
      rw [State.endExchange_of_late late, serveLate_of_quiet (s := s.setBus .idle) rfl off probe,
        State.endExchange_of_late rfl]
      exact (serveLate_setLate rest rest _).symm
    rw [exec_confirmationSent on bus, skipped]
    exact (exec_confirmationSent (s := s.setLate rest) on bus).symm

end Sys2Proof.Machine
end

section
/-! SUPPORT. Frames and requests: what a frame is made of, the good data replies of the Cash Bus, each request read
back from its body, and its frame received byte by byte (R114 to R119, R192 to R195). -/

namespace Sys2Proof.Machine

-- One proof at a time: the whole text is one process, under a memory limit that counts every thread of Lean.
set_option Elab.async false

variable {s : State}

/-! ### Checks (R114, R195) -/

/-- A check that brings the sum of a frame to 0 (R195). -/
theorem charSum_checked (cs : List Byte) : charSum (cs ++ [0 - charSum cs]) = 0 := by
  rw [charSum_append]
  simp [charSum, BitVec.sub_eq_add_neg]

theorem checkRight_iff {cs : List Byte} : checkRight cs = true ↔ cs.getLast? = some (charSum cs.dropLast) := by
  simp [checkRight]

/-- A master frame ends with its check (R114). -/
theorem masterFrame_check (p : Peripheral) (m : Message) :
    (masterFrame p m).getLast? = some (charSum (masterFrame p m).dropLast) := by
  simp only [masterFrame, List.dropLast_concat, List.getLast?_concat]

/-- Mode bit 1 is the address character's alone (R112). -/
theorem masterFrameModes_address (p : Peripheral) (m : Message) : ∃ a rest, masterFrameModes p m = (a, true) :: rest ∧
    (∀ c ∈ rest, c.2 = false) ∧ a.toNat = addressOf p * 16 + m.code := by
  refine ⟨BitVec.ofNat 8 (addressOf p * 16 + m.code), _, rfl, fun c hc => ?_, ?_⟩
  · obtain ⟨b, -, rfl⟩ := List.mem_map.1 hc
    rfl
  · cases p <;> cases m <;> rfl

/-! ### Good data replies (R115, R118, R119) -/

/-- Events are read from two characters each. -/
theorem busEventsOf_length : ∀ {cs : List Byte} {es : List BusEvent}, busEventsOf cs = some es →
    cs.length = 2 * es.length
  | [], _, h => by cases h; rfl
  | [_], _, h => by cases h
  | c :: a :: rest, es, h => by
    simp only [busEventsOf] at h
    split at h
    · next found =>
      cases h
      simp only [List.length_cons, busEventsOf_length found]
      omega
    · cases h

theorem pollEventsOf_good {cs : List Byte} {es : List BusEvent} (h : pollEventsOf cs = some es) :
    es.length ≤ 8 ∧ cs.length = 2 * es.length + 2 ∧ cs.head? = some (BitVec.ofNat 8 es.length) ∧
    cs.getLast? = some (charSum cs.dropLast) := by
  cases cs with
  | nil => cases h
  | cons n rest =>
    obtain ⟨good, events⟩ := Option.ite_none_right_eq_some.1 h
    simp only [Bool.and_eq_true, decide_eq_true_eq, beq_iff_eq] at good
    obtain ⟨⟨few, length⟩, check⟩ := good
    have read := busEventsOf_length events
    rw [List.length_dropLast, length] at read
    have count : es.length = n.toNat := by omega
    refine ⟨by omega, by simp only [List.length_cons]; omega, ?_, checkRight_iff.1 check⟩
    rw [count, BitVec.ofNat_toNat, BitVec.setWidth_eq]
    rfl

theorem classValuesOf_length : ∀ cs : List Byte, (classValuesOf cs).length = cs.length / 2
  | [] => rfl
  | [_] => by simp [classValuesOf]
  | _ :: _ :: rest => by
    simp only [classValuesOf, List.length_cons, classValuesOf_length rest]
    omega

/-- A value stands where its two characters stand, high character first (R118). -/
theorem classValuesOf_getElem? {cs : List Byte} {k : Nat} {h l : Byte} (high : cs[2 * k]? = some h)
    (low : cs[2 * k + 1]? = some l) : (classValuesOf cs)[k]? = some (h.toNat * 256 + l.toNat) := by
  induction k generalizing cs with
  | zero =>
    match cs with
    | [] => cases high
    | [_] => cases low
    | _ :: _ :: _ => cases high; cases low; rfl
  | succ k ih =>
    match cs with
    | [] => cases high
    | [_] => cases high
    | _ :: _ :: _ => exact ih high low

theorem setupValuesOf_good {cs : List Byte} {vs : List Nat} (h : setupValuesOf cs = some vs) :
    cs.length = 33 ∧ vs.length = 16 ∧ cs.getLast? = some (charSum cs.dropLast) ∧
    ∀ k h l, cs[2 * k]? = some h → cs[2 * k + 1]? = some l → k < 16 →
      vs[k]? = some (h.toNat * 256 + l.toNat) := by
  obtain ⟨good, values⟩ := Option.ite_none_right_eq_some.1 h
  simp only [Bool.and_eq_true, beq_iff_eq] at good
  obtain ⟨length, check⟩ := good
  cases values
  refine ⟨length, ?_, checkRight_iff.1 check, fun k h l high low within => ?_⟩
  · rw [classValuesOf_length, List.length_dropLast, length]
  · refine classValuesOf_getElem? ?_ ?_ <;>
      rwa [List.getElem?_dropLast, if_pos (by omega)]

/-! ### Fields read back (R195) -/

/-- A number read where its bytes stand. -/
@[simp] theorem halfAt_bytes (n : Half) (rest : List Byte) :
    halfAt ((n >>> 8).setWidth 8 :: n.setWidth 8 :: rest) 0 = n := high_low n

@[simp] theorem bytes_byte (n : Nat) : (Field.byte n).bytes = [BitVec.ofNat 8 n] := by
  simp [Field.bytes]

@[simp] theorem bytes_flag (b : Bool) : (Field.flag b).bytes = [if b then 1#8 else 0#8] := by
  cases b <;> rfl

/-- The byte of a flag is 0 exactly for a clear one. -/
@[simp] theorem flag_ne_zero (b : Bool) : ((if b = true then 1#8 else 0#8) != 0#8) = b := by
  cases b <;> rfl

theorem append_toNat {m n : Nat} (x : BitVec m) (y : BitVec n) : (x ++ y).toNat = x.toNat * 2 ^ n + y.toNat := by
  rw [BitVec.toNat_append, ← Nat.shiftLeft_add_eq_or_of_lt y.isLt, Nat.shiftLeft_eq]

/-- Four bytes, highest first, are the value. -/
theorem high_to_low (v : BitVec 32) : (((v >>> 24).setWidth 8 ++ (v >>> 16).setWidth 8 : Half) ++
    ((v >>> 8).setWidth 8 ++ v.setWidth 8 : Half) : BitVec 32) = v := by
  apply BitVec.eq_of_toNat_eq
  simp only [append_toNat, BitVec.toNat_setWidth, BitVec.toNat_ushiftRight, Nat.shiftRight_eq_div_pow]
  omega

@[simp] theorem bytes_full (v : BitVec 32) : (Field.full v.toNat).bytes =
    [(v >>> 24).setWidth 8, (v >>> 16).setWidth 8, (v >>> 8).setWidth 8, v.setWidth 8] := by
  simp only [Field.bytes, ofInt_toNat]

@[simp] theorem fullAt_bytes (v : BitVec 32) (rest : List Byte) : fullAt
    ((v >>> 24).setWidth 8 :: (v >>> 16).setWidth 8 :: (v >>> 8).setWidth 8 :: v.setWidth 8 :: rest) 0 = v :=
  high_to_low v

/-- The byte of an enumerated field. -/
def enumByte {α : Type} (place : α → Nat) (x : Option α) : Byte :=
  BitVec.ofNat 8 (match x with
    | some v => place v
    | none => 2)

@[simp] theorem bytes_enumField {α : Type} (place : α → Nat) (x : Option α) :
    (enumField place x).bytes = [enumByte place x] := bytes_byte _

/-- An enumerated field of two values is read back from their places. -/
theorem enumOf_enumByte {α : Type} {values : List α} {place : α → Nat} (two : values.length = 2)
    (read : ∀ v, values[place v]? = some v) (x : Option α) : enumOf values (enumByte place x) = x := by
  cases x with
  | none => exact List.getElem?_eq_none two.le
  | some v =>
    obtain ⟨below, -⟩ := List.getElem?_eq_some_iff.1 (read v)
    have place_eq : (BitVec.ofNat 8 (place v)).toNat = place v := Nat.mod_eq_of_lt (by omega)
    rw [enumOf, enumByte, place_eq]
    exact read v

@[simp] theorem flagOf_enumByte (x : Option Bool) : flagOf (enumByte Bool.toNat x) = x :=
  enumOf_enumByte rfl (fun v => by cases v <;> rfl) x

@[simp] theorem admin_read (x : Option Admin) : enumOf [.enabled, .suspended] (enumByte Admin.ctorIdx x) = x :=
  enumOf_enumByte rfl (fun v => by cases v <;> rfl) x

@[simp] theorem draw_read (x : Option Draw) : enumOf [.first, .rotate] (enumByte Draw.ctorIdx x) = x :=
  enumOf_enumByte rfl (fun v => by cases v <;> rfl) x

@[simp] theorem priceSet_read (x : Option PriceSet) : enumOf [.a, .b] (enumByte PriceSet.ctorIdx x) = x :=
  enumOf_enumByte rfl (fun v => by cases v <;> rfl) x

@[simp] theorem zoneMode_read (x : Option ZoneMode) : enumOf [.off, .chilled] (enumByte ZoneMode.ctorIdx x) = x :=
  enumOf_enumByte rfl (fun v => by cases v <;> rfl) x

/-- A tube whose byte does not stand for none is read back (R81). -/
theorem tubeOf_getD {tube : Option Byte} (some_tube : tube ≠ some noTubeByte) :
    tubeOf (tube.getD noTubeByte) = tube := by
  cases tube with
  | none => rfl
  | some b => exact if_neg fun h => some_tube (congrArg some h)

/-! ### The positions of SEL.DEFINE (section 11.4) -/

/-- The bytes of the positions. -/
def positionBytes (ps : List PosReq) : List Byte := bodyBytes (ps.map PosReq.fields).flatten

theorem positionBytes_cons (p : PosReq) (ps : List PosReq) : positionBytes (p :: ps) =
    p.row :: p.col :: enumByte Bool.toNat p.twin :: p.capacity :: p.stock :: p.turns :: positionBytes ps := by
  simp [positionBytes, PosReq.fields, bodyBytes]

theorem positionBytes_length (ps : List PosReq) : (positionBytes ps).length = 6 * ps.length := by
  induction ps with
  | nil => rfl
  | cons p ps ih =>
    simp only [positionBytes_cons, List.length_cons, ih]
    omega

/-- Each position is read where its six bytes begin. -/
theorem positions_read (ps : List PosReq) :
    (List.range ps.length).map (fun k => posAt (positionBytes ps) (6 * k)) = ps := by
  induction ps with
  | nil => rfl
  | cons p ps ih =>
    have first : posAt (positionBytes (p :: ps)) 0 = p := by
      simp [positionBytes_cons, posAt]
    have later (k : Nat) : posAt (positionBytes (p :: ps)) (6 * (k + 1)) = posAt (positionBytes ps) (6 * k) := by
      rw [positionBytes_cons]
      rfl
    rw [List.length_cons, List.range_succ_eq_map, List.map_cons, List.map_map]
    exact congrArg₂ List.cons first ((List.map_congr_left fun k _ => later k).trans ih)

/-- The body of SEL.DEFINE: ten bytes, and six for each position (section 11.4). -/
theorem requestBody_selDefine (len : Nat) (d : DefineReq) : requestBody (.selDefine len d) =
    (d.code >>> 8).setWidth 8 :: d.code.setWidth 8 :: enumByte Admin.ctorIdx d.admin :: d.zone ::
    (d.priceA >>> 8).setWidth 8 :: d.priceA.setWidth 8 :: (d.priceB >>> 8).setWidth 8 :: d.priceB.setWidth 8 ::
    enumByte Draw.ctorIdx d.draw :: d.count :: positionBytes d.positions := by
  simp [requestBody, requestFields, bodyBytes, positionBytes]

/-- The body length the count byte asks for is the body's, as many positions as it gives (R193). -/
theorem selDefine_length {d : DefineReq} {len : Nat} (fits : d.positions.length = positionsOf d.count) :
    (requestBody (.selDefine len d)).length = d.wantLength := by
  simp only [requestBody_selDefine, List.length_cons, positionBytes_length, fits, positionsOf, DefineReq.wantLength]
  split <;> omega

theorem defineOf_requestBody {d : DefineReq} {len : Nat} (fits : d.positions.length = positionsOf d.count) :
    defineOf (requestBody (.selDefine len d)) = d := by
  have positions : (List.range (positionsOf d.count)).map
      (fun k => posAt (requestBody (.selDefine len d)) (10 + 6 * k)) = d.positions := by
    rw [← fits]
    refine (List.map_congr_left fun k _ => ?_).trans (positions_read d.positions)
    rw [Nat.add_comm, requestBody_selDefine]
    rfl
  simp only [defineOf, requestBody_selDefine] at positions ⊢
  simp [positions]

/-! ### The requests read back (section 11.4) -/

/-- What a request frame's CODE and body make of it again is the request. -/
def ReadsBack (c : Instr) (x : RequestShape) : Prop :=
  (requestBody c).length = x.want ∧ requestOf (BitVec.ofNat 8 x.code) (requestBody c) = c

theorem selDefine_readsBack {d : DefineReq} (sends : sendable (.selDefine d.wantLength d) = true) :
    ReadsBack (.selDefine d.wantLength d) ⟨0x12, d.wantLength, d.wantLength⟩ := by
  have fits : d.positions.length = positionsOf d.count := by simpa [sendable] using sends
  have length := selDefine_length (len := d.wantLength) fits
  have reads (body : List Byte) : requestOf (BitVec.ofNat 8 0x12) body = .selDefine body.length (defineOf body) := rfl
  exact ⟨length, by rw [reads, length, defineOf_requestBody fits]⟩

theorem selStock_readsBack (code : Half) (index : Byte) (known : Bool) (n : Half) :
    ReadsBack (.selStockSet 6 code index known n) ⟨0x13, 6, 6⟩ ∧
    ReadsBack (.selStockAdd 6 code index n) ⟨0x13, 6, 6⟩ := by
  cases known <;> simp [ReadsBack, requestBody, requestFields, bodyBytes, requestOf, stockOf]

theorem classSet_readsBack {cls : Byte} {enabled : Bool} {tube : Option Byte}
    (sends : sendable (.classSet 3 cls enabled tube) = true) :
    ReadsBack (.classSet 3 cls enabled tube) ⟨0x35, 3, 3⟩ := by
  have tube_read := tubeOf_getD (tube := tube) (by simpa [sendable] using sends)
  simp [ReadsBack, requestBody, requestFields, bodyBytes, requestOf, tube_read]

/-- Every request is read back from its body: the fields of its bytes are its operands (`halfAt_bytes`,
`fullAt_bytes`, `enumOf_enumByte`, `positions_read`). -/
theorem request_readsBack {c : Instr} {x : RequestShape} (shape : requestShape c = some x) (length : x.len = x.want)
    (sends : sendable c = true) : ReadsBack c x := by
  cases c
  all_goals cases shape
  all_goals cases length
  case selDefine d => exact selDefine_readsBack sends
  case selStockSet code index known n => exact (selStock_readsBack code index known n).1
  case selStockAdd code index n => exact (selStock_readsBack code index true n).2
  case classSet => exact classSet_readsBack sends
  all_goals simp [ReadsBack, requestBody, requestFields, bodyBytes, requestOf, zoneReqOf]

theorem requestOf_unknown {code : Byte} (body : List Byte) (unknown : code.toNat ∉ requestCodes) :
    requestOf code body = .unknownRequest code := by
  unfold requestOf
  dsimp only
  split
  case h_46 => rfl
  all_goals next known => exact absurd (known ▸ by decide) unknown

/-! ### A frame received byte by byte (R192, R193) -/

/-- The last of a row of bytes does what it does. -/
theorem takeBytes_singleton (b : Byte) (s : State) : takeBytes [b] s = s.takeByte b := by
  unfold takeBytes
  split
  · next h => exact h.symm
  · rfl

theorem takeByte_of_command {b : Byte} {c : Instr} (running : s.power = .running) (row : s.byteCommand b = some c) :
    s.takeByte b = exec c s := by
  rw [State.takeByte_eq, if_pos running, row]
  rfl

/-- In IDLE a byte 0x5A starts a frame (R192). -/
theorem takeByte_start (running : s.power = .running) (idle : s.hli.slot = .idle) :
    s.takeByte 0x5A = .next (s.setSlot (.receiving [])) := by
  have row : s.byteCommand 0x5A = some .frameStart := by simp [State.byteCommand, idle]
  rw [takeByte_of_command running row]
  show Host.Outcome.next (s.onLink _) = _
  rw [State.onLink, if_pos running, if_pos idle]

/-- A LEN of 1 to 252 is collected (R192). -/
theorem takeByte_len {len : Byte} (running : s.power = .running) (slot : s.hli.slot = .receiving [])
    (within : ¬(len.toNat = 0 ∨ 252 < len.toNat)) :
    s.takeByte len = .next (s.setSlot (.receiving [len])) := by
  have row : s.byteCommand len = none := by simp only [State.byteCommand, slot, if_neg within]
  rw [State.takeByte_eq, if_pos running, row, State.collect_receiving s len [] slot]
  rfl

/-- A byte before the last is collected (R192). -/
theorem takeByte_collects {len b : Byte} {got : List Byte} (running : s.power = .running)
    (slot : s.hli.slot = .receiving (len :: got)) (more : got.length < len.toNat) :
    s.takeByte b = .next (s.setSlot (.receiving (len :: got ++ [b]))) := by
  have row : s.byteCommand b = none := by simp only [State.byteCommand, slot, if_pos more]
  rw [State.takeByte_eq, if_pos running, row, State.collect_receiving s b (len :: got) slot]
  rfl

/-- The last byte runs the command of the frame (R193). -/
theorem takeByte_last {len chk : Byte} {got : List Byte} (running : s.power = .running)
    (slot : s.hli.slot = .receiving (len :: got)) (last : len.toNat ≤ got.length) :
    s.takeByte chk = exec (frameCommand (len :: got ++ [chk])) s :=
  takeByte_of_command running (by simp only [State.byteCommand, slot, if_neg (not_lt.2 last)])

/-- The bytes behind LEN are collected, and the last runs the command of the frame (R192, R193). -/
theorem takeBytes_body {len chk : Byte} {got rest : List Byte} (running : s.power = .running)
    (slot : s.hli.slot = .receiving (len :: got)) (length : got.length + rest.length = len.toNat) :
    takeBytes (rest ++ [chk]) s =
      exec (frameCommand (len :: got ++ rest ++ [chk])) (s.setSlot (.receiving (len :: got ++ rest))) := by
  induction rest generalizing s got with
  | nil =>
    have still : s.setSlot (.receiving (len :: got ++ [])) = s := by
      rw [List.append_nil, ← slot]
      rfl
    rw [still, List.append_nil, List.nil_append, takeBytes_singleton]
    exact takeByte_last running slot length.ge
  | cons b rest ih =>
    rw [List.length_cons] at length
    rw [List.cons_append, takeBytes_cons b _ s _ (takeByte_collects running slot (by omega)),
      ih (s := s.setSlot (.receiving (len :: got ++ [b]))) (got := got ++ [b]) running rfl
        (by rw [List.length_append, List.length_singleton]; omega)]
    simp only [List.cons_append, List.append_assoc, List.nil_append]
    rfl

/-- A frame whose check is right makes the request of its CODE and body (R193). -/
theorem frameCommand_of_sum {len code chk : Byte} {body : List Byte}
    (sum : charSum (len :: code :: (body ++ [chk])) = 0) :
    frameCommand (len :: code :: (body ++ [chk])) = requestOf code body := by
  simp only [frameCommand, if_pos sum, List.dropLast_concat]

/-- A frame received in IDLE runs its command (R192, R193). -/
theorem takeBytes_frame {len chk : Byte} {rest : List Byte} (running : s.power = .running)
    (idle : s.hli.slot = .idle) (within : ¬(len.toNat = 0 ∨ 252 < len.toNat)) (length : rest.length = len.toNat) :
    takeBytes (0x5A :: len :: (rest ++ [chk])) s =
      exec (frameCommand (len :: (rest ++ [chk]))) (s.setSlot (.receiving (len :: rest))) := by
  have started := takeBytes_cons 0x5A (len :: (rest ++ [chk])) s _ (takeByte_start running idle)
  have counted := takeBytes_cons len (rest ++ [chk]) _ _
    (takeByte_len (s := s.setSlot (.receiving [])) running rfl within)
  exact (started.trans counted).trans (takeBytes_body (s := s.setSlot (.receiving [len])) (got := []) running rfl
    ((Nat.zero_add _).trans length))

/-- A request frame received in IDLE runs the command of its CODE and body (R192, R193). -/
theorem takeBytes_requestFrame {code : Nat} {body : List Byte} (running : s.power = .running)
    (idle : s.hli.slot = .idle) (short : body.length ≤ 251) :
    takeBytes (requestFrame code body) s =
      exec (requestOf (BitVec.ofNat 8 code) body)
        (s.setSlot (.receiving (requestFrame code body).tail.dropLast)) := by
  have len : (BitVec.ofNat 8 (body.length + 1)).toNat = body.length + 1 := Nat.mod_eq_of_lt (by omega)
  have collected : (requestFrame code body).tail.dropLast =
      BitVec.ofNat 8 (body.length + 1) :: BitVec.ofNat 8 code :: body := List.dropLast_concat
  have reads : frameCommand (requestFrame code body).tail = requestOf (BitVec.ofNat 8 code) body :=
    frameCommand_of_sum (requestFrame_sum code body)
  rw [collected, ← reads]
  exact takeBytes_frame (rest := BitVec.ofNat 8 code :: body) running idle (by omega) len.symm

/-- The body of a request is short enough for its frame (section 11.4). -/
theorem requestShape_short {c : Instr} {x : RequestShape} (shape : requestShape c = some x) : x.want ≤ 251 := by
  cases c
  all_goals cases shape
  case selDefine d =>
    simp only [DefineReq.wantLength]
    split <;> omega
  all_goals exact of_decide_eq_true rfl

end Sys2Proof.Machine
end

section
/-! SUPPORT. Characters and replies: the bits of a character, and what the characters of a reply amount to, whatever of
it the bus has collected (R112, R113, R115, R191). -/

namespace Sys2Proof.Machine

-- One proof at a time: the whole text is one process, under a memory limit that counts every thread of Lean.
set_option Elab.async false

variable {s : State} {p : Peripheral} {m : Message} {probe : Bool} {left : Nat} {got all : List (Option Byte)}
  {c : Option Byte}

/-! ### Characters (R112, R191) -/

/-- The lowest bits of a number, least significant first, give it modulo their power of two. -/
theorem foldr_testBit (k n : Nat) :
    ((List.range k).map n.testBit).foldr (fun b a => 2 * a + b.toNat) 0 = n % 2 ^ k := by
  induction k generalizing n with
  | zero => simp [Nat.mod_one]
  | succ k ih =>
    have shifted : (fun i => n.testBit (i + 1)) = (n / 2).testBit := funext fun i => Nat.testBit_succ n i
    have lowest : (n.testBit 0).toNat = n % 2 := by
      rw [Nat.testBit_zero]
      rcases Nat.mod_two_eq_zero_or_one n with h | h <;> simp [h]
    rw [List.range_succ_eq_map, List.map_cons, List.map_map, List.foldr_cons, lowest]
    rw [show n.testBit ∘ Nat.succ = (n / 2).testBit from shifted, ih, pow_succ, Nat.mul_comm (2 ^ k) 2, Nat.mod_mul]
    omega

theorem byteOfBits_dataBits (b : Byte) : byteOfBits (dataBits b) = b := by
  have sum : (dataBits b).foldr (fun b n => 2 * n + b.toNat) 0 = b.toNat % 2 ^ 8 := foldr_testBit 8 b.toNat
  rw [byteOfBits, sum, Nat.mod_eq_of_lt b.isLt, BitVec.ofNat_toNat, BitVec.setWidth_eq]

/-- A character whose mode bit is 1 or whose stop bit is 0 is no reply's (R112). -/
theorem busCharacterByte_bits (b : Byte) (mode stop : Bool) : busCharacterByte (false :: (dataBits b ++ [mode, stop])) =
    if mode = false ∧ stop = true then some b else none := by
  have data : (dataBits b ++ [mode, stop]).take 8 = dataBits b := List.take_left' rfl
  have ends : (dataBits b ++ [mode, stop]).drop 8 = [mode, stop] := List.drop_left' rfl
  simp only [busCharacterByte, data, ends, byteOfBits_dataBits, List.cons.injEq, and_true]

/-! ### The judgment of a reply (R115) -/

/-- A reply of one character to a message that expects ACK. -/
theorem replyCommand_of_expectsAck (expects : m.expectsAck = true) (c : Option Byte) : replyCommand m [c] =
    if c = some 0x00 then .ack else if c = some 0xFF then .nak else .badReply := by
  cases c with
  | none => simp [replyCommand, judge]
  | some b =>
    by_cases nak : b = 0xFF
    · subst nak
      simp [replyCommand, judge, nakCharacter]
    · by_cases ack : b = 0x00
      · subst ack
        simp [replyCommand, judge, expects, nakCharacter, ackCharacter]
      · have bad : judge m [some b] = .bad := by simp_all [judge, nakCharacter, ackCharacter]
        simp only [replyCommand, bad, Option.some.injEq, if_neg nak, if_neg ack]

theorem filterMap_some (cs : List Byte) : (cs.map some).filterMap id = cs := by
  rw [List.filterMap_map]
  exact List.filterMap_some

/-- A data reply longer than one character is good by its content (R115). -/
theorem judge_data {cs : List Byte} (expects : m.expectsAck = false) (long : 1 < cs.length) :
    judge m (cs.map some) = if dataGood m cs then .good else .bad := by
  have whole : none ∉ cs.map some := by simp
  have more : cs ≠ [nakCharacter] := fun h => by simp [h] at long
  simp only [judge, if_neg whole, filterMap_some, if_neg more, expects, Bool.false_eq_true, if_false]

/-- A reply with a damaged character in it is bad (R112). -/
theorem replyCommand_of_damaged {cs : List (Option Byte)} (damaged : none ∈ cs) : replyCommand m cs = .badReply := by
  simp only [replyCommand, judge, if_pos damaged]

/-- A reply without a damaged character is its characters. -/
theorem map_some_filterMap {cs : List (Option Byte)} (whole : none ∉ cs) : (cs.filterMap id).map some = cs := by
  induction cs with
  | nil => rfl
  | cons c cs ih =>
    obtain ⟨sound, rest⟩ := not_or.1 (mt List.mem_cons.2 whole)
    obtain ⟨b, rfl⟩ := Option.ne_none_iff_exists'.1 (Ne.symm sound)
    exact congrArg (some b :: ·) (ih rest)

/-- NAK is 0xFF alone, undamaged (R115). -/
theorem eq_of_judge_nak {cs : List (Option Byte)} (nak : judge m cs = .nak) : cs = [some 0xFF] := by
  unfold judge at nak
  split at nak
  · cases nak
  · next whole =>
    dsimp only at nak
    split at nak
    · next only => rw [← map_some_filterMap whole, only]; rfl
    · split at nak
      · split at nak <;> cases nak
      · split at nak <;> cases nak

/-- Of the replies that a gap ends 0xFF alone is NAK; another is cut off (R115). -/
theorem gapCommand_of_ne {cs : List (Option Byte)} (other : cs ≠ [some 0xFF]) : gapCommand m cs = .replyGapExpiry := by
  unfold gapCommand
  split
  · next nak => exact absurd (eq_of_judge_nak nak) other
  · rfl

/-! ### Effects that do not read the bus -/

theorem State.ite_setBus {q : Prop} [Decidable q] {x y x' y' : State} {b : Bus} (h : x' = x.setBus b)
    (k : y' = y.setBus b) : (if q then x' else y') = (if q then x else y).setBus b := by
  split
  · exact h
  · exact k

theorem State.setBus_periph (s : State) (b : Bus) (p : Peripheral) : (s.setBus b).periph p = s.periph p := by
  cases p <;> rfl

theorem State.editPeriph_setBus (s : State) (b : Bus) (p : Peripheral) (f : PeriphRec → PeriphRec) :
    (s.setBus b).editPeriph p f = (s.editPeriph p f).setBus b := by
  cases p <;> rfl

theorem State.creditOrIdle_setBus (s : State) (b : Bus) : (s.setBus b).creditOrIdle = s.creditOrIdle.setBus b :=
  State.ite_setBus rfl rfl

theorem State.stackGone_setBus (s : State) (b : Bus) (r : BillReason) :
    (s.setBus b).stackGone r = (s.stackGone r).setBus b := by
  unfold State.stackGone
  rw [State.setBus_sesc]
  split <;> rfl

theorem State.stackFails_setBus (s : State) (b : Bus) (r : BillReason) :
    (s.setBus b).stackFails r = (s.stackFails r).setBus b := by
  have gone : (s.setBus b).stackFails r = ((s.setBus b).stackGone r).creditOrIdle := rfl
  rw [gone, State.stackGone_setBus, State.creditOrIdle_setBus]
  rfl

theorem State.billLost_setBus (s : State) (b : Bus) : (s.setBus b).billLost = s.billLost.setBus b :=
  State.ite_setBus (s.stackFails_setBus b _) (State.ite_setBus (State.ite_setBus rfl rfl) rfl)

theorem State.validatorGone_setBus (s : State) (b : Bus) (p : Peripheral) :
    (s.setBus b).validatorGone p = (s.validatorGone p).setBus b := by
  cases p with
  | coin => rfl
  | bill => exact s.billLost_setBus b

theorem State.goOffline_setBus (s : State) (b : Bus) (p : Peripheral) :
    (s.setBus b).goOffline p = (s.goOffline p).setBus b := by
  have offline : (s.setBus b).offline p = (s.offline p).setBus b := by cases p <;> rfl
  rw [State.goOffline_eq, offline, State.validatorGone_setBus]
  rfl

theorem State.attemptFails_setBus (s : State) (b : Bus) (p : Peripheral) :
    (s.setBus b).attemptFails p = (s.attemptFails p).setBus b := by
  unfold State.attemptFails
  rw [State.setBus_periph]
  split
  · rfl
  · exact State.ite_setBus (s.editPeriph_setBus b p _) (s.goOffline_setBus b p)

theorem State.probeFails_setBus (s : State) (b : Bus) (p : Peripheral) :
    (s.setBus b).probeFails p = (s.probeFails p).setBus b := by
  unfold State.probeFails
  rw [State.setBus_periph]
  exact State.ite_setBus (by cases p <;> rfl) (s.editPeriph_setBus b p _)

theorem State.exchangeFails_setBus (s : State) (b : Bus) (p : Peripheral) (probe : Bool) :
    (s.setBus b).exchangeFails p probe = (s.exchangeFails p probe).setBus b :=
  State.ite_setBus (s.probeFails_setBus b p) (s.attemptFails_setBus b p)

theorem State.hand_setBus (s : State) (b : Bus) (p : Peripheral) (f : PendingSet → PendingSet) :
    (s.setBus b).hand p f = (s.hand p f).setBus b := by
  unfold State.hand
  rw [State.setBus_periph]
  exact State.ite_setBus (by cases p <;> rfl) rfl

theorem State.updateMask_setBus (s : State) (b : Bus) (p : Peripheral) :
    (s.setBus b).updateMask p = (s.updateMask p).setBus b := by
  have handed := (s.noteMask p (s.maskOf p)).hand_setBus b p fun q => { q with acceptMask := some (s.maskOf p) }
  cases p <;> exact State.ite_setBus rfl handed

theorem State.closeEvent_setBus (s : State) (b : Bus) (before : Session) :
    (s.setBus b).closeEvent before = (s.closeEvent before).setBus b := by
  refine State.ite_setBus rfl ?_
  have coin := (s.raise (.session s.sesc.phase s.sesc.credit s.sesc.escrowValue)).updateMask_setBus b .coin
  exact (congrArg (State.updateMask · .bill) coin).trans (State.updateMask_setBus _ b .bill)

/-- An exchange ends alike whatever the bus has collected of its reply. -/
theorem State.closeExchange_setBus {b : Bus} {f : State → State} (h : f (s.setBus b) = (f s).setBus b) :
    (s.setBus b).closeExchange f = s.closeExchange f := by
  simp only [State.closeExchange, h, State.closeEvent_setBus]
  rfl

/-! ### A reply with characters collected -/

variable {collected : List (Option Byte)}

theorem State.replyFails_setBus (bus : s.cbm.bus = .awaiting p m probe left got) :
    (s.setBus (.awaiting p m probe left collected)).replyFails = s.replyFails := by
  simp only [State.replyFails, bus, State.setBus_cbm]
  exact State.closeExchange_setBus (s.exchangeFails_setBus _ p probe)

theorem State.replySetup_setBus (bus : s.cbm.bus = .awaiting p m probe left got) (cs : List Byte) :
    (s.setBus (.awaiting p m probe left collected)).replySetup cs = s.replySetup cs := by
  have taken (vs : List Nat) : (s.setBus (.awaiting p m probe left collected)).setupTaken p vs = s.setupTaken p vs := by
    cases p <;> rfl
  simp only [State.replySetup, bus, State.setBus_cbm, State.setBus_periph, State.replyFails_setBus bus, taken]

theorem State.replyPoll_setBus (bus : s.cbm.bus = .awaiting p m probe left got) (cs : List Byte) :
    (s.setBus (.awaiting p m probe left collected)).replyPoll cs = s.replyPoll cs := by
  have taken (es : List BusEvent) :
      (s.setBus (.awaiting p m probe left collected)).pollTaken p es = s.pollTaken p es := by
    cases p <;> rfl
  simp only [State.replyPoll, bus, State.setBus_cbm, State.setBus_periph, State.replyFails_setBus bus, taken]

theorem exec_badReply (on : s.power ≠ .off) : exec .badReply s = .next s.replyFails :=
  exec_of_on (f := State.replyFails) rfl on

/-- A SETUP reply that is not good fails (R115, R118). -/
theorem exec_setupReply_of_bad {cs : List Byte} (on : s.power ≠ .off) (bus : s.cbm.bus = .awaiting p m probe left got)
    (bad : setupValuesOf cs = none) : exec (.setupReply cs) s = exec .badReply s := by
  rw [exec_badReply on, exec_of_on (f := fun s => s.replySetup cs) rfl on]
  simp only [State.replySetup, bus, bad, ite_self]

theorem exec_pollReply_of_bad {cs : List Byte} (on : s.power ≠ .off) (bus : s.cbm.bus = .awaiting p m probe left got)
    (bad : pollEventsOf cs = none) : exec (.pollReply cs) s = exec .badReply s := by
  rw [exec_badReply on, exec_of_on (f := fun s => s.replyPoll cs) rfl on]
  simp only [State.replyPoll, bus, bad, ite_self]

/-- What an ended data reply runs does what it does with nothing collected. -/
theorem exec_reply_setBus (on : s.power ≠ .off) (bus : s.cbm.bus = .awaiting p m probe left got) (cs : List Byte) :
    exec .badReply (s.setBus (.awaiting p m probe left collected)) = exec .badReply s ∧
    exec (.setupReply cs) (s.setBus (.awaiting p m probe left collected)) = exec (.setupReply cs) s ∧
    exec (.pollReply cs) (s.setBus (.awaiting p m probe left collected)) = exec (.pollReply cs) s := by
  have run {c : Instr} {f : State → State} (arm : ∀ x, exec c x = .next (x.on f))
      (same : f (s.setBus (.awaiting p m probe left collected)) = f s) :
      exec c (s.setBus (.awaiting p m probe left collected)) = exec c s := by
    rw [exec_of_on (arm s) on, exec_of_on (s := s.setBus (.awaiting p m probe left collected)) (arm _) on, same]
  exact ⟨run (fun _ => rfl) (State.replyFails_setBus bus), run (fun _ => rfl) (State.replySetup_setBus bus cs),
    run (fun _ => rfl) (State.replyPoll_setBus bus cs)⟩

/-- A reply to SETUP of its declared length runs SETUP_REPLY (R115, R118). -/
theorem exec_replyCommand_setup {cs : List Byte} (on : s.power ≠ .off)
    (bus : s.cbm.bus = .awaiting p m probe left got) (long : 1 < cs.length) :
    exec (replyCommand .setup (cs.map some)) s = exec (.setupReply cs) s := by
  have judged := judge_data (m := .setup) rfl long
  cases values : setupValuesOf cs with
  | some vs =>
    rw [dataGood, values, Option.isSome_some, if_pos rfl] at judged
    simp only [replyCommand, judged, filterMap_some]
  | none =>
    rw [dataGood, values, Option.isSome_none, if_neg Bool.false_ne_true] at judged
    simp only [replyCommand, judged]
    exact (exec_setupReply_of_bad on bus values).symm

/-- A reply to POLL of its declared length runs POLL_REPLY (R115, R119). -/
theorem exec_replyCommand_poll {cs : List Byte} (on : s.power ≠ .off)
    (bus : s.cbm.bus = .awaiting p m probe left got) (long : 1 < cs.length) :
    exec (replyCommand .poll (cs.map some)) s = exec (.pollReply cs) s := by
  have judged := judge_data (m := .poll) rfl long
  cases events : pollEventsOf cs with
  | some es =>
    rw [dataGood, events, Option.isSome_some, if_pos rfl] at judged
    simp only [replyCommand, judged, filterMap_some]
  | none =>
    rw [dataGood, events, Option.isSome_none, if_neg Bool.false_ne_true] at judged
    simp only [replyCommand, judged]
    exact (exec_pollReply_of_bad on bus events).symm

/-! ### A reply character by character (R112, R115) -/

theorem takeCharacter_ends (bus : s.cbm.bus = .awaiting p m probe left got)
    (ended : replyEnded m (got ++ [c]) = true) : s.takeCharacter c = exec (replyCommand m (got ++ [c])) s := by
  simp only [State.takeCharacter, bus, ended, if_true]

theorem takeCharacter_collects (on : s.power ≠ .off) (bus : s.cbm.bus = .awaiting p m probe left got)
    (more : replyEnded m (got ++ [c]) = false) :
    s.takeCharacter c = .next (s.setBus (.awaiting p m probe left (got ++ [c]))) := by
  simp only [State.takeCharacter, bus, more, Bool.false_eq_true, if_false, State.on, if_neg on]

theorem takeCharacters_singleton (c : Option Byte) (s : State) : takeCharacters [c] s = s.takeCharacter c := by
  unfold takeCharacters
  split
  · next h => exact h.symm
  · rfl

/-- A reply that ends with its last character and with none before it runs what its end amounts to. -/
theorem takeCharacters_whole {rest : List (Option Byte)} (on : s.power ≠ .off)
    (bus : s.cbm.bus = .awaiting p m probe left got) (whole : all = got ++ rest) (begun : rest ≠ [])
    (ends : ∀ xs, xs <+: all → xs ≠ [] → replyEnded m xs = decide (all.length ≤ xs.length)) :
    takeCharacters rest s = exec (replyCommand m all) (s.setBus (.awaiting p m probe left all.dropLast)) := by
  induction rest generalizing s got with
  | nil => exact absurd rfl begun
  | cons c rest ih =>
    have next_ended := ends (got ++ [c]) ⟨rest, by rw [whole, List.append_assoc]; rfl⟩ (by simp)
    cases rest with
    | nil =>
      have still : s.setBus (.awaiting p m probe left got) = s := by rw [← bus]; rfl
      rw [takeCharacters_singleton, whole, List.dropLast_concat, still]
      rw [whole, decide_eq_true le_rfl] at next_ended
      exact takeCharacter_ends bus next_ended
    | cons d rest =>
      have short : ¬ all.length ≤ (got ++ [c]).length := by
        rw [whole]
        simp
      rw [decide_eq_false short] at next_ended
      rw [takeCharacters, takeCharacter_collects on bus next_ended]
      exact ih on rfl (by rw [whole, List.append_assoc]; rfl) (List.cons_ne_nil _ _)

/-- A reply to SETUP ends with its 33rd character (R115). -/
theorem setup_ends (length : all.length = 33) (xs : List (Option Byte)) :
    replyEnded .setup xs = decide (all.length ≤ xs.length) := by
  rw [length]
  rfl

/-- A reply to POLL ends where its first character says, but at once for 0xFF (R115). -/
theorem poll_ends {n : Byte} (head : all.head? = some (some n)) (count : n ≠ 0xFF)
    (length : all.length = 2 + 2 * n.toNat) {xs : List (Option Byte)} (start : xs <+: all) (begun : xs ≠ []) :
    replyEnded .poll xs = decide (all.length ≤ xs.length) := by
  obtain ⟨rest, rfl⟩ := start
  cases xs with
  | nil => exact absurd rfl begun
  | cons x xs =>
    cases head
    have other : (n == nakCharacter) = false := beq_eq_false_iff_ne.2 count
    rw [length, replyEnded, other, Bool.false_or]
    rfl

theorem expectsAck_of_ne (setup : m ≠ .setup) (poll : m ≠ .poll) : m.expectsAck = true := by
  cases m
  case setup => exact absurd rfl setup
  case poll => exact absurd rfl poll
  all_goals rfl

/-- The reply to a message that expects ACK is its first character (R115). -/
theorem takeBusBits_of_expectsAck (bus : s.cbm.bus = .awaiting p m probe left []) (expects : m.expectsAck = true)
    (bits : List Bool) : s.takeBusBits bits =
      exec (if busCharacterByte bits = some 0x00 then .ack else if busCharacterByte bits = some 0xFF then .nak
        else .badReply) s := by
  have ended : replyEnded m ([] ++ [busCharacterByte bits]) = true := by
    unfold replyEnded
    rw [if_pos expects]
    rfl
  rw [State.takeBusBits, takeCharacter_ends bus ended, List.nil_append, replyCommand_of_expectsAck expects]

/-- A data reply of its declared length runs its command, and is bad with a damaged character in it (R112, R115). -/
theorem takeCharacters_setup (on : s.power ≠ .off) (bus : s.cbm.bus = .awaiting p .setup probe left []) :
    (∀ cs : List Byte, cs.length = 33 → takeCharacters (cs.map some) s = exec (.setupReply cs) s) ∧
    ∀ cs : List (Option Byte), none ∈ cs → cs.length = 33 → takeCharacters cs s = exec .badReply s := by
  have whole (all : List (Option Byte)) (length : all.length = 33) : takeCharacters all s =
      exec (replyCommand .setup all) (s.setBus (.awaiting p .setup probe left all.dropLast)) :=
    takeCharacters_whole on bus rfl (fun h => by simp [h] at length) fun xs _ _ => setup_ends length xs
  refine ⟨fun cs length => ?_, fun cs damaged length => ?_⟩
  · obtain ⟨-, same, -⟩ := exec_reply_setBus (collected := (cs.map some).dropLast) on bus cs
    rw [whole _ (by rwa [List.length_map]), ← same]
    exact exec_replyCommand_setup on rfl (by omega)
  · obtain ⟨same, -⟩ := exec_reply_setBus (collected := cs.dropLast) on bus []
    rw [whole cs length, replyCommand_of_damaged damaged, same]

theorem takeCharacters_poll (on : s.power ≠ .off) (bus : s.cbm.bus = .awaiting p .poll probe left []) {n : Byte}
    (count : n ≠ 0xFF) :
    (∀ cs : List Byte, cs.head? = some n → cs.length = 2 + 2 * n.toNat →
      takeCharacters (cs.map some) s = exec (.pollReply cs) s) ∧
    ∀ cs : List (Option Byte), none ∈ cs → cs.head? = some (some n) → cs.length = 2 + 2 * n.toNat →
      takeCharacters cs s = exec .badReply s := by
  have whole (all : List (Option Byte)) (head : all.head? = some (some n)) (length : all.length = 2 + 2 * n.toNat) :
      takeCharacters all s =
        exec (replyCommand .poll all) (s.setBus (.awaiting p .poll probe left all.dropLast)) :=
    takeCharacters_whole on bus rfl (fun h => by simp [h] at head) fun _ => poll_ends head count length
  refine ⟨fun cs head length => ?_, fun cs damaged head length => ?_⟩
  · obtain ⟨-, -, same⟩ := exec_reply_setBus (collected := (cs.map some).dropLast) on bus cs
    rw [whole _ (by rw [List.head?_map, head]; rfl) (by rwa [List.length_map]), ← same]
    exact exec_replyCommand_poll on rfl (by omega)
  · obtain ⟨same, -⟩ := exec_reply_setBus (collected := cs.dropLast) on bus []
    rw [whole cs head length, replyCommand_of_damaged damaged, same]

/-- 0xFF is NAK at once for POLL (R115). -/
theorem takeCharacter_poll_nak (bus : s.cbm.bus = .awaiting p .poll probe left []) :
    s.takeCharacter (some 0xFF) = exec .nak s := takeCharacter_ends bus rfl

/-- A gap behind a reply begun ends it, and its window no longer runs (R115). -/
theorem takeGap_of_begun (bus : s.cbm.bus = .awaiting p m probe left (c :: got)) :
    s.takeGap = exec (gapCommand m (c :: got)) s := by
  simp only [State.takeGap, bus]

theorem exec_replyWindowExpiry_of_begun (bus : s.cbm.bus = .awaiting p m probe left (c :: got)) :
    exec .replyWindowExpiry s = .next s := by
  have run : exec .replyWindowExpiry s = .next (s.on fun s => s.expire s.cbm.bus.windowLeft State.replyFails) := rfl
  have none_left : s.expire s.cbm.bus.windowLeft State.replyFails = s := by
    rw [bus]
    rfl
  rw [run, State.on, none_left, ite_self]

/-- With no reply awaited a character is discarded, and a gap is none's (R115). -/
theorem take_of_not_awaiting (idle : ∀ p m probe left got, s.cbm.bus ≠ .awaiting p m probe left got) (c : Option Byte) :
    s.takeCharacter c = .next s ∧ s.takeGap = .next s := by
  unfold State.takeCharacter State.takeGap
  cases bus : s.cbm.bus with
  | awaiting p m probe left got => exact absurd bus (idle p m probe left got)
  | _ => exact ⟨rfl, rfl⟩

/-- CBTXE is asserted exactly while the part sends or is to confirm (R113). -/
theorem State.cbtxe_iff : s.cbtxe = true ↔ s.power ≠ .off ∧
    ((∃ p m probe, s.cbm.bus = .sending p m probe) ∨ ∃ p, s.cbm.bus = .confirming p) := by
  have drives : s.drives = true ↔ s.power ≠ .off := by simp [State.drives]
  rw [State.cbtxe, Bool.and_eq_true, drives]
  cases s.cbm.bus <;> simp

/-- Settles O6: the frames by their checks (`charSum_checked`), the requests read back (`request_readsBack`) and
received (`takeBytes_requestFrame`), and the replies by their characters (`takeCharacters_whole`). -/
theorem framesAndReplies : Obligations.FramesAndReplies := by
  refine ⟨⟨fun r => ⟨_, rfl, charSum_checked _⟩, masterFrame_check, masterFrameModes_address⟩,
    ⟨fun _ _ => pollEventsOf_good, fun _ _ => setupValuesOf_good⟩,
    ⟨fun code body => ⟨_, rfl, requestFrame_sum code body⟩,
      fun c x shape length sends => request_readsBack shape length sends,
      fun _ body unknown => requestOf_unknown body unknown, fun c x s shape length sends running idle => ?_⟩,
    fun b mode => rfl, fun b => rfl, busCharacterByte_bits,
    fun s p m probe left on bus => ⟨fun setup poll bits => ?_, fun poll => ?_, fun cs => ⟨fun setup length => ?_,
      fun n poll head count length => ?_⟩, fun cs damaged => ⟨fun setup length => ?_,
      fun n poll head count length => ?_⟩⟩,
    fun s p m probe left c got bus => ⟨fun setup char alone => ?_, fun other => ?_,
      exec_replyWindowExpiry_of_begun bus⟩,
    fun s c idle => take_of_not_awaiting idle c, fun s => State.cbtxe_iff⟩
  · obtain ⟨size, reads⟩ := request_readsBack shape length sends
    rw [takeBytes_requestFrame running idle (size.trans_le (requestShape_short shape)), reads]
  · have run := takeBusBits_of_expectsAck bus (expectsAck_of_ne setup poll) bits
    refine ⟨fun ack => ?_, fun nak => ?_, fun ack nak => ?_⟩
    · rw [run, if_pos ack]
    · rw [run, nak]
      rfl
    · rw [run, if_neg ack, if_neg nak]
  · subst poll
    exact takeCharacter_poll_nak bus
  · subst setup
    exact (takeCharacters_setup on bus).1 cs length
  · subst poll
    exact (takeCharacters_poll on bus count).1 cs head length
  · subst setup
    exact (takeCharacters_setup on bus).2 cs damaged length
  · subst poll
    exact (takeCharacters_poll on bus count).2 cs damaged head length
  · subst setup char alone
    exact takeGap_of_begun bus
  · rw [takeGap_of_begun bus, gapCommand_of_ne fun only => ?_]
    obtain ⟨char, alone⟩ := List.cons.inj only
    exact other.elim (fun h => h char) fun h => h alone

end Sys2Proof.Machine
end
